-- ==== Sys2Proof/Word.lean ====
section
/-! DEFINITION. The one word type of the part's byte streams: the link, the kiln line, the
board-message input and the label port all carry 8-bit characters (R181 to R185). -/

namespace Sys2Proof

/-- One 8-bit character of any of the four byte streams. -/
abbrev Byte := BitVec 8

end Sys2Proof
end

