-- ==== Sys2Proof/Config.lean ====
section
/-! DEFINITION. What the part fixes once and for all: the capacities that PART_IDENT reports (R180)
and the bounds at which counters are held. The specification leaves no value open, so there is no
free value here. -/

namespace Sys2Proof.Config

/-- Charge slots (R1). -/
abbrev chargeSlots : Nat := 64
/-- Species table entries (R21). -/
abbrev speciesEntries : Nat := 16
/-- Schedule slots (R40). -/
abbrev scheduleSlots : Nat := 32
/-- Kiln chambers (R55). -/
abbrev chambers : Nat := 12
/-- Transit queue places (R93). -/
abbrev transitPlaces : Nat := 32
/-- Bins and gates (R114). -/
abbrev bins : Nat := 16
/-- Pack records (R131). -/
abbrev packSlots : Nat := 48
/-- Label templates (R151). -/
abbrev templates : Nat := 4
/-- Columns of a label frame (R151). -/
abbrev frameColumns : Nat := 40
/-- Rows of a label frame (R151). -/
abbrev frameRows : Nat := 12
/-- Largest payload of a request or an answer (R173). -/
abbrev maxPayload : Nat := 250
/-- The chain position counter counts modulo this (R94). -/
abbrev chainModulus : Nat := 16777216
/-- Half the chain modulus: a target is reached when the difference is below it (R94). -/
abbrev chainHalf : Nat := 8388608
/-- Largest value of a 24-bit count: boards seen (R1), elapsed minutes and working limit (R55). -/
abbrev max24 : Nat := 16777215
/-- Largest value of a 16-bit counter that is held (R79, R93). -/
abbrev max16 : Nat := 65535

end Sys2Proof.Config
end

