-- ==== Sys2Proof/Syntax.lean ====
section
/-! DEFINITION. The commands of the part, one constructor for each row of spec/opcode_table.json.

A request row carries what the host clocks after the request code: the declared payload length and
the bytes that follow it, padding included (R174; DESIGN CHOICE, assumption 7). A field row carries
what the event brings. -/

namespace Sys2Proof

/-- A character as the part takes it from KILN_RX or BRD_RX, with the error mark it carries: a framing or parity
error on the kiln line (R183), a framing error on the board-message input (R184). -/
structure RxChar where
  value : Byte
  error : Bool
  deriving DecidableEq, Repr

/-- The bits of a character on the kiln line in the order in which they are on the line, the start bit
as bit 0: start bit, eight data bits, parity bit, stop bit (R183). -/
abbrev KilnFrame := BitVec 11

/-- The bits of a character on the board-message input in the order in which they are on the line, the
start bit as bit 0: start bit, eight data bits, stop bit (R184). -/
abbrev BoardFrame := BitVec 10

/-- The commands, in the order of the table. -/
inductive Instr where
  /-- POWER_ON, R1. -/
  | powerOn
  /-- RESET_N_ASSERT, R178. -/
  | resetNAssert
  /-- RESET_N_RELEASE, R79. `selLow`: LINK_SEL_N is low at the release (R178). -/
  | resetNRelease (selLow : Bool)
  /-- READ_ANSWER, R177. `mosi`: the bytes the host sends after the leading 0, one for each byte it clocks out (R177). -/
  | readAnswer (mosi : List Byte)
  /-- BROKEN_REQUEST_TRANSFER, R175. `received`: the complete bytes received, the first of them the request code (R175). -/
  | brokenRequestTransfer (received : List Byte)
  /-- EMPTY_TRANSFER, R175. -/
  | emptyTransfer
  /-- UNKNOWN_REQUEST, R176. `code` names no request (R176). -/
  | unknownRequest (code declared : Byte) (bytes : List Byte)
  /-- PART_IDENT, R180. -/
  | partIdent (declared : Byte) (bytes : List Byte)
  /-- CHARGE_CREATE, R5. -/
  | chargeCreate (declared : Byte) (bytes : List Byte)
  /-- CHARGE_READ, R6. -/
  | chargeRead (declared : Byte) (bytes : List Byte)
  /-- CHARGE_LIST, R7. -/
  | chargeList (declared : Byte) (bytes : List Byte)
  /-- CHARGE_LIMITS, R8. -/
  | chargeLimits (declared : Byte) (bytes : List Byte)
  /-- CHARGE_RELEASE, R20. -/
  | chargeRelease (declared : Byte) (bytes : List Byte)
  /-- CHARGE_FEED_END, R9. -/
  | chargeFeedEnd (declared : Byte) (bytes : List Byte)
  /-- CHARGE_RETIRE, R10. -/
  | chargeRetire (declared : Byte) (bytes : List Byte)
  /-- SPECIES_SET, R22. -/
  | speciesSet (declared : Byte) (bytes : List Byte)
  /-- SPECIES_READ, R23. -/
  | speciesRead (declared : Byte) (bytes : List Byte)
  /-- MC_TEST, R38. -/
  | mcTest (declared : Byte) (bytes : List Byte)
  /-- SCHED_DEFINE, R45. -/
  | schedDefine (declared : Byte) (bytes : List Byte)
  /-- SCHED_AMEND, R47. -/
  | schedAmend (declared : Byte) (bytes : List Byte)
  /-- SCHED_READ, R48. -/
  | schedRead (declared : Byte) (bytes : List Byte)
  /-- SCHED_DELETE, R49. -/
  | schedDelete (declared : Byte) (bytes : List Byte)
  /-- CHAMBER_LOAD, R68. -/
  | chamberLoad (declared : Byte) (bytes : List Byte)
  /-- CHAMBER_START, R70. -/
  | chamberStart (declared : Byte) (bytes : List Byte)
  /-- CHAMBER_HOLD, R71. -/
  | chamberHold (declared : Byte) (bytes : List Byte)
  /-- CHAMBER_RESUME, R72. -/
  | chamberResume (declared : Byte) (bytes : List Byte)
  /-- CHAMBER_SKIP, R73. -/
  | chamberSkip (declared : Byte) (bytes : List Byte)
  /-- CHAMBER_RELOAD, R74. -/
  | chamberReload (declared : Byte) (bytes : List Byte)
  /-- CHAMBER_ABORT, R75. -/
  | chamberAbort (declared : Byte) (bytes : List Byte)
  /-- CHAMBER_UNLOAD, R76. -/
  | chamberUnload (declared : Byte) (bytes : List Byte)
  /-- CHAMBER_READ, R77. -/
  | chamberRead (declared : Byte) (bytes : List Byte)
  /-- KILN_PORT_SET, R90. -/
  | kilnPortSet (declared : Byte) (bytes : List Byte)
  /-- KILN_PORT_READ, R91. -/
  | kilnPortRead (declared : Byte) (bytes : List Byte)
  /-- LINE_SET, R110. -/
  | lineSet (declared : Byte) (bytes : List Byte)
  /-- DIMENSION_SET, R109. -/
  | dimensionSet (declared : Byte) (bytes : List Byte)
  /-- TRANSIT_READ, R111. -/
  | transitRead (declared : Byte) (bytes : List Byte)
  /-- LINE_RESTART, R112. -/
  | lineRestart (declared : Byte) (bytes : List Byte)
  /-- PLAN_LOAD_HEADER, R120. -/
  | planLoadHeader (declared : Byte) (bytes : List Byte)
  /-- PLAN_LOAD_RULES, R121. -/
  | planLoadRules (declared : Byte) (bytes : List Byte)
  /-- PLAN_SWITCH, R122. -/
  | planSwitch (declared : Byte) (bytes : List Byte)
  /-- PLAN_READ, R125. -/
  | planRead (declared : Byte) (bytes : List Byte)
  /-- PACK_READ, R142. -/
  | packRead (declared : Byte) (bytes : List Byte)
  /-- PACK_LIST, R143. -/
  | packList (declared : Byte) (bytes : List Byte)
  /-- PACK_CLOSE, R144. -/
  | packClose (declared : Byte) (bytes : List Byte)
  /-- PACK_RELEASE, R145. -/
  | packRelease (declared : Byte) (bytes : List Byte)
  /-- PACK_REJECT, R146. -/
  | packReject (declared : Byte) (bytes : List Byte)
  /-- PACK_RETIRE, R147. -/
  | packRetire (declared : Byte) (bytes : List Byte)
  /-- PACK_NUMBER_SET, R148. -/
  | packNumberSet (declared : Byte) (bytes : List Byte)
  /-- TEMPLATE_LOAD_HEADER, R152. -/
  | templateLoadHeader (declared : Byte) (bytes : List Byte)
  /-- TEMPLATE_LOAD_PLACEMENT, R153. -/
  | templateLoadPlacement (declared : Byte) (bytes : List Byte)
  /-- TEMPLATE_READ, R154. -/
  | templateRead (declared : Byte) (bytes : List Byte)
  /-- LABEL_REPRINT, R164. -/
  | labelReprint (declared : Byte) (bytes : List Byte)
  /-- LABEL_READ, R165. -/
  | labelRead (declared : Byte) (bytes : List Byte)
  /-- LABEL_PORT_SET, R163. -/
  | labelPortSet (declared : Byte) (bytes : List Byte)
  /-- LABEL_PORT_CLEAR, R163. -/
  | labelPortClear (declared : Byte) (bytes : List Byte)
  /-- ATTN_READ, R169. -/
  | attnRead (declared : Byte) (bytes : List Byte)
  /-- ATTN_ACK, R170. -/
  | attnAck (declared : Byte) (bytes : List Byte)
  /-- ATTN_MASK, R171. -/
  | attnMask (declared : Byte) (bytes : List Byte)
  /-- MINUTE_TICK, R64. -/
  | minuteTick
  /-- WORKING_LIMIT_REACHED, R64. `chamber`: the chamber whose limit action is taken (R64). -/
  | workingLimitReached (chamber : Nat)
  /-- ROUND_TIMER_EXPIRY, R80. -/
  | roundTimerExpiry
  /-- DEFERRED_ROUND_START, R81. -/
  | deferredRoundStart
  /-- TRANSACTION, R83. -/
  | transaction
  /-- SETPOINT_SENT, R83. -/
  | setpointSent
  /-- SCAN_REPLY, R85. `frames`: the characters that arrive on KILN_RX, as the bits on the line (R84, R183). -/
  | scanReply (frames : List KilnFrame)
  /-- REPLY_WINDOW_CLOSE, R84. `frames`: the characters that arrived in the window and have not been taken yet, often none, as the bits on the line (R84, R183). -/
  | replyWindowClose (frames : List KilnFrame)
  /-- ENC_PULSE, R94. -/
  | encPulse
  /-- EDGE, R96. -/
  | edge
  /-- EXPIRY, R101. The entry is the oldest in AWAITING_DATA (R101). -/
  | expiry
  /-- BOARD_MESSAGE, R99. `frames`: the characters that arrive on BRD_RX, as the bits on the line; the last one completes the message (R184). -/
  | boardMessage (frames : List BoardFrame)
  /-- OPEN_EVENT, R106. `sequence`: the edge sequence of the entry at its open position (R106). -/
  | openEvent (sequence : Nat)
  /-- CLOSE_EVENT, R106. `sequence`: the edge sequence of the entry at its close position (R106). -/
  | closeEvent (sequence : Nat)
  /-- COMPOSITION, R156. -/
  | composition
  /-- LBL_START, R160. -/
  | lblStart
  /-- ROW_READ, R161. `clocks`: rising edges of LBL_CLK, 320 for a whole row (R185). -/
  | rowRead (clocks : Nat)
  /-- LBL_END, R162. -/
  | lblEnd
  /-- PASS_TIMEOUT_EXPIRY, R162. -/
  | passTimeoutExpiry
  /-- START_CHARACTER, R184. -/
  | startCharacter
  deriving DecidableEq, Repr

end Sys2Proof
end

