-- ==== Sys2Proof/Decode.lean ====
section
/-! DEFINITION. What a transfer of the supervisory link stands for (R173 to R177, R182), its inverse,
and the host's decodeTableWord. The opcode table gives no row any bits, so no word of it spells a
command. -/

namespace Sys2Proof

/-- The command a table word spells: none, because spec/opcode_table.json gives no row any bits (assumption 14). -/
def decodeTableWord (_nbits _w : Nat) : Option Instr := none

/-- The request code of a request row (R182); an unknown request carries its own. -/
def requestCode : Instr → Option Byte
  | .unknownRequest code _ _ => some code
  | .partIdent _ _ => some 1
  | .chargeCreate _ _ => some 16
  | .chargeRead _ _ => some 17
  | .chargeList _ _ => some 18
  | .chargeLimits _ _ => some 19
  | .chargeRelease _ _ => some 20
  | .chargeFeedEnd _ _ => some 21
  | .chargeRetire _ _ => some 22
  | .speciesSet _ _ => some 32
  | .speciesRead _ _ => some 33
  | .mcTest _ _ => some 34
  | .schedDefine _ _ => some 48
  | .schedAmend _ _ => some 49
  | .schedRead _ _ => some 50
  | .schedDelete _ _ => some 51
  | .chamberLoad _ _ => some 64
  | .chamberStart _ _ => some 65
  | .chamberHold _ _ => some 66
  | .chamberResume _ _ => some 67
  | .chamberSkip _ _ => some 68
  | .chamberReload _ _ => some 69
  | .chamberAbort _ _ => some 70
  | .chamberUnload _ _ => some 71
  | .chamberRead _ _ => some 72
  | .kilnPortSet _ _ => some 80
  | .kilnPortRead _ _ => some 81
  | .lineSet _ _ => some 96
  | .dimensionSet _ _ => some 97
  | .transitRead _ _ => some 98
  | .lineRestart _ _ => some 99
  | .planLoadHeader _ _ => some 112
  | .planLoadRules _ _ => some 112
  | .planSwitch _ _ => some 113
  | .planRead _ _ => some 114
  | .packRead _ _ => some 128
  | .packList _ _ => some 129
  | .packClose _ _ => some 130
  | .packRelease _ _ => some 131
  | .packReject _ _ => some 132
  | .packRetire _ _ => some 133
  | .packNumberSet _ _ => some 134
  | .templateLoadHeader _ _ => some 144
  | .templateLoadPlacement _ _ => some 144
  | .templateRead _ _ => some 145
  | .labelReprint _ _ => some 146
  | .labelRead _ _ => some 147
  | .labelPortSet _ _ => some 148
  | .labelPortClear _ _ => some 149
  | .attnRead _ _ => some 160
  | .attnAck _ _ => some 161
  | .attnMask _ _ => some 162
  | .powerOn | .resetNAssert | .resetNRelease _ | .readAnswer _ | .brokenRequestTransfer _
  | .emptyTransfer | .minuteTick | .workingLimitReached _ | .roundTimerExpiry | .deferredRoundStart
  | .transaction | .setpointSent | .scanReply _ | .replyWindowClose _ | .encPulse | .edge | .expiry
  | .boardMessage _ | .openEvent _ | .closeEvent _ | .composition | .lblStart | .rowRead _ | .lblEnd
  | .passTimeoutExpiry | .startCharacter => none

/-- The declared length and the bytes after it of a request row. -/
def requestBody : Instr → Option (Byte × List Byte)
  | .unknownRequest _ d b => some (d, b)
  | .partIdent d b | .chargeCreate d b | .chargeRead d b | .chargeList d b | .chargeLimits d b
  | .chargeRelease d b | .chargeFeedEnd d b | .chargeRetire d b | .speciesSet d b | .speciesRead d b
  | .mcTest d b | .schedDefine d b | .schedAmend d b | .schedRead d b | .schedDelete d b
  | .chamberLoad d b | .chamberStart d b | .chamberHold d b | .chamberResume d b | .chamberSkip d b
  | .chamberReload d b | .chamberAbort d b | .chamberUnload d b | .chamberRead d b | .kilnPortSet d b
  | .kilnPortRead d b | .lineSet d b | .dimensionSet d b | .transitRead d b | .lineRestart d b
  | .planLoadHeader d b | .planLoadRules d b | .planSwitch d b | .planRead d b | .packRead d b
  | .packList d b | .packClose d b | .packRelease d b | .packReject d b | .packRetire d b
  | .packNumberSet d b | .templateLoadHeader d b | .templateLoadPlacement d b | .templateRead d b
  | .labelReprint d b | .labelRead d b | .labelPortSet d b | .labelPortClear d b | .attnRead d b
  | .attnAck d b | .attnMask d b => some (d, b)
  | .powerOn | .resetNAssert | .resetNRelease _ | .readAnswer _ | .brokenRequestTransfer _
  | .emptyTransfer | .minuteTick | .workingLimitReached _ | .roundTimerExpiry | .deferredRoundStart
  | .transaction | .setpointSent | .scanReply _ | .replyWindowClose _ | .encPulse | .edge | .expiry
  | .boardMessage _ | .openEvent _ | .closeEvent _ | .composition | .lblStart | .rowRead _ | .lblEnd
  | .passTimeoutExpiry | .startCharacter => none

/-- The payload of a part of PLAN_LOAD or TEMPLATE_LOAD begins with part kind 1 (R181). -/
def isSecondPart (declared : Byte) (bs : List Byte) : Bool :=
  decide (0 < declared.toNat) && decide (declared.toNat ≤ 250) && bs.head? == some 1

/-- The request row of a code, with its declared length and the bytes after it (R182); a code the table
does not list is an unknown request. -/
def decodeRequest (code declared : Byte) (bs : List Byte) : Instr :=
  match code.toNat with
  | 1 => .partIdent declared bs
  | 16 => .chargeCreate declared bs
  | 17 => .chargeRead declared bs
  | 18 => .chargeList declared bs
  | 19 => .chargeLimits declared bs
  | 20 => .chargeRelease declared bs
  | 21 => .chargeFeedEnd declared bs
  | 22 => .chargeRetire declared bs
  | 32 => .speciesSet declared bs
  | 33 => .speciesRead declared bs
  | 34 => .mcTest declared bs
  | 48 => .schedDefine declared bs
  | 49 => .schedAmend declared bs
  | 50 => .schedRead declared bs
  | 51 => .schedDelete declared bs
  | 64 => .chamberLoad declared bs
  | 65 => .chamberStart declared bs
  | 66 => .chamberHold declared bs
  | 67 => .chamberResume declared bs
  | 68 => .chamberSkip declared bs
  | 69 => .chamberReload declared bs
  | 70 => .chamberAbort declared bs
  | 71 => .chamberUnload declared bs
  | 72 => .chamberRead declared bs
  | 80 => .kilnPortSet declared bs
  | 81 => .kilnPortRead declared bs
  | 96 => .lineSet declared bs
  | 97 => .dimensionSet declared bs
  | 98 => .transitRead declared bs
  | 99 => .lineRestart declared bs
  | 112 => if isSecondPart declared bs then .planLoadRules declared bs else .planLoadHeader declared bs
  | 113 => .planSwitch declared bs
  | 114 => .planRead declared bs
  | 128 => .packRead declared bs
  | 129 => .packList declared bs
  | 130 => .packClose declared bs
  | 131 => .packRelease declared bs
  | 132 => .packReject declared bs
  | 133 => .packRetire declared bs
  | 134 => .packNumberSet declared bs
  | 144 => if isSecondPart declared bs then .templateLoadPlacement declared bs else .templateLoadHeader declared bs
  | 145 => .templateRead declared bs
  | 146 => .labelReprint declared bs
  | 147 => .labelRead declared bs
  | 148 => .labelPortSet declared bs
  | 149 => .labelPortClear declared bs
  | 160 => .attnRead declared bs
  | 161 => .attnAck declared bs
  | 162 => .attnMask declared bs
  | _ => .unknownRequest code declared bs

/-- A request transfer whose header has arrived ends broken: its declared length is 250 or less and
fewer bytes have followed (R175). -/
def isBroken (declared : Byte) (bs : List Byte) : Bool :=
  decide (declared.toNat ≤ 250) && decide (bs.length < declared.toNat)

/-- The command that the complete bytes of one transfer stand for (R173 to R177). -/
def decodeTransfer : List Byte → Instr
  | [] => .emptyTransfer
  | [c] => if c = 0 then .readAnswer [] else .brokenRequestTransfer [c]
  | c :: d :: bs =>
    if c = 0 then .readAnswer (d :: bs)
    else if isBroken d bs then .brokenRequestTransfer (c :: d :: bs)
    else decodeRequest c d bs

/-- The complete bytes of the transfer that a link command stands for; none for a field event. -/
def encodeTransfer (i : Instr) : Option (List Byte) :=
  match i with
  | .emptyTransfer => some []
  | .readAnswer mosi => some (0 :: mosi)
  | .brokenRequestTransfer received => some received
  | i =>
    match requestCode i, requestBody i with
    | some c, some (d, bs) => some (c :: d :: bs)
    | _, _ => none

end Sys2Proof
end

