-- ==== Sys2Proof/Machine/State.lean ====
section
/-! DEFINITION. The state of the part: every record the specification gives each of the twelve
blocks, the queue of waiting commands, and the state after reset.

A field marked MODEL is the model's own: the specification does not name it, and INVENTORY.md says
why it is here. The output lines (ATTN_N, GATE0..15, LBL_READY, LBL_DATA, KILN_DIR) are functions of
these records and stand in Machine/Flags.lean. -/

namespace Sys2Proof.Machine

/-! ## Link Interface (R173, R179) -/

/-- The status of an answer (R179, R182). -/
inductive Status where
  | ok | noAnswer | unknownRequest | badLength | badField | noSuch | wrongState | inUse | duplicate | full | busy
  deriving DecidableEq, Repr

/-- The transfer state of the Link Interface (R173). -/
inductive TransferState where
  | idle | receiving | answering | discarding
  deriving DecidableEq, Repr

/-- The answer buffer: a status and the payload, whose length is the answer length (R173). -/
structure Answer where
  status : Status
  payload : List Byte
  deriving DecidableEq, Repr

/-- The Link Interface's records (R173). -/
structure Link where
  transfer : TransferState
  /-- The request assembly buffer: the code, the declared length and the stored payload (R173, R174). -/
  assembly : List Byte
  /-- The count of complete bytes received in the request transfer (R173). -/
  count : Nat
  answer : Answer
  /-- MODEL: the bytes the part drove on LINK_MISO in the transfer taken last (R174, R177). Assumption 9. -/
  miso : List Byte
  deriving DecidableEq, Repr

/-! ## Charge Table (R1) -/

/-- The five states of a charge (R1). -/
inductive ChargeState where
  | staged | kiln | dried | inFeed | fed
  deriving DecidableEq, Repr

/-- A live charge record (R1). -/
structure Charge where
  number : Nat
  species : Nat
  dry : Nat
  target : Nat
  wet : Nat
  qmin : Nat
  qp : Nat
  loaded : Option Nat
  state : ChargeState
  chamber : Option Nat
  estMean : Option Nat
  estWettest : Option Nat
  seen : Nat
  measured : Nat
  unmeasured : Nat
  wetCount : Nat
  overdry : Nat
  mcSum : Nat
  lowest : Option Nat
  highest : Option Nat
  winMeasured : Nat
  winWet : Nat
  quarantined : Bool
  transitRef : Nat
  packRef : Nat
  deriving DecidableEq, Repr

/-! ## Moisture Calculator (R21) -/

/-- A calibration: slope, offset and temperature coefficient (R21). -/
structure Calibration where
  slope : Nat
  offset : Int
  coeff : Nat
  deriving DecidableEq, Repr

/-- A species table entry (R21). -/
structure Species where
  group : Nat
  /-- The short name, 8 character codes. -/
  name : List Byte
  meter : Calibration
  probe : Calibration
  deriving DecidableEq, Repr

/-- The mark of a reading (R25, R29). -/
inductive Mark where
  | none | low | high | unmeasured
  deriving DecidableEq, Repr

/-- The moisture class of a board (R30). -/
inductive MClass where
  | pass | wet | overdry | unmeasured
  deriving DecidableEq, Repr

/-! ## Schedule Store (R40, R41) -/

/-- The advance kind of a step (R41). -/
inductive AdvanceKind where
  | time | meanBelow | wettestBelow
  deriving DecidableEq, Repr

/-- The on-limit action of a step (R41). -/
inductive OnLimit where
  | advance | hold
  deriving DecidableEq, Repr

/-- A step record (R41). -/
structure Step where
  dryTarget : Nat
  depression : Nat
  ramp : Nat
  kind : AdvanceKind
  threshold : Nat
  duration : Nat
  onLimit : OnLimit
  deriving DecidableEq, Repr

/-- A defined schedule; its step count is the length of its step list (R40). -/
structure Schedule where
  revision : Nat
  steps : List Step
  refCount : Nat
  deriving DecidableEq, Repr

/-! ## Chamber Sequencer (R55) -/

/-- The six states of a chamber (R55). -/
inductive ChamberState where
  | empty | loaded | running | hold | complete | aborted
  deriving DecidableEq, Repr

/-- How the chamber last left a step (R55). -/
inductive LastAdvance where
  | none | time | moisture | forced | skipped
  deriving DecidableEq, Repr

/-- The hold-cause set (R55, R57). -/
structure Causes where
  request : Bool
  line : Bool
  module : Bool
  stepLimit : Bool
  deriving DecidableEq, Repr

/-- The fields present from CHAMBER_START to CHAMBER_UNLOAD: the working copy (step index, source
revision, step fields), elapsed minutes, working limit and active setpoints (R52, R55). -/
structure Run where
  index : Nat
  revision : Nat
  step : Step
  elapsed : Nat
  limit : Nat
  dry : Nat
  wet : Nat
  deriving DecidableEq, Repr

/-- The module status of a scan (R55, R183). -/
structure ModuleStatus where
  heatFault : Bool
  fanFault : Bool
  ventFault : Bool
  deriving DecidableEq, Repr

/-- The last scan of a chamber (R55). -/
structure Scan where
  dry : Int
  wet : Int
  status : ModuleStatus
  count : Nat
  deriving DecidableEq, Repr

/-- The result held for a probe position (R32). -/
structure ProbeResult where
  mc : Option Nat
  mark : Mark
  deriving DecidableEq, Repr

/-- A chamber record (R55). -/
structure Chamber where
  state : ChamberState
  chargeSlot : Option Nat
  schedule : Option Nat
  run : Option Run
  causes : Causes
  lastAdvance : LastAdvance
  lastScan : Option Scan
  /-- The probe results of the positions up to the last scan's probe count. -/
  probes : List ProbeResult
  estMean : Option Nat
  estWettest : Option Nat
  /-- MODEL: a minute tick found elapsed minutes at or above the working limit, and the second
  action of that tick (R64) has not been taken yet. Assumption 2. -/
  limitDue : Bool
  deriving DecidableEq, Repr

/-! ## Kiln Port Controller (R79) -/

/-- Round settings (R79). -/
structure PortSettings where
  period : Nat
  window : Nat
  missLimit : Nat
  deriving DecidableEq, Repr

/-- The round state (R79). -/
inductive RoundState where
  | idle | polling
  deriving DecidableEq, Repr

/-- The phase of the transaction in flight (R79). -/
inductive Phase where
  | sending | listening
  deriving DecidableEq, Repr

/-- The mode a SETPOINT message carries (R59). -/
inductive Mode where
  | off | run | hold
  deriving DecidableEq, Repr

/-- A composed SETPOINT message (R62, R183). -/
structure Setpoint where
  mode : Mode
  dry : Nat
  wet : Nat
  deriving DecidableEq, Repr

/-- The transaction in flight (R79, R83). -/
structure Transaction where
  chamber : Nat
  phase : Phase
  /-- The message as composed, fixed from that moment (R83). -/
  message : Setpoint
  received : List RxChar
  deriving DecidableEq, Repr

/-- The last outcome of a module (R79, R85). -/
inductive ReplyOutcome where
  | none | accepted | noReply | characterError | badLength | wrongAddress | outOfRange
  deriving DecidableEq, Repr

/-- The record of a module address (R79). -/
structure Module where
  misses : Nat
  outcome : ReplyOutcome
  deriving DecidableEq, Repr

/-- The Kiln Port Controller's records (R79). -/
structure Port where
  inForce : PortSettings
  requested : PortSettings
  round : RoundState
  snapshot : List Nat
  /-- The position in the snapshot now being served. -/
  turn : Option Nat
  startPending : Bool
  lost : Nat
  transaction : Option Transaction
  modules : List Module
  /-- The round timer: the period it was last started with, absent while RESET_N is asserted. Assumption 9. -/
  roundTimer : Option Nat
  deriving DecidableEq, Repr

/-! ## Board Tracker (R93, R97) -/

/-- Why a board was decided as it was (R97). -/
inductive Reason where
  | data | noData | unknownCharge | quarantine | noRule | packTableFull
  deriving DecidableEq, Repr

/-- The fields of a transit entry that its decision writes (R97). -/
structure Decision where
  chargeSlot : Option Nat
  grade : Option Nat
  lengthClass : Option Nat
  widthClass : Option Nat
  thicknessClass : Option Nat
  mc : Option Nat
  moisture : MClass
  reason : Reason
  bin : Nat
  planSlot : Nat
  packSlot : Option Nat
  openPos : Nat
  closePos : Nat
  gateOpen : Bool
  deriving DecidableEq, Repr

/-- A transit entry (R97). It is in AWAITING_DATA while it has no decision and DECIDED when it has. -/
structure Entry where
  sequence : Nat
  capture : Nat
  decision : Option Decision
  deriving DecidableEq, Repr

/-- The line geometry (R93, R110). -/
structure Geometry where
  pairing : Nat
  offsets : List Nat
  lead : Nat
  trail : Nat
  scale : Nat
  deriving DecidableEq, Repr

/-- The dimension table (R93, R109). -/
structure Dimensions where
  thickness : List Nat
  width : List Nat
  length : List Nat
  deriving DecidableEq, Repr

/-- The Board Tracker's records (R93). -/
structure Tracker where
  position : Nat
  edgeSequence : Nat
  queue : List Entry
  geometry : Geometry
  dimensions : Dimensions
  /-- The board-message receiver: absent when it holds nothing, else the characters after the start
  character (R184). -/
  receiver : Option (List RxChar)
  edgesLost : Nat
  orphans : Nat
  discarded : Nat
  deriving DecidableEq, Repr

/-! ## Sorter (R114, R115) -/

/-- The role of a plan slot (R114). -/
inductive Role where
  | active | shadow | draining
  deriving DecidableEq, Repr

/-- A sort rule (R115). A set is the ascending list of its members. -/
structure Rule where
  groups : List Nat
  grades : List Nat
  lengthLo : Nat
  lengthHi : Nat
  thickness : List Nat
  moisture : List MClass
  bin : Nat
  deriving DecidableEq, Repr

/-- A sort plan (R115). -/
structure Plan where
  reject : Nat
  quarantine : Nat
  building : List Nat
  templates : List Nat
  targets : List Nat
  ruleCount : Nat
  rules : List Rule
  deriving DecidableEq, Repr

/-- A plan slot (R114). Its fill is EMPTY without a plan, LOADING while the plan holds fewer rules
than it declares, and LOADED otherwise. -/
structure PlanSlot where
  role : Role
  plan : Option Plan
  decided : Nat
  deriving DecidableEq, Repr

/-- The Sorter's records (R114). -/
structure Sorter where
  slot0 : PlanSlot
  slot1 : PlanSlot
  gates : List Nat
  deriving DecidableEq, Repr

/-! ## Pack Table (R131, R132) -/

/-- The eight states of a pack (R132). -/
inductive PackState where
  | opened | closing | labelQueued | labelReady | printing | labelled | held | rejected
  deriving DecidableEq, Repr

/-- The reason of a close-request (R137). -/
inductive CloseReason where
  | target | request | plan
  deriving DecidableEq, Repr

/-- A live pack record (R132). A set is the ascending list of its members. -/
structure Pack where
  number : Nat
  bin : Nat
  state : PackState
  target : Nat
  template : Nat
  pieces : Nat
  bound : Nat
  /-- The length tally: (length class, count) pairs, ascending by class. -/
  tally : List (Nat × Nat)
  volume : Nat
  /-- The dimension: thickness class and width class of the first delivered board. -/
  dimension : Option (Nat × Nat)
  mixedDim : Bool
  grades : List Nat
  charges : List Nat
  measured : Nat
  mcSum : Nat
  lowest : Option Nat
  highest : Option Nat
  quarantine : Bool
  quarantineMix : Bool
  closeReason : Option CloseReason
  truncated : Bool
  deriving DecidableEq, Repr

/-- The Pack Table's records (R131). -/
structure PackTable where
  records : List (Option Pack)
  /-- The current pack of each bin. -/
  current : List (Option Nat)
  nextNumber : Nat
  deriving DecidableEq, Repr

/-! ## Label Composer (R151, R152) -/

/-- The field kinds of a placement (R152). -/
inductive FieldKind where
  | text | packNumber | pieces | volume | dimensions | lengthTally | grades | charges | species | mcMean | mcRange | marks
  deriving DecidableEq, Repr

/-- A placement (R152). -/
structure Placement where
  kind : FieldKind
  colStart : Nat
  colEnd : Nat
  rowStart : Nat
  rowEnd : Nat
  literal : List Byte
  deriving DecidableEq, Repr

/-- The template load in progress (R151). -/
structure TemplateLoad where
  index : Nat
  count : Nat
  received : List Placement
  deriving DecidableEq, Repr

/-- The state of a frame (R159). -/
inductive FrameState where
  | free | ready | printing
  deriving DecidableEq, Repr

/-- A label frame: 12 rows of 40 cells (R151). -/
structure Frame where
  state : FrameState
  pack : Option Nat
  cells : List (List Byte)
  deriving DecidableEq, Repr

/-- The state of the label port (R151). -/
inductive LabelPortState where
  | idle | printing | done | fault
  deriving DecidableEq, Repr

/-- The Label Composer's records (R151, R185). -/
structure Labels where
  templates : List (List Placement)
  load : Option TemplateLoad
  queue : List Nat
  frame0 : Frame
  frame1 : Frame
  ready : List Nat
  port : LabelPortState
  cursor : Nat
  /-- The bit count within the row (R185). -/
  bitCount : Nat
  timeout : Nat
  passTimeout : Option Nat
  /-- MODEL: the cells of the complete row served last (R161). Assumption 9. -/
  servedRow : List Byte
  deriving DecidableEq, Repr

/-! ## Attention Unit (R166) -/

/-- The eight attention classes (R166). -/
inductive AttnClass where
  | step | kilnDone | kilnFault | quarantine | packHeld | label | transit | plan
  deriving DecidableEq, Repr

/-- The reasons TRANSIT carries (R107). -/
inductive TransitReason where
  | queueFull | sequenceHeld | orphan | untracked | unknownCharge | packTableFull
  deriving DecidableEq, Repr

/-- The object of an occurrence (R166). -/
inductive AttnObject where
  | chamber (n : Nat)
  | charge (number : Nat)
  | pack (number : Nat)
  | transit (sequence : Nat) (reason : TransitReason)
  | planSlot (n : Nat)
  deriving DecidableEq, Repr

/-- A class record (R166). -/
structure AttnRecord where
  pending : Bool
  first : Option AttnObject
  more : Bool
  mask : Bool
  deriving DecidableEq, Repr

/-- The eight class records (R166). -/
structure Attention where
  step : AttnRecord
  kilnDone : AttnRecord
  kilnFault : AttnRecord
  quarantine : AttnRecord
  packHeld : AttnRecord
  label : AttnRecord
  transit : AttnRecord
  plan : AttnRecord
  deriving DecidableEq, Repr

/-! ## The whole part -/

/-- The state of the part. -/
structure State where
  /-- The RESET_N line is asserted (R178). -/
  resetAsserted : Bool
  link : Link
  /-- The 64 charge slots, each free or holding a live record (R1). -/
  charges : List (Option Charge)
  /-- The 16 species table entries (R21). -/
  species : List Species
  /-- The 32 schedule slots, schedule 1 first (R40). -/
  schedules : List (Option Schedule)
  /-- The 12 chamber records, chamber 1 first (R55). -/
  chambers : List Chamber
  port : Port
  tracker : Tracker
  sorter : Sorter
  packs : PackTable
  labels : Labels
  attention : Attention
  /-- MODEL: the commands that wait, first in, first out. Assumption 15. -/
  pending : List Instr
  deriving DecidableEq, Repr

/-- Why the machine stops with a fault. There is no reason: every command of the specification has
an effect for every operand and in every state, refusals of requests being answers (R179), so no
meaning faults (assumption 12). -/
inductive Fault : Type
  deriving DecidableEq, Repr

/-- Why a command is refused by the model. -/
inductive Refusal where
  /-- The command has no meaning in the model yet. Raised by a refused arm of exec alone; safe. -/
  | notModelled (mnemonic : String)
  deriving DecidableEq, Repr

/-! ## Values after reset -/

/-- The answer buffer after reset (R173). -/
def Link.reset : Link :=
  { transfer := .idle, assembly := [], count := 0, answer := ⟨.noAnswer, []⟩, miso := [] }

/-- A calibration after reset (R21). -/
def Calibration.reset : Calibration := ⟨0, 0, 0⟩

/-- A species table entry after reset: group 0, eight spaces, zero calibrations (R21). -/
def Species.reset : Species := ⟨0, List.replicate 8 32, .reset, .reset⟩

/-- The empty hold-cause set (R56). -/
def Causes.none : Causes := ⟨false, false, false, false⟩

/-- A reset chamber: EMPTY, no hold cause, last advance NONE, every other field absent (R56). -/
def Chamber.reset : Chamber :=
  { state := .empty, chargeSlot := none, schedule := none, run := none, causes := .none,
    lastAdvance := .none, lastScan := none, probes := [], estMean := none, estWettest := none,
    limitDue := false }

/-- The round settings after reset: 60 s, 100 ms, miss limit 3 (R79). -/
def PortSettings.reset : PortSettings := ⟨60, 100, 3⟩

/-- The Kiln Port Controller after reset, its round timer started with 60 s (R79). -/
def Port.reset : Port :=
  { inForce := .reset, requested := .reset, round := .idle, snapshot := [], turn := none,
    startPending := false, lost := 0, transaction := none,
    modules := List.replicate Config.chambers ⟨0, .none⟩, roundTimer := some 60 }

/-- The Board Tracker after reset: everything zero or empty (R93). -/
def Tracker.reset : Tracker :=
  { position := 0, edgeSequence := 0, queue := [],
    geometry := ⟨0, List.replicate Config.bins 0, 0, 0, 0⟩,
    dimensions := ⟨List.replicate 16 0, List.replicate 16 0, List.replicate 32 0⟩,
    receiver := none, edgesLost := 0, orphans := 0, discarded := 0 }

/-- The default plan of slot 0 after reset (R114). -/
def Plan.default : Plan :=
  { reject := 15, quarantine := 15, building := [], templates := List.replicate Config.bins 0,
    targets := List.replicate Config.bins 1, ruleCount := 0, rules := [] }

/-- The Sorter after reset: slot 0 ACTIVE with the default plan, slot 1 SHADOW and EMPTY (R114). -/
def Sorter.reset : Sorter :=
  { slot0 := ⟨.active, some .default, 0⟩, slot1 := ⟨.shadow, none, 0⟩,
    gates := List.replicate Config.bins 0 }

/-- The Pack Table after reset (R131). -/
def PackTable.reset : PackTable :=
  { records := List.replicate Config.packSlots none, current := List.replicate Config.bins none,
    nextNumber := 1 }

/-- The cells of a frame that hold spaces only (R151). -/
def Frame.blank : List (List Byte) := List.replicate Config.frameRows (List.replicate Config.frameColumns 32)

/-- A frame after reset: FREE, no pack, every cell 32 (R151). -/
def Frame.reset : Frame := ⟨.free, none, Frame.blank⟩

/-- The Label Composer after reset (R151, R185). -/
def Labels.reset : Labels :=
  { templates := List.replicate Config.templates [], load := none, queue := [], frame0 := .reset,
    frame1 := .reset, ready := [], port := .idle, cursor := 0, bitCount := 0, timeout := 20,
    passTimeout := none, servedRow := [] }

/-- A class record after reset: clear and masked (R166). -/
def AttnRecord.reset : AttnRecord := ⟨false, none, false, true⟩

/-- The Attention Unit after reset (R166). -/
def Attention.reset : Attention :=
  ⟨.reset, .reset, .reset, .reset, .reset, .reset, .reset, .reset⟩

/-- The part when power-on has ended: every record at the value its rule gives (R1, R21, R40, R56,
R79, R93, R114, R131, R151, R166, R173), no command waiting. -/
def State.reset : State :=
  { resetAsserted := false
    link := .reset
    charges := List.replicate Config.chargeSlots none
    species := List.replicate Config.speciesEntries .reset
    schedules := List.replicate Config.scheduleSlots none
    chambers := List.replicate Config.chambers .reset
    port := .reset
    tracker := .reset
    sorter := .reset
    packs := .reset
    labels := .reset
    attention := .reset
    pending := [] }

end Sys2Proof.Machine
end

