-- ==== Sys2Proof/Machine/Operands.lean ====
section
/-! DEFINITION. Payload coding (R181): how a block reads the fields of a request payload and forms
the fields of an answer payload, and the numeric codes of every named value on the link. -/

namespace Sys2Proof.Machine

/-! ## Fields (R181) -/

/-- An unsigned multi-byte field, most significant byte first. -/
def beNat (bs : List Byte) : Nat := bs.foldl (fun acc b => acc * 256 + b.toNat) 0

/-- The unsigned field of `width` bytes at byte `pos` of a payload. -/
def field (p : List Byte) (pos width : Nat) : Nat := beNat ((p.drop pos).take width)

/-- The value of an unsigned number of `width` bytes read as two's complement. -/
def twosComplement (width n : Nat) : Int :=
  if n < 2 ^ (8 * width - 1) then (n : Int) else (n : Int) - 2 ^ (8 * width)

/-- The signed field of `width` bytes at byte `pos` of a payload. -/
def signedField (p : List Byte) (pos width : Nat) : Int := twosComplement width (field p pos width)

/-- A number in `width` bytes, most significant byte first. -/
def bytes : (width : Nat) → Nat → List Byte
  | 0, _ => []
  | w + 1, n => BitVec.ofNat 8 (n / 256 ^ w) :: bytes w n

/-- A signed number in `width` bytes of two's complement. -/
def signedBytes (width : Nat) (x : Int) : List Byte := bytes width (x % 2 ^ (8 * width)).toNat

/-- An optional number in `width` bytes, `absent` standing for none. -/
def optBytes (width absent : Nat) (x : Option Nat) : List Byte := bytes width (x.getD absent)

/-- An optional field in which `absent` stands for none. -/
def optField (absent n : Nat) : Option Nat := if n = absent then none else some n

/-- A flag in one byte. -/
def flagByte (b : Bool) : List Byte := [if b then 1 else 0]

/-! ## Sets (R181): the sum of the codes of the members -/

/-- The members of a set of numbers below `size` sent as the sum of 2^n. -/
def members (size sum : Nat) : List Nat := (List.range size).filter (fun n => sum.testBit n)

/-- The sum of 2^n over the members of a set of numbers. -/
def setSum (l : List Nat) : Nat := l.foldl (fun acc n => acc + 2 ^ n) 0

/-- `n` put into an ascending list without repeats, in its place. -/
def insertAsc (n : Nat) : List Nat → List Nat
  | [] => [n]
  | m :: l => if n < m then n :: m :: l else if n = m then m :: l else m :: insertAsc n l

/-- Whether code `c`, a power of two, is in the set sent as `sum`. -/
def hasCode (sum c : Nat) : Bool := sum / c % 2 = 1

/-! ## Codes -/

/-- Status codes (R182). -/
def Status.code : Status → Nat
  | .ok => 0 | .noAnswer => 1 | .unknownRequest => 2 | .badLength => 3 | .badField => 4
  | .noSuch => 5 | .wrongState => 6 | .inUse => 7 | .duplicate => 8 | .full => 9 | .busy => 10

/-- Charge state codes (R6). -/
def ChargeState.code : ChargeState → Nat
  | .staged => 1 | .kiln => 2 | .dried => 3 | .inFeed => 4 | .fed => 5

/-- The code of a charge state within a state set (R7). -/
def ChargeState.setCode : ChargeState → Nat
  | .staged => 1 | .kiln => 2 | .dried => 4 | .inFeed => 8 | .fed => 16

/-- Mark codes (R39, R77). -/
def Mark.code : Mark → Nat
  | .none => 0 | .low => 1 | .high => 2 | .unmeasured => 3

/-- Moisture class codes (R39, R111). -/
def MClass.code : MClass → Nat
  | .pass => 1 | .wet => 2 | .overdry => 3 | .unmeasured => 4

/-- The code of a moisture class within a set of classes (section 7.3). -/
def MClass.setCode : MClass → Nat
  | .pass => 1 | .wet => 2 | .overdry => 4 | .unmeasured => 8

/-- The moisture classes in code order. -/
def MClass.all : List MClass := [.pass, .wet, .overdry, .unmeasured]

/-- The set of moisture classes sent as `sum` (section 7.3). -/
def classMembers (sum : Nat) : List MClass := MClass.all.filter (fun c => hasCode sum c.setCode)

/-- The sum of the codes of a set of moisture classes (section 7.3). -/
def classSum (l : List MClass) : Nat := l.foldl (fun acc c => acc + c.setCode) 0

/-- Advance kind codes (R41). -/
def AdvanceKind.code : AdvanceKind → Nat
  | .time => 1 | .meanBelow => 2 | .wettestBelow => 3

/-- The advance kind a code stands for (R41). -/
def AdvanceKind.ofCode (n : Nat) : AdvanceKind :=
  if n = 2 then .meanBelow else if n = 3 then .wettestBelow else .time

/-- On-limit action codes (R41). -/
def OnLimit.code : OnLimit → Nat
  | .advance => 1 | .hold => 2

/-- The on-limit action a code stands for (R41). -/
def OnLimit.ofCode (n : Nat) : OnLimit := if n = 2 then .hold else .advance

/-- Chamber state codes (R77). -/
def ChamberState.code : ChamberState → Nat
  | .empty => 0 | .loaded => 1 | .running => 2 | .hold => 3 | .complete => 4 | .aborted => 5

/-- Last advance codes (R77). -/
def LastAdvance.code : LastAdvance → Nat
  | .none => 0 | .time => 1 | .moisture => 2 | .forced => 3 | .skipped => 4

/-- The hold-cause set as CHAMBER_READ codes it (R77). -/
def Causes.code (c : Causes) : Nat :=
  c.request.toNat + 2 * c.line.toNat + 4 * c.module.toNat + 8 * c.stepLimit.toNat

/-- The module status as CHAMBER_READ codes it (R77). -/
def ModuleStatus.code (m : ModuleStatus) : Nat :=
  m.heatFault.toNat + 2 * m.fanFault.toNat + 4 * m.ventFault.toNat

/-- Mode codes of the SETPOINT message (R183). -/
def Mode.code : Mode → Nat
  | .off => 0 | .run => 1 | .hold => 2

/-- Round state codes (R91). -/
def RoundState.code : RoundState → Nat
  | .idle => 0 | .polling => 1

/-- Last outcome codes (R91). -/
def ReplyOutcome.code : ReplyOutcome → Nat
  | .none => 0 | .accepted => 1 | .noReply => 2 | .characterError => 3 | .badLength => 4
  | .wrongAddress => 5 | .outOfRange => 6

/-- Reason codes of a transit entry (R111). -/
def Reason.code : Reason → Nat
  | .data => 1 | .noData => 2 | .unknownCharge => 3 | .quarantine => 4 | .noRule => 5 | .packTableFull => 6

/-- Role codes of a plan slot (R125). -/
def Role.code : Role → Nat
  | .active => 1 | .shadow => 2 | .draining => 3

/-- Pack state codes (R142). -/
def PackState.code : PackState → Nat
  | .opened => 1 | .closing => 2 | .labelQueued => 3 | .labelReady => 4 | .printing => 5
  | .labelled => 6 | .held => 7 | .rejected => 8

/-- The code of a pack state within a state set (R143). -/
def PackState.setCode : PackState → Nat
  | .opened => 1 | .closing => 2 | .labelQueued => 4 | .labelReady => 8 | .printing => 16
  | .labelled => 32 | .held => 64 | .rejected => 128

/-- Close reason codes, 0 when absent (R142). -/
def closeReasonCode : Option CloseReason → Nat
  | none => 0 | some .target => 1 | some .request => 2 | some .plan => 3

/-- A pack's marks as PACK_READ codes them (R142). -/
def Pack.marks (p : Pack) : Nat :=
  p.quarantine.toNat + 2 * p.quarantineMix.toNat + 4 * p.mixedDim.toNat

/-- Field kind codes (R152). -/
def FieldKind.code : FieldKind → Nat
  | .text => 1 | .packNumber => 2 | .pieces => 3 | .volume => 4 | .dimensions => 5
  | .lengthTally => 6 | .grades => 7 | .charges => 8 | .species => 9 | .mcMean => 10
  | .mcRange => 11 | .marks => 12

/-- The field kind a code stands for (R152). -/
def FieldKind.ofCode : Nat → Option FieldKind
  | 1 => some .text | 2 => some .packNumber | 3 => some .pieces | 4 => some .volume
  | 5 => some .dimensions | 6 => some .lengthTally | 7 => some .grades | 8 => some .charges
  | 9 => some .species | 10 => some .mcMean | 11 => some .mcRange | 12 => some .marks
  | _ => none

/-- Frame state codes (R165). -/
def FrameState.code : FrameState → Nat
  | .free => 0 | .ready => 1 | .printing => 2

/-- Label port state codes (R163). -/
def LabelPortState.code : LabelPortState → Nat
  | .idle => 0 | .printing => 1 | .done => 2 | .fault => 3

/-- Attention class codes (R166). -/
def AttnClass.code : AttnClass → Nat
  | .step => 1 | .kilnDone => 2 | .kilnFault => 4 | .quarantine => 8 | .packHeld => 16
  | .label => 32 | .transit => 64 | .plan => 128

/-- The attention classes in code order (R166). -/
def AttnClass.all : List AttnClass :=
  [.step, .kilnDone, .kilnFault, .quarantine, .packHeld, .label, .transit, .plan]

/-- TRANSIT reason codes (R166). -/
def TransitReason.code : TransitReason → Nat
  | .queueFull => 1 | .sequenceHeld => 2 | .orphan => 3 | .untracked => 4 | .unknownCharge => 5
  | .packTableFull => 6

/-- The three object bytes of an occurrence; a class that is not pending reports 0, 0, 0 (R169). -/
def objectBytes : Option AttnObject → List Byte
  | none => [0, 0, 0]
  | some (.chamber n) => bytes 3 n
  | some (.charge n) => bytes 3 n
  | some (.pack n) => bytes 3 n
  | some (.transit q r) => 0 :: bytes 1 q ++ bytes 1 r.code
  | some (.planSlot n) => bytes 3 n

/-! ## Step records (R41) -/

/-- A step record in its 11 bytes (R41). -/
def Step.bytes (t : Step) : List Byte :=
  Machine.bytes 2 t.dryTarget ++ Machine.bytes 2 t.depression ++ Machine.bytes 1 t.ramp ++
    Machine.bytes 1 t.kind.code ++ Machine.bytes 2 t.threshold ++ Machine.bytes 2 t.duration ++
    Machine.bytes 1 t.onLimit.code

/-- The step record in 11 bytes, or none when a field lies outside its range. The threshold and
on-limit action of a TIME step are not checked, and stored as 0 and ADVANCE (R41). -/
def readStep (p : List Byte) : Option Step :=
  let target := field p 0 2
  let depression := field p 2 2
  let ramp := field p 4 1
  let kind := field p 5 1
  let threshold := field p 6 2
  let duration := field p 8 2
  let action := field p 10 1
  if target < 200 ∨ 1300 < target ∨ 400 < depression ∨ 100 < ramp ∨ kind < 1 ∨ 3 < kind ∨
      duration < 1 then none
  else if kind = 1 then some ⟨target, depression, ramp, .time, 0, duration, .advance⟩
  else if 600 < threshold ∨ action < 1 ∨ 2 < action then none
  else some ⟨target, depression, ramp, .ofCode kind, threshold, duration, .ofCode action⟩

/-- `n` step records in order, none when one of them has a field outside its range (R44). -/
def readSteps : (n : Nat) → List Byte → Option (List Step)
  | 0, _ => some []
  | n + 1, p =>
    match readStep p, readSteps n (p.drop 11) with
    | some t, some l => some (t :: l)
    | _, _ => none

/-! ## Slots of a table -/

/-- The first slot at or after `i` whose live record satisfies `q`, with the record. -/
def findLive {α : Type} (q : α → Bool) : (i : Nat) → List (Option α) → Option (Nat × α)
  | _, [] => none
  | i, none :: l => findLive q (i + 1) l
  | i, some a :: l => if q a then some (i, a) else findLive q (i + 1) l

/-- The lowest-numbered free slot of a table, counting from `i`. -/
def freeSlot {α : Type} : (i : Nat) → List (Option α) → Option Nat
  | _, [] => none
  | i, none :: _ => some i
  | i, some _ :: l => freeSlot (i + 1) l

/-- The live records of a table with their slots, in slot order from `i`. -/
def liveSlots {α : Type} : (i : Nat) → List (Option α) → List (Nat × α)
  | _, [] => []
  | i, none :: l => liveSlots (i + 1) l
  | i, some a :: l => (i, a) :: liveSlots (i + 1) l

/-- `x` put into a list that ascends by `key`, before the first entry of a greater key. -/
def insertBy {α : Type} (key : α → Nat) (x : α) : List α → List α
  | [] => [x]
  | y :: l => if key x < key y then x :: y :: l else y :: insertBy key x l

/-- A list sorted ascending by `key`, entries of equal keys keeping their order. -/
def sortBy {α : Type} (key : α → Nat) (l : List α) : List α :=
  l.foldl (fun acc x => insertBy key x acc) []

end Sys2Proof.Machine
end

