-- ==== Sys2Proof/Machine/Ops.lean ====
section
/-! DEFINITION. The named operations over the records: finding and changing a record, taking an
attention occurrence, taking a request from the link and putting its answer in the answer buffer. -/

namespace Sys2Proof.Machine

/-! ## Reaching a record -/

/-- The item numbered `n` of a list numbered from 1. -/
def nth1 {α : Type} (l : List α) : Nat → Option α
  | 0 => none
  | k + 1 => l[k]?

/-- A list numbered from 1 with its item `n` replaced. -/
def set1 {α : Type} (l : List α) (n : Nat) (a : α) : List α :=
  match n with
  | 0 => l
  | k + 1 => l.set k a

/-- The live charge in a slot (R1). -/
def State.charge? (s : State) (slot : Nat) : Option Charge := (s.charges[slot]?).join

/-- The state with the live charge of a slot changed. -/
def State.modifyCharge (s : State) (slot : Nat) (f : Charge → Charge) : State :=
  { s with charges := s.charges.modify slot (Option.map f) }

/-- The state with the live charge of an optional slot changed. -/
def State.modifyChargeOf (s : State) (slot : Option Nat) (f : Charge → Charge) : State :=
  match slot with
  | none => s
  | some i => s.modifyCharge i f

/-- The lookup of a charge by its number among all live slots (R2). -/
def State.findCharge (s : State) (number : Nat) : Option (Nat × Charge) :=
  findLive (fun c => c.number = number) 0 s.charges

/-- A species table entry (R21). -/
def State.speciesEntry (s : State) (code : Nat) : Species := (s.species[code]?).getD .reset

/-- The defined schedule of a number (R40). -/
def State.schedule? (s : State) (n : Nat) : Option Schedule := (nth1 s.schedules n).join

/-- The state with a schedule slot replaced. -/
def State.setSchedule (s : State) (n : Nat) (sc : Option Schedule) : State :=
  { s with schedules := set1 s.schedules n sc }

/-- A chamber record (R55). -/
def State.chamber? (s : State) (n : Nat) : Option Chamber := nth1 s.chambers n

/-- The state with a chamber record replaced. -/
def State.setChamber (s : State) (n : Nat) (c : Chamber) : State :=
  { s with chambers := set1 s.chambers n c }

/-- The live pack in a slot (R131). -/
def State.pack? (s : State) (slot : Nat) : Option Pack := (s.packs.records[slot]?).join

/-- The state with the live pack of a slot changed. -/
def State.modifyPack (s : State) (slot : Nat) (f : Pack → Pack) : State :=
  { s with packs := { s.packs with records := s.packs.records.modify slot (Option.map f) } }

/-- The state with the pack record of a slot free (R131). -/
def State.freePack (s : State) (slot : Nat) : State :=
  { s with packs := { s.packs with records := s.packs.records.set slot none } }

/-- The lookup of a pack by its number among all live records (R133). -/
def State.findPack (s : State) (number : Nat) : Option (Nat × Pack) :=
  findLive (fun p => p.number = number) 0 s.packs.records

/-- The current pack of a bin (R131). -/
def State.currentPack (s : State) (bin : Nat) : Option Nat := (s.packs.current[bin]?).join

/-- The state with the current pack of a bin replaced. -/
def State.setCurrent (s : State) (bin : Nat) (p : Option Nat) : State :=
  { s with packs := { s.packs with current := s.packs.current.set bin p } }

/-- The transit entry of an edge sequence; no two entries share one (R97). -/
def State.entry? (s : State) (sequence : Nat) : Option Entry :=
  s.tracker.queue.find? (fun e => e.sequence = sequence)

/-- The state with the decision of an edge sequence's entry replaced. -/
def State.setDecision (s : State) (sequence : Nat) (d : Decision) : State :=
  { s with tracker := { s.tracker with
      queue := s.tracker.queue.map (fun e => if e.sequence = sequence then { e with decision := some d } else e) } }

/-- The state with the entry of an edge sequence removed, the others keeping their places (R97). -/
def State.removeEntry (s : State) (sequence : Nat) : State :=
  { s with tracker := { s.tracker with
      queue := s.tracker.queue.filter (fun e => e.sequence ≠ sequence) } }

/-- A plan slot, 0 or 1 (R114). -/
def Sorter.slot (t : Sorter) (n : Nat) : PlanSlot := if n = 0 then t.slot0 else t.slot1

/-- The Sorter with a plan slot replaced. -/
def Sorter.setSlot (t : Sorter) (n : Nat) (p : PlanSlot) : Sorter :=
  if n = 0 then { t with slot0 := p } else { t with slot1 := p }

/-- The number of the slot that is ACTIVE (R114). -/
def Sorter.activeSlot (t : Sorter) : Nat := if t.slot0.role = .active then 0 else 1

/-- The number of the slot that is not ACTIVE (R114). -/
def Sorter.otherSlot (t : Sorter) : Nat := 1 - t.activeSlot

/-- The plan of a slot; a slot that a decision reads always holds one (R114). -/
def Sorter.planOf (t : Sorter) (n : Nat) : Plan := ((t.slot n).plan).getD .default

/-- The state with a plan slot replaced. -/
def State.setPlanSlot (s : State) (n : Nat) (p : PlanSlot) : State :=
  { s with sorter := s.sorter.setSlot n p }

/-- A label frame, 0 or 1 (R151). -/
def Labels.frame (l : Labels) (n : Nat) : Frame := if n = 0 then l.frame0 else l.frame1

/-- The Label Composer with a frame replaced. -/
def Labels.setFrame (l : Labels) (n : Nat) (f : Frame) : Labels :=
  if n = 0 then { l with frame0 := f } else { l with frame1 := f }

/-- The millimetres of a thickness class (R109). -/
def Dimensions.thicknessOf (d : Dimensions) (c : Nat) : Nat := (d.thickness[c]?).getD 0

/-- The millimetres of a width class (R109). -/
def Dimensions.widthOf (d : Dimensions) (c : Nat) : Nat := (d.width[c]?).getD 0

/-- The decimetres of a length class (R109). -/
def Dimensions.lengthOf (d : Dimensions) (c : Nat) : Nat := (d.length[c]?).getD 0

/-- The gate offset of a bin (R110). -/
def Geometry.offsetOf (g : Geometry) (bin : Nat) : Nat := (g.offsets[bin]?).getD 0

/-! ## Attention occurrences (R167) -/

/-- The record of a class (R166). -/
def Attention.get (a : Attention) : AttnClass → AttnRecord
  | .step => a.step | .kilnDone => a.kilnDone | .kilnFault => a.kilnFault
  | .quarantine => a.quarantine | .packHeld => a.packHeld | .label => a.label
  | .transit => a.transit | .plan => a.plan

/-- The class records with one replaced. -/
def Attention.set (a : Attention) (c : AttnClass) (r : AttnRecord) : Attention :=
  match c with
  | .step => { a with step := r } | .kilnDone => { a with kilnDone := r }
  | .kilnFault => { a with kilnFault := r } | .quarantine => { a with quarantine := r }
  | .packHeld => { a with packHeld := r } | .label => { a with label := r }
  | .transit => { a with transit := r } | .plan => { a with plan := r }

/-- An occurrence taken on a class record: a clear class becomes pending with the object, a pending
class keeps its first object and has more set (R167). -/
def AttnRecord.occur (r : AttnRecord) (o : AttnObject) : AttnRecord :=
  if r.pending then { r with more := true } else { r with pending := true, first := some o, more := false }

/-- An occurrence of a class (R167). -/
def State.raise (s : State) (c : AttnClass) (o : AttnObject) : State :=
  { s with attention := s.attention.set c ((s.attention.get c).occur o) }

/-- The reason's occurrence of TRANSIT (R107). -/
def State.raiseTransit (s : State) (sequence : Nat) (r : TransitReason) : State :=
  s.raise .transit (.transit sequence r)

/-! ## Transfers of the supervisory link (R173 to R178) -/

/-- What the owning block makes of a request: an answer OK with its payload and the state once the
request has been carried out, or a refusal, which leaves every record as it was and carries an empty
payload (R179). -/
inductive Reply where
  | ok (payload : List Byte) (s : State)
  | refuse (st : Status)

/-- The link takes a transfer only while RESET_N is released and no transfer straddles its release
(R178). -/
def State.linkReady (s : State) : Bool := !s.resetAsserted && s.link.transfer == .idle

/-- The end of a transfer of `n` bytes that is not taken (R178). While RESET_N is asserted 0 is driven on
LINK_MISO for every byte and no record changes. The transfer that straddled the release ends, and the
next one is taken: DEDUCED, assumption 8. What is driven in it after the release the spec leaves open, and
no byte of it is recorded: DESIGN CHOICE, assumption 8. -/
def State.skipTransfer (s : State) (n : Nat) : State :=
  if s.resetAsserted then { s with link := { s.link with miso := List.replicate n 0 } }
  else { s with link := { s.link with transfer := .idle, miso := [] } }

/-- The answer of a request put in the answer buffer (R176), with what its transfer of `n` bytes left
in the assembly buffer and drove on LINK_MISO (R173, R174; assumptions 8 and 9). -/
def State.answered (s : State) (stored : List Byte) (n : Nat) (a : Answer) : State :=
  { s with link := { transfer := .idle, assembly := stored, count := n, answer := a,
                     miso := List.replicate n 0 } }

/-- A request transfer of `n` bytes ends broken: the partial request is discarded and the answer
buffer set to NO_ANSWER (R175). -/
def State.broken (s : State) (n : Nat) : State := s.answered [] n ⟨.noAnswer, []⟩

/-- The owner's reply put in the answer buffer (R176, R179). -/
def State.conclude (s : State) (stored : List Byte) (n : Nat) : Reply → State
  | .ok payload s' => { s' with link := s.link }.answered stored n ⟨.ok, payload⟩
  | .refuse st => s.answered stored n ⟨st, []⟩

/-- A request transfer: the code, the declared length and the bytes that followed. A declared length
above 250 is answered BAD_LENGTH without reaching the owner (R174), too few bytes make the transfer
broken (R175), and otherwise the owner takes exactly the declared payload (R174, R176, R181). -/
def State.request (s : State) (code : Byte) (owner : List Byte → State → Reply) (declared : Byte)
    (bs : List Byte) : State :=
  if !s.linkReady then s.skipTransfer (2 + bs.length)
  else if Config.maxPayload < declared.toNat then
    s.answered [code, declared] (2 + bs.length) ⟨.badLength, []⟩
  else if bs.length < declared.toNat then s.broken (2 + bs.length)
  else
    let payload := bs.take declared.toNat
    s.conclude (code :: declared :: payload) (2 + bs.length) (owner payload s)

/-- A field event: taken only while RESET_N is released (R178). DEDUCED, assumption 5. -/
def State.fieldEvent (s : State) (f : State → State) : State :=
  if s.resetAsserted then s else f s

/-! ## The label queue (R157) -/

/-- A pack at the tail of the label queue, LABEL_QUEUED (R157). -/
def State.queueTail (s : State) (slot : Nat) : State :=
  let s := s.modifyPack slot (fun p => { p with state := .labelQueued })
  { s with labels := { s.labels with queue := s.labels.queue ++ [slot] } }

/-- A pack at the head of the label queue, LABEL_QUEUED (R157). -/
def State.queueHead (s : State) (slot : Nat) : State :=
  let s := s.modifyPack slot (fun p => { p with state := .labelQueued })
  { s with labels := { s.labels with queue := slot :: s.labels.queue } }

/-- A pack out of the label queue, the packs behind it keeping their order (R157). -/
def State.unqueue (s : State) (slot : Nat) : State :=
  { s with labels := { s.labels with queue := s.labels.queue.filter (· ≠ slot) } }

/-- A frame FREE and holding no pack, its cells kept (R159). -/
def Frame.freed (f : Frame) : Frame := { f with state := .free, pack := none }

/-- The frame that holds a READY label of the pack becomes FREE and leaves the ready list (R159). -/
def State.withdrawFrame (s : State) (slot : Nat) : State :=
  let l := s.labels
  if l.frame0.state = .ready ∧ l.frame0.pack = some slot then
    { s with labels := { l with frame0 := l.frame0.freed, ready := l.ready.filter (· ≠ 0) } }
  else if l.frame1.state = .ready ∧ l.frame1.pack = some slot then
    { s with labels := { l with frame1 := l.frame1.freed, ready := l.ready.filter (· ≠ 1) } }
  else s

/-! ## The end of a pack (R137, R138) -/

/-- A pack becomes HELD and PACK_HELD is raised with its number (R138, R140). -/
def State.holdPack (s : State) (slot number : Nat) : State :=
  (s.modifyPack slot (fun p => { p with state := .held })).raise .packHeld (.pack number)

/-- The close of a CLOSING pack whose bound count is 0: freed without pieces, HELD with a quarantine
mark, otherwise queued for its label (R138). -/
def State.closePack (s : State) (slot : Nat) : State :=
  match s.pack? slot with
  | none => s
  | some p =>
    if p.pieces = 0 then s.freePack slot
    else if p.quarantine || p.quarantineMix then s.holdPack slot p.number
    else s.queueTail slot

/-- A close-request on an OPEN pack: it takes the reason, becomes CLOSING and stops being its bin's
current pack, and closes at once when no board is bound to it (R137). -/
def State.closeRequest (s : State) (slot : Nat) (reason : CloseReason) : State :=
  match s.pack? slot with
  | none => s
  | some p =>
    let s := s.modifyPack slot (fun p => { p with state := .closing, closeReason := some reason })
    let s := s.setCurrent p.bin none
    if p.bound = 0 then s.closePack slot else s

end Sys2Proof.Machine
end

