-- ==== Sys2Proof/Machine/Flags.lean ====
section
/-! DEFINITION. The status bits and output lines that the records determine: hold causes and the
chamber state they form, the fill of a plan slot, ATTN_N, the gate lines, LBL_READY, LBL_DATA and
KILN_DIR. -/

namespace Sys2Proof.Machine

/-! ## Chambers -/

/-- The hold-cause set is empty (R57). -/
def Causes.isEmpty (c : Causes) : Bool := !c.request && !c.line && !c.module && !c.stepLimit

/-- A chamber that is RUNNING or HOLD is HOLD while its hold-cause set is not empty and RUNNING while
it is empty (R57). -/
def Chamber.reform (c : Chamber) : Chamber :=
  if c.state = .running ∨ c.state = .hold then
    { c with state := if c.causes.isEmpty then .running else .hold }
  else c

/-- Any of the three fault flags is set (R60). -/
def ModuleStatus.anyFault (m : ModuleStatus) : Bool := m.heatFault || m.fanFault || m.ventFault

/-! ## Plan slots -/

/-- The fill of a plan slot (R114). -/
inductive Fill where
  | empty | loading | loaded
  deriving DecidableEq, Repr

/-- EMPTY without a plan, LOADING with fewer rules than the header declares, LOADED with a whole plan
(R114). -/
def PlanSlot.fill (p : PlanSlot) : Fill :=
  match p.plan with
  | none => .empty
  | some pl => if pl.rules.length < pl.ruleCount then .loading else .loaded

/-- Fill codes (R125). -/
def Fill.code : Fill → Nat
  | .empty => 0 | .loading => 1 | .loaded => 2

/-- A slot is DRAINING (R114). -/
def Sorter.draining (t : Sorter) : Bool := t.slot0.role = .draining || t.slot1.role = .draining

/-! ## Entries -/

/-- Entry state codes: AWAITING_DATA 1, DECIDED 2 (R111). -/
def Entry.stateCode (e : Entry) : Nat := if e.decision.isNone then 1 else 2

/-- The entry is in AWAITING_DATA (R97). -/
def Entry.awaiting (e : Entry) : Bool := e.decision.isNone

/-! ## Output lines -/

/-- The set of classes whose record satisfies `q`, as its sum (R166). -/
def Attention.sumWhere (a : Attention) (q : AttnRecord → Bool) : Nat :=
  (AttnClass.all.filter (fun c => q (a.get c))).foldl (fun acc c => acc + c.code) 0

/-- ATTN_N is driven low while a class is pending and not masked (R168). -/
def State.attnLow (s : State) : Bool :=
  AttnClass.all.any (fun c => (s.attention.get c).pending && !(s.attention.get c).mask)

/-- GATEg is active while the gate open count is above 0 (R114). -/
def State.gateActive (s : State) (g : Nat) : Bool := 0 < (s.sorter.gates[g]?).getD 0

/-- LBL_READY is asserted while the ready list is not empty and the port is not in FAULT (R160). -/
def State.lblReady (s : State) : Bool := !s.labels.ready.isEmpty && s.labels.port ≠ .fault

/-- KILN_DIR is asserted while a SETPOINT message is being sent (R83). -/
def State.kilnDir (s : State) : Bool :=
  match s.port.transaction with
  | some t => t.phase = .sending
  | none => false

/-- The PRINTING frame, if there is one (R159). -/
def Labels.printingFrame (l : Labels) : Option Nat :=
  if l.frame0.state = .printing then some 0 else if l.frame1.state = .printing then some 1 else none

/-- The row that LBL_CLK clocks out: the cursor's row of the PRINTING frame while the port is
PRINTING and the cursor is below 12, otherwise 40 spaces (R161, R185). -/
def Labels.servingRow (l : Labels) : List Byte :=
  match l.port, l.printingFrame with
  | .printing, some f =>
    if l.cursor < Config.frameRows then ((l.frame f).cells[l.cursor]?).getD (List.replicate 40 32)
    else List.replicate 40 32
  | _, _ => List.replicate 40 32

/-- The bit that LBL_DATA carries at the next rising edge of LBL_CLK, where the printer samples it: the bit
of the served row at the bit count, most significant bit of each cell first (R185). R185 has it driven
after the falling edge before; the model has no falling edge and gives it from the event on that makes it
the next bit: DESIGN CHOICE, assumption 22. -/
def State.lblData (s : State) : Bool :=
  let cell := ((s.labels.servingRow)[s.labels.bitCount / 8]?).getD 32
  cell.getLsbD (7 - s.labels.bitCount % 8)

end Sys2Proof.Machine
end

