-- ==== Sys2Proof/Machine/Moisture.lean ====
section
/-! DEFINITION. The Moisture Calculator (R21 to R39): the four stages of a reading, the kiln
estimate, the charge statistics and the quarantine test, and the requests SPECIES_SET, SPECIES_READ
and MC_TEST. -/

namespace Sys2Proof.Machine

/-! ## The stages (R25 to R30) -/

/-- The clamp of a whole-degree temperature to −20..99 (R26). -/
def clampTemp (t : Int) : Int := if t < -20 then -20 else if 99 < t then 99 else t

/-- A magnitude with the sign of `x`. -/
def withSign (x : Int) (m : Nat) : Int := if x < 0 then -(m : Int) else (m : Int)

/-- The temperature of a meter reading: the surface temperature, clamped (R26). -/
def meterTemp (surface : Int) : Int := clampTemp surface

/-- The temperature of a probe reading: the dry-bulb actual rounded to whole degrees, half away from
zero, then clamped (R26). -/
def probeTemp (dryBulb : Int) : Int := clampTemp (withSign dryBulb ((dryBulb.natAbs + 5) / 10))

/-- Stage 1, raw conversion (R27). -/
def rawConversion (k : Calibration) (r : Nat) : Int := ((r * k.slope + 512) / 1024 : Nat) + k.offset

/-- Stage 2, the temperature correction (R28). -/
def correction (k : Calibration) (t : Int) : Int :=
  let d := (k.coeff : Int) * (t - 20)
  withSign d ((d.natAbs + 8) / 16)

/-- Stage 3, the clamp to 0..600 (R29). -/
def clampMC (m : Int) : Nat := if m < 0 then 0 else if 600 < m then 600 else m.toNat

/-- The mark of a measured reading (R29). -/
def markOf (m : Int) : Mark := if m < 0 then .low else if 600 < m then .high else .none

/-- A reading through stages 1 to 3; the intermediate values are 0 when it is UNMEASURED (R25, R39). -/
structure Reading where
  m1 : Int
  corr : Int
  m2 : Int
  mc : Option Nat
  mark : Mark
  deriving DecidableEq, Repr

/-- A raw reading of 4095 or above is UNMEASURED and no stage is computed; every other one is computed
through stages 1 to 3 (R25, R27 to R29). -/
def computeReading (k : Calibration) (raw : Nat) (t : Int) : Reading :=
  if 4095 ≤ raw then ⟨0, 0, 0, none, .unmeasured⟩
  else
    let m1 := rawConversion k raw
    let c := correction k t
    let m2 := m1 - c
    ⟨m1, c, m2, some (clampMC m2), markOf m2⟩

/-- Stage 4, the class of a board against its charge's dry and wet limits (R30). -/
def classify (dry wet : Nat) : Option Nat → MClass
  | none => .unmeasured
  | some mc => if wet ≤ mc then .wet else if mc < dry then .overdry else .pass

/-! ## The kiln estimate (R32, R33) -/

/-- The result of a probe reading (R32). -/
def probeResult (k : Calibration) (t : Int) (raw : Nat) : ProbeResult :=
  let r := computeReading k raw t
  ⟨r.mc, r.mark⟩

/-- The moisture contents of the probes that are valid for the estimate (R32). -/
def validProbes (l : List ProbeResult) : List Nat :=
  (l.filter (fun p => p.mark = .none)).filterMap (·.mc)

/-- The mean of `n` values with the given sum, half up; absent when there is none (R33). -/
def roundedMean (sum n : Nat) : Option Nat := if n = 0 then none else some ((2 * sum + n) / (2 * n))

/-- The largest of a list; absent when it is empty (R33). -/
def largest (l : List Nat) : Option Nat :=
  match l with
  | [] => none
  | m :: l => some (l.foldl max m)

/-- The mean of the valid probes (R33). -/
def estimateMean (l : List ProbeResult) : Option Nat :=
  roundedMean (validProbes l).sum (validProbes l).length

/-- The wettest of the valid probes (R33). -/
def estimateWettest (l : List ProbeResult) : Option Nat := largest (validProbes l)

/-! ## Charge statistics and the quarantine test (R34 to R37) -/

/-- The lower of a value and an optional one (R34). -/
def lowerOf (o : Option Nat) (mc : Nat) : Option Nat :=
  match o with
  | none => some mc
  | some l => if mc < l then some mc else some l

/-- The higher of a value and an optional one (R34). -/
def higherOf (o : Option Nat) (mc : Nat) : Option Nat :=
  match o with
  | none => some mc
  | some h => if h < mc then some mc else some h

/-- The statistics update adds one board (R34); a DRIED charge becomes IN_FEED (R14). -/
def Charge.addBoard (c : Charge) (mc : Option Nat) (cls : MClass) : Charge :=
  let c : Charge := { c with seen := c.seen + 1, state := if c.state = .dried then .inFeed else c.state }
  match mc with
  | none => { c with unmeasured := c.unmeasured + 1 }
  | some m =>
    { c with
      measured := c.measured + 1
      mcSum := c.mcSum + m
      lowest := lowerOf c.lowest m
      highest := higherOf c.highest m
      wetCount := if cls = .wet then c.wetCount + 1 else c.wetCount
      overdry := if cls = .overdry then c.overdry + 1 else c.overdry
      winMeasured := c.winMeasured + 1
      winWet := if cls = .wet then c.winWet + 1 else c.winWet }

/-- The quarantine test on the window counts (R37). -/
def Charge.testTrips (c : Charge) : Bool :=
  c.qmin ≤ c.winMeasured && c.qp * c.winMeasured < c.winWet * 1000

/-! ## Requests -/

/-- A calibration as SPECIES_SET and SPECIES_READ carry it (R22). -/
def Calibration.bytes (k : Calibration) : List Byte :=
  Machine.bytes 2 k.slope ++ signedBytes 2 k.offset ++ Machine.bytes 1 k.coeff

/-- The calibration at byte `pos` of a SPECIES_SET payload (R22). -/
def readCalibration (p : List Byte) (pos : Nat) : Calibration :=
  ⟨field p pos 2, signedField p (pos + 2) 2, field p (pos + 4) 1⟩

/-- A calibration lies within the ranges that SPECIES_SET accepts (R22). -/
def Calibration.inRange (k : Calibration) : Bool :=
  1 ≤ k.slope && k.slope ≤ 4095 && -500 ≤ k.offset && k.offset ≤ 500

/-- A printable character code (R22, R152). -/
def printable (b : Byte) : Bool := 32 ≤ b.toNat && b.toNat ≤ 126

/-- SPECIES_SET (R22). -/
def speciesSet (p : List Byte) (s : State) : Reply :=
  if p.length ≠ 20 then .refuse .badLength
  else
    let code := field p 0 1
    let e : Species := ⟨field p 1 1, (p.drop 2).take 8, readCalibration p 10, readCalibration p 15⟩
    if 15 < code ∨ 7 < e.group ∨ !e.name.all printable ∨ !e.meter.inRange ∨ !e.probe.inRange then
      .refuse .badField
    else .ok [] { s with species := s.species.set code e }

/-- The fields of a species entry at the widths of the SPECIES_SET payload (R23). -/
def Species.report (code : Nat) (e : Species) : List Byte :=
  Machine.bytes 1 code ++ Machine.bytes 1 e.group ++ e.name ++ e.meter.bytes ++ e.probe.bytes

/-- SPECIES_READ (R23). -/
def speciesRead (p : List Byte) (s : State) : Reply :=
  if p.length ≠ 1 then .refuse .badLength
  else
    let code := field p 0 1
    if 15 < code then .refuse .badField
    else .ok ((s.speciesEntry code).report code) s

/-- The limits of a charge satisfy 0 ≤ d < t < w ≤ 600 (R5, R38). -/
def limitsOk (d t w : Nat) : Bool := d < t && t < w && w ≤ 600

/-- The class code of an MC_TEST answer: 0 when no limits were given (R39). -/
def testClass (p : List Byte) (mc : Option Nat) : Nat :=
  if p.length = 12 then (classify (field p 6 2) (field p 10 2) mc).code else 0

/-- The 11-byte payload of an accepted MC_TEST (R39). -/
def testReport (t : Int) (r : Reading) (cls : Nat) : List Byte :=
  signedBytes 1 t ++ signedBytes 2 r.m1 ++ signedBytes 2 r.corr ++ signedBytes 2 r.m2 ++
    optBytes 2 65535 r.mc ++ bytes 1 r.mark.code ++ bytes 1 cls

/-- The temperature of an MC_TEST lies outside the range of its source (R38). -/
def testTempBad (source : Nat) (t : Int) : Bool :=
  (source = 1 && (t < -128 || 127 < t)) || (source = 2 && (t < -400 || 1500 < t))

/-- MC_TEST (R38, R39). -/
def mcTest (p : List Byte) (s : State) : Reply :=
  if p.length ≠ 6 ∧ p.length ≠ 12 then .refuse .badLength
  else
    let code := field p 0 1
    let source := field p 1 1
    let raw := field p 2 2
    let temp := signedField p 4 2
    if 15 < code ∨ (source ≠ 1 ∧ source ≠ 2) ∨ 4095 < raw ∨ testTempBad source temp ∨
        (p.length = 12 ∧ !limitsOk (field p 6 2) (field p 8 2) (field p 10 2)) then .refuse .badField
    else
      let e := s.speciesEntry code
      let t := if source = 1 then meterTemp temp else probeTemp temp
      let r := computeReading (if source = 1 then e.meter else e.probe) raw t
      .ok (testReport t r (testClass p r.mc)) s

/-- SPECIES_SET over the link. -/
def execSpeciesSet (declared : Byte) (bs : List Byte) (s : State) : Host.Outcome State Fault Refusal :=
  .next (s.request 32 speciesSet declared bs)

/-- SPECIES_READ over the link. -/
def execSpeciesRead (declared : Byte) (bs : List Byte) (s : State) : Host.Outcome State Fault Refusal :=
  .next (s.request 33 speciesRead declared bs)

/-- MC_TEST over the link. -/
def execMcTest (declared : Byte) (bs : List Byte) (s : State) : Host.Outcome State Fault Refusal :=
  .next (s.request 34 mcTest declared bs)

end Sys2Proof.Machine
end

