-- ==== Sys2Proof/Machine/Charges.lean ====
section
/-! DEFINITION. The Charge Table (R1 to R20): the seven requests on charges, the lookup of the
board-arrival operation and the entry into quarantine. -/

namespace Sys2Proof.Machine

/-! ## Board side (R13, R18) -/

/-- The charge takes boards: DRIED, IN_FEED or FED, with boards seen below 16,777,215 (R13). -/
def Charge.takesBoards (c : Charge) : Bool :=
  (c.state = .dried || c.state = .inFeed || c.state = .fed) && c.seen < Config.max24

/-- Stage 1 of the board-arrival operation, the charge lookup (R13). -/
def State.lookupForBoard (s : State) (number : Nat) : Option (Nat × Charge) :=
  findLive (fun c => c.number = number && c.takesBoards) 0 s.charges

/-- The effect of a charge's quarantine entry on the pack in one slot: the mark is set when its charge
set holds the charge, and a queued or ready pack is withdrawn and held (R140). -/
def State.withdrawPack (s : State) (charge slot : Nat) : State :=
  match s.pack? slot with
  | none => s
  | some p =>
    if p.charges.contains charge then
      let s := s.modifyPack slot (fun p => { p with quarantineMix := true })
      match p.state with
      | .labelQueued => (s.unqueue slot).holdPack slot p.number
      | .labelReady => (s.withdrawFrame slot).holdPack slot p.number
      | _ => s
    else s

/-- The packs take a charge's quarantine entry in ascending slot order (R140). -/
def State.withdrawPacks (s : State) (charge : Nat) : State :=
  (List.range Config.packSlots).foldl (fun s slot => s.withdrawPack charge slot) s

/-- A charge enters quarantine: its flag is set, QUARANTINE is raised with its number, and the packs
that hold it are marked and held (R18). -/
def State.enterQuarantine (s : State) (slot number : Nat) : State :=
  ((s.modifyCharge slot (fun c => { c with quarantined := true })).raise .quarantine (.charge number)).withdrawPacks slot

/-! ## Requests -/

/-- The record of a created charge (R5). -/
def Charge.created (number species dry target wet loaded qmin qp : Nat) : Charge :=
  { number, species, dry, target, wet, qmin, qp, loaded := optField 0 loaded, state := .staged,
    chamber := none, estMean := none, estWettest := none, seen := 0, measured := 0, unmeasured := 0,
    wetCount := 0, overdry := 0, mcSum := 0, lowest := none, highest := none, winMeasured := 0,
    winWet := 0, quarantined := false, transitRef := 0, packRef := 0 }

/-- Qmin and Qp lie within their ranges (R5). -/
def quarantineOk (qmin qp : Nat) : Bool := 20 ≤ qmin && qmin ≤ 1000 && qp ≤ 1000

/-- CHARGE_CREATE (R5). -/
def chargeCreate (p : List Byte) (s : State) : Reply :=
  if p.length ≠ 11 ∧ p.length ≠ 15 then .refuse .badLength
  else
    let number := field p 0 2
    let species := field p 2 1
    let d := field p 3 2
    let t := field p 5 2
    let w := field p 7 2
    let qmin := if p.length = 15 then field p 11 2 else 50
    let qp := if p.length = 15 then field p 13 2 else 1000
    if number = 0 ∨ 15 < species ∨ !limitsOk d t w ∨ !quarantineOk qmin qp then .refuse .badField
    else if (s.findCharge number).isSome then .refuse .duplicate
    else
      match freeSlot 0 s.charges with
      | none => .refuse .full
      | some i =>
        .ok (bytes 1 i)
          { s with charges := s.charges.set i (some (.created number species d t w (field p 9 2) qmin qp)) }

/-- Boards remaining (R6). -/
def Charge.remaining (c : Charge) : Nat :=
  match c.loaded with
  | none => Config.max24
  | some n => n - c.seen

/-- The 58-byte payload of CHARGE_READ (R6). -/
def Charge.report (slot : Nat) (c : Charge) : List Byte :=
  bytes 2 c.number ++ bytes 1 slot ++ bytes 1 c.species ++
  bytes 2 c.dry ++ bytes 2 c.target ++ bytes 2 c.wet ++ bytes 2 c.qmin ++ bytes 2 c.qp ++
  optBytes 2 0 c.loaded ++
  bytes 1 c.state.code ++ optBytes 1 0 c.chamber ++ flagByte c.quarantined ++
  optBytes 2 65535 c.estMean ++ optBytes 2 65535 c.estWettest ++
  bytes 3 c.seen ++ bytes 3 c.measured ++ bytes 3 c.unmeasured ++ bytes 3 c.wetCount ++ bytes 3 c.overdry ++
  bytes 5 c.mcSum ++
  optBytes 2 65535 c.lowest ++ optBytes 2 65535 c.highest ++
  bytes 3 c.winMeasured ++ bytes 3 c.winWet ++
  bytes 1 c.transitRef ++ bytes 1 c.packRef ++
  bytes 3 c.remaining

/-- A request whose payload is a charge number alone, on the live charge of that number (R3). -/
def onCharge (p : List Byte) (s : State) (f : Nat → Charge → Reply) : Reply :=
  if p.length ≠ 2 then .refuse .badLength
  else
    match s.findCharge (field p 0 2) with
    | none => .refuse .noSuch
    | some (slot, c) => f slot c

/-- CHARGE_READ (R6). -/
def chargeRead (p : List Byte) (s : State) : Reply :=
  onCharge p s (fun slot c => .ok (c.report slot) s)

/-- The charge matches a CHARGE_LIST filter (R7). -/
def Charge.listed (start states filter : Nat) (c : Charge) : Bool :=
  start ≤ c.number && hasCode states c.state.setCode && (filter = 0 || c.quarantined)

/-- An entry of the CHARGE_LIST answer (R7). The state and the quarantine flag are coded as CHARGE_READ
codes them (R6), which R7 does not say: DEDUCED, assumption 21. -/
def Charge.entry (slot : Nat) (c : Charge) : List Byte :=
  bytes 2 c.number ++ bytes 1 slot ++ bytes 1 c.state.code ++ flagByte c.quarantined

/-- The charges that match a CHARGE_LIST filter, in ascending charge number (R7). -/
def State.chargesListed (s : State) (start states filter : Nat) : List (Nat × Charge) :=
  sortBy (fun x => x.2.number) ((liveSlots 0 s.charges).filter (fun x => x.2.listed start states filter))

/-- CHARGE_LIST (R7). -/
def chargeList (p : List Byte) (s : State) : Reply :=
  if p.length ≠ 4 then .refuse .badLength
  else
    let states := field p 2 1
    let filter := field p 3 1
    if states = 0 ∨ 31 < states ∨ 1 < filter then .refuse .badField
    else
      let found := s.chargesListed (field p 0 2) states filter
      let shown := found.take 40
      let next := (found[40]?).elim 0 (fun x => x.2.number)
      .ok (bytes 1 shown.length ++ bytes 2 next ++ shown.flatMap (fun x => x.2.entry x.1)) s

/-- CHARGE_LIMITS (R8). Its field checks are those of the five fields it replaces; number 0 names no
live charge and is answered NO_SUCH (R2). DEDUCED, assumption 6. -/
def chargeLimits (p : List Byte) (s : State) : Reply :=
  if p.length ≠ 12 then .refuse .badLength
  else
    let number := field p 0 2
    let d := field p 2 2
    let t := field p 4 2
    let w := field p 6 2
    let qmin := field p 8 2
    let qp := field p 10 2
    if !limitsOk d t w ∨ !quarantineOk qmin qp then .refuse .badField
    else
      match s.findCharge number with
      | none => .refuse .noSuch
      | some (slot, _) =>
        .ok [] (s.modifyCharge slot
          (fun c => { c with dry := d, target := t, wet := w, qmin := qmin, qp := qp }))

/-- CHARGE_RELEASE (R20). -/
def chargeRelease (p : List Byte) (s : State) : Reply :=
  if p.length ≠ 4 then .refuse .badLength
  else
    let qp := field p 2 2
    if 1000 < qp then .refuse .badField
    else
      match s.findCharge (field p 0 2) with
      | none => .refuse .noSuch
      | some (slot, c) =>
        if !c.quarantined then .refuse .wrongState
        else .ok [] (s.modifyCharge slot
          (fun c => { c with quarantined := false, qp := qp, winMeasured := 0, winWet := 0 }))

/-- CHARGE_FEED_END (R9). -/
def chargeFeedEnd (p : List Byte) (s : State) : Reply :=
  onCharge p s (fun slot c =>
    if c.state = .dried ∨ c.state = .inFeed then
      .ok [] (s.modifyCharge slot (fun c => { c with state := .fed }))
    else .refuse .wrongState)

/-- CHARGE_RETIRE (R10). -/
def chargeRetire (p : List Byte) (s : State) : Reply :=
  onCharge p s (fun slot c =>
    if c.state ≠ .staged ∧ c.state ≠ .fed then .refuse .wrongState
    else if 0 < c.transitRef ∨ 0 < c.packRef then .refuse .inUse
    else .ok [] { s with charges := s.charges.set slot none })

/-- CHARGE_CREATE over the link. -/
def execChargeCreate (declared : Byte) (bs : List Byte) (s : State) : Host.Outcome State Fault Refusal :=
  .next (s.request 16 chargeCreate declared bs)

/-- CHARGE_READ over the link. -/
def execChargeRead (declared : Byte) (bs : List Byte) (s : State) : Host.Outcome State Fault Refusal :=
  .next (s.request 17 chargeRead declared bs)

/-- CHARGE_LIST over the link. -/
def execChargeList (declared : Byte) (bs : List Byte) (s : State) : Host.Outcome State Fault Refusal :=
  .next (s.request 18 chargeList declared bs)

/-- CHARGE_LIMITS over the link. -/
def execChargeLimits (declared : Byte) (bs : List Byte) (s : State) : Host.Outcome State Fault Refusal :=
  .next (s.request 19 chargeLimits declared bs)

/-- CHARGE_RELEASE over the link. -/
def execChargeRelease (declared : Byte) (bs : List Byte) (s : State) : Host.Outcome State Fault Refusal :=
  .next (s.request 20 chargeRelease declared bs)

/-- CHARGE_FEED_END over the link. -/
def execChargeFeedEnd (declared : Byte) (bs : List Byte) (s : State) : Host.Outcome State Fault Refusal :=
  .next (s.request 21 chargeFeedEnd declared bs)

/-- CHARGE_RETIRE over the link. -/
def execChargeRetire (declared : Byte) (bs : List Byte) (s : State) : Host.Outcome State Fault Refusal :=
  .next (s.request 22 chargeRetire declared bs)

end Sys2Proof.Machine
end

