-- ==== Sys2Proof/Machine/Schedules.lean ====
section
/-! DEFINITION. The Schedule Store (R40 to R54): the four schedule requests and the reference counts. -/

namespace Sys2Proof.Machine

/-- The revision after a revision, 65535 being followed by 0 (R46). -/
def nextRevision (r : Nat) : Nat := (r + 1) % 65536

/-- The step of an index; every index a chamber holds names a step that exists (R50). -/
def Schedule.stepAt (sc : Schedule) (i : Nat) : Step :=
  (sc.steps[i]?).getD ⟨0, 0, 0, .time, 0, 0, .advance⟩

/-- The schedule's reference count changed (R50). -/
def State.modifyRefCount (s : State) (n : Nat) (f : Nat → Nat) : State :=
  match s.schedule? n with
  | none => s
  | some sc => s.setSchedule n (some { sc with refCount := f sc.refCount })

/-- A schedule number lies outside 1..32. -/
def badSchedule (n : Nat) : Bool := n < 1 || 32 < n

/-- SCHED_DEFINE (R44, R45). -/
def schedDefine (p : List Byte) (s : State) : Reply :=
  if p.length < 2 ∨ p.length ≠ 2 + 11 * field p 1 1 then .refuse .badLength
  else
    let n := field p 0 1
    let count := field p 1 1
    if badSchedule n ∨ count < 1 ∨ 16 < count then .refuse .badField
    else
      match readSteps count (p.drop 2) with
      | none => .refuse .badField
      | some steps =>
        match s.schedule? n with
        | none => .ok (bytes 2 1) (s.setSchedule n (some ⟨1, steps, 0⟩))
        | some sc =>
          if 0 < sc.refCount then .refuse .inUse
          else
            let rev := nextRevision sc.revision
            .ok (bytes 2 rev) (s.setSchedule n (some { sc with revision := rev, steps := steps }))

/-- SCHED_AMEND (R47). -/
def schedAmend (p : List Byte) (s : State) : Reply :=
  if p.length ≠ 13 then .refuse .badLength
  else
    let n := field p 0 1
    let i := field p 1 1
    if badSchedule n ∨ 15 < i then .refuse .badField
    else
      match readStep (p.drop 2) with
      | none => .refuse .badField
      | some t =>
        match s.schedule? n with
        | none => .refuse .noSuch
        | some sc =>
          if sc.steps.length ≤ i then .refuse .noSuch
          else
            let rev := nextRevision sc.revision
            .ok (bytes 2 rev)
              (s.setSchedule n (some { sc with revision := rev, steps := sc.steps.set i t }))

/-- The answer payload of SCHED_READ (R48). -/
def Schedule.report (n : Nat) (sc : Schedule) : List Byte :=
  bytes 1 n ++ bytes 2 sc.revision ++ bytes 1 sc.steps.length ++ bytes 1 sc.refCount ++
    sc.steps.flatMap Step.bytes

/-- A request whose payload is a schedule number alone, on the defined schedule of that number (R43). -/
def onSchedule (p : List Byte) (s : State) (f : Nat → Schedule → Reply) : Reply :=
  if p.length ≠ 1 then .refuse .badLength
  else
    let n := field p 0 1
    if badSchedule n then .refuse .badField
    else
      match s.schedule? n with
      | none => .refuse .noSuch
      | some sc => f n sc

/-- SCHED_READ (R48). -/
def schedRead (p : List Byte) (s : State) : Reply :=
  onSchedule p s (fun n sc => .ok (sc.report n) s)

/-- SCHED_DELETE (R49). -/
def schedDelete (p : List Byte) (s : State) : Reply :=
  onSchedule p s (fun n sc =>
    if 0 < sc.refCount then .refuse .inUse else .ok [] (s.setSchedule n none))

/-- SCHED_DEFINE over the link. -/
def execSchedDefine (declared : Byte) (bs : List Byte) (s : State) : Host.Outcome State Fault Refusal :=
  .next (s.request 48 schedDefine declared bs)

/-- SCHED_AMEND over the link. -/
def execSchedAmend (declared : Byte) (bs : List Byte) (s : State) : Host.Outcome State Fault Refusal :=
  .next (s.request 49 schedAmend declared bs)

/-- SCHED_READ over the link. -/
def execSchedRead (declared : Byte) (bs : List Byte) (s : State) : Host.Outcome State Fault Refusal :=
  .next (s.request 50 schedRead declared bs)

/-- SCHED_DELETE over the link. -/
def execSchedDelete (declared : Byte) (bs : List Byte) (s : State) : Host.Outcome State Fault Refusal :=
  .next (s.request 51 schedDelete declared bs)

end Sys2Proof.Machine
end

