-- ==== Sys2Proof/Machine/Chambers.lean ====
section
/-! DEFINITION. The Chamber Sequencer (R55 to R78): what the minute tick, a transaction's outcome and
the composition of a message do to a chamber, and the events of those that belong to chambers. The
nine chamber requests stand in Machine/ChamberRequests.lean. -/

namespace Sys2Proof.Machine

/-- The schedule a chamber names; it is always defined (R50). -/
def State.scheduleOf (s : State) (c : Chamber) : Schedule :=
  (c.schedule.bind s.schedule?).getD ⟨0, [], 0⟩

/-- A cause other than REQUEST that newly enters a chamber's hold-cause set raises KILN_FAULT with the
chamber number (R58). -/
def State.raiseFault (s : State) (newly : Bool) (n : Nat) : State :=
  if newly then s.raise .kilnFault (.chamber n) else s

/-! ## Step load and step advance (R52, R66) -/

/-- A step load: the step record and the schedule's revision are copied together; elapsed minutes is
`elapsed` and the working limit becomes the copy's duration (R52, R66, R70, R74). -/
def Run.load (r : Run) (sc : Schedule) (i elapsed : Nat) : Run :=
  { r with index := i, revision := sc.revision, step := sc.stepAt i, elapsed := elapsed,
           limit := (sc.stepAt i).duration }

/-- The chamber becomes COMPLETE: REQUEST and STEP_LIMIT leave the set, the estimates are copied to
its charge and KILN_DONE is raised (R66, R12). -/
def State.completeChamber (s : State) (n : Nat) (c : Chamber) (how : LastAdvance) : State :=
  let c' := { c with state := .complete, lastAdvance := how,
                     causes := { c.causes with request := false, stepLimit := false } }
  (((s.setChamber n c').modifyChargeOf c.chargeSlot
    (fun ch => { ch with estMean := c.estMean, estWettest := c.estWettest })).raise .kilnDone (.chamber n))

/-- A step advance: the next step is loaded and STEP raised, or past the last step the chamber
completes (R66). -/
def State.advanceStep (s : State) (n : Nat) (c : Chamber) (how : LastAdvance) : State :=
  match c.run with
  | none => s
  | some r =>
    let sc := s.scheduleOf c
    if r.index + 1 < sc.steps.length then
      let c' := { c with run := some (r.load sc (r.index + 1) 0), lastAdvance := how }
      (s.setChamber n c').raise .step (.chamber n)
    else s.completeChamber n c how

/-! ## The minute tick (R64) -/

/-- The first action of a tick on one chamber: a RUNNING chamber adds 1 to its elapsed minutes, held
at 16,777,215, and its second action is due when they are at or above the working limit (R64). -/
def Chamber.countMinute (c : Chamber) : Chamber :=
  match c.state, c.run with
  | .running, some r =>
    let e := min Config.max24 (r.elapsed + 1)
    { c with run := some { r with elapsed := e }, limitDue := r.limit ≤ e }
  | _, _ => c

/-- The second action of a tick on a chamber for which it is due: a TIME step advances, a moisture
step advances by force or holds with STEP_LIMIT, as its on-limit action gives (R64). -/
def State.limitAction (s : State) (n : Nat) : State :=
  match s.chamber? n with
  | none => s
  | some c0 =>
    if c0.limitDue then
      let c := { c0 with limitDue := false }
      match c.state, c.run with
      | .running, some r =>
        match r.step.kind, r.step.onLimit with
        | .time, _ => (s.setChamber n c).advanceStep n c .time
        | _, .advance => (s.setChamber n c).advanceStep n c .forced
        | _, .hold =>
          let c' := ({ c with causes := { c.causes with stepLimit := true } } : Chamber).reform
          (s.setChamber n c').raiseFault (!c.causes.stepLimit) n
      | _, _ => s.setChamber n c
    else s

/-- The due second actions of the last tick, in ascending chamber order. An event that reaches a
chamber is taken wholly after the tick (R78), so each such event begins with this. -/
def State.settleTicks (s : State) : State :=
  (List.range Config.chambers).foldl (fun s k => s.limitAction (k + 1)) s

/-! ## Composition (R62) -/

/-- The active dry-bulb setpoint moved toward the target by at most the ramp limit (R62). -/
def rampToward (a target ramp : Nat) : Nat :=
  if ramp = 0 then target
  else if a < target then (if target - a ≤ ramp then target else a + ramp)
  else if a - target ≤ ramp then target else a - ramp

/-- The composition of a chamber's message: a RUNNING chamber's setpoints are first moved (R62), and
the mode follows the state (R59). -/
def Chamber.compose (c : Chamber) : Chamber × Setpoint :=
  match c.state, c.run with
  | .running, some r =>
    let a := rampToward r.dry r.step.dryTarget r.step.ramp
    let r' := { r with dry := a, wet := a - r.step.depression }
    ({ c with run := some r' }, ⟨.run, r'.dry, r'.wet⟩)
  | .hold, some r => (c, ⟨.hold, r.dry, r.wet⟩)
  | _, _ => (c, ⟨.off, 0, 0⟩)

/-! ## The outcome of a transaction (R60, R61) -/

/-- What an accepted SCAN reply carries, unclamped (R86). -/
structure ScanReadings where
  dry : Int
  wet : Int
  status : ModuleStatus
  readings : List Nat
  deriving DecidableEq, Repr

/-- The calibration for a chamber's probes: that of the species of its charge (R32). -/
def State.probeCalibration (s : State) (c : Chamber) : Calibration :=
  match c.chargeSlot.bind s.charge? with
  | some ch => (s.speciesEntry ch.species).probe
  | none => .reset

/-- Stages 1 to 3 of an accepted scan on the chamber record: readings, probe results and estimate,
hold causes (R60). -/
def Chamber.takeScan (c : Chamber) (k : Calibration) (sc : ScanReadings) : Chamber :=
  let probes := sc.readings.map (probeResult k (probeTemp sc.dry))
  let c := { c with
    lastScan := some ⟨sc.dry, if sc.dry < sc.wet then sc.dry else sc.wet, sc.status, sc.readings.length⟩
    probes := probes
    estMean := estimateMean probes
    estWettest := estimateWettest probes
    causes := { c.causes with line := false, module := sc.status.anyFault } }
  c.reform

/-- The estimate that a moisture step looks at is present and at or below its threshold (R65). -/
def moistureReached (step : Step) (c : Chamber) : Bool :=
  match step.kind with
  | .time => false
  | .meanBelow => c.estMean.any (· ≤ step.threshold)
  | .wettestBelow => c.estWettest.any (· ≤ step.threshold)

/-- Stage 4 of an accepted scan, the moisture advance test (R65). -/
def State.testMoisture (s : State) (n : Nat) (c : Chamber) : State :=
  match c.state, c.run with
  | .running, some r => if moistureReached r.step c then s.advanceStep n c .moisture else s
  | _, _ => s

/-- An accepted scan handed to a chamber; an EMPTY chamber discards it (R60, R89). -/
def State.acceptScan (s : State) (n : Nat) (sc : ScanReadings) : State :=
  match s.chamber? n with
  | none => s
  | some c =>
    if c.state = .empty then s
    else
      let c' := c.takeScan (s.probeCalibration c) sc
      ((s.setChamber n c').raiseFault (sc.status.anyFault && !c.causes.module) n).testMoisture n c'

/-- A miss handed to a chamber with the miss count after it and the miss limit in force; an EMPTY
chamber discards it (R61, R89). -/
def State.takeMiss (s : State) (n count limit : Nat) : State :=
  match s.chamber? n with
  | none => s
  | some c =>
    if c.state = .empty then s
    else if limit ≤ count then
      (s.setChamber n ({ c with causes := { c.causes with line := true } } : Chamber).reform).raiseFault
        (!c.causes.line) n
    else s

end Sys2Proof.Machine
end

