-- ==== Sys2Proof/Machine/Serial.lean ====
section
/-! DEFINITION. Characters on the serial lines: the 11 bits of a character of the kiln line (R183) and
the 10 bits of one of the board-message input (R184), read and formed. Bit 0 of a frame is the bit
first on the line. A start bit is 0 and a stop bit 1: PRESUMED, assumption 16. -/

namespace Sys2Proof.Machine

/-- The exclusive or of `n` bits of a frame, from bit `i` on: the number of ones among them is odd. -/
def oddOnes {w : Nat} (f : BitVec w) (i : Nat) : (n : Nat) → Bool
  | 0 => false
  | n + 1 => f.getLsbD i ^^ oddOnes f (i + 1) n

/-- The eight data bits of a frame, least significant bit first after the start bit (R183, R184). -/
def frameData {w : Nat} (f : BitVec w) : Byte := f.extractLsb' 1 8

/-- A frame begins with its start bit (R183, R184). -/
def frameStarts {w : Nat} (f : BitVec w) : Bool := !f.getLsbD 0

/-- The character that a frame of the kiln line brings: its data bits, with an error mark when its
parity is wrong or its stop bit is not found (R183). Bits without a start bit are no character.
DEDUCED, assumption 16. -/
def kilnChar (f : KilnFrame) : Option RxChar :=
  if frameStarts f then some ⟨frameData f, oddOnes f 1 9 || !f.getLsbD 10⟩ else none

/-- The character that a frame of the board-message input brings: its data bits, with a framing error
when its stop bit is not found (R184). Bits without a start bit are no character. DEDUCED,
assumption 16. -/
def boardChar (f : BoardFrame) : Option RxChar :=
  if frameStarts f then some ⟨frameData f, !f.getLsbD 9⟩ else none

/-- The characters that frames of the kiln line bring, in order (R183). -/
def kilnChars (l : List KilnFrame) : List RxChar := l.filterMap kilnChar

/-- The characters that frames of the board-message input bring, in order (R184). -/
def boardChars (l : List BoardFrame) : List RxChar := l.filterMap boardChar

/-- A character as it is sent on the kiln line: start bit, data bits from the least significant, even
parity bit, stop bit (R183). -/
def kilnFrame (b : Byte) : KilnFrame := 1#1 ++ BitVec.ofBool (oddOnes b 0 8) ++ b ++ 0#1

/-- A character as it is sent on the board-message input: start bit, data bits from the least
significant, stop bit (R184). -/
def boardFrame (b : Byte) : BoardFrame := 1#1 ++ b ++ 0#1

end Sys2Proof.Machine
end

