-- ==== Sys2Proof/Machine/KilnPort.lean ====
section
/-! DEFINITION. The Kiln Port Controller (R79 to R92) and the SETPOINT and SCAN messages (R183), with
the time-driven events of the kiln side. -/

namespace Sys2Proof.Machine

/-! ## Rounds (R80 to R82) -/

/-- The chambers that are not EMPTY, in ascending number (R82). -/
def State.snapshotNow (s : State) : List Nat :=
  ((List.range Config.chambers).map (· + 1)).filter
    (fun n => match s.chamber? n with
      | some c => c.state ≠ .empty
      | none => false)

/-- Steps 1 and 3 of a round start: the requested settings are adopted and the snapshot formed; a
round with an empty snapshot ends at its start (R80, R81). -/
def State.startRound (s : State) : State :=
  let snap := s.snapshotNow
  let busy := !snap.isEmpty
  { s with port := { s.port with
      inForce := s.port.requested
      round := if busy then .polling else .idle
      snapshot := snap
      turn := if busy then some 0 else none } }

/-- A deferred round start: a round has ended while start pending was set, so start pending is
cleared and a round starts, the round timer keeping its cadence (R81). -/
def State.startDeferred (s : State) : State :=
  if s.port.round = .idle ∧ s.port.startPending then
    ({ s with port := { s.port with startPending := false } } : State).startRound
  else s

/-- What the specification has happen at once, in the event before: the second actions of the last
tick (R64, R78) and a deferred round start (R81). Every command on a chamber or on the kiln port
begins with this, so that none is taken between. DESIGN CHOICE, assumption 2. -/
def State.settle (s : State) : State := s.fieldEvent (fun s => s.settleTicks.startDeferred)

/-- The turn moves to the next position of the snapshot, or the round ends (R80, R84). -/
def Port.nextTurn (p : Port) (k : Nat) : Port :=
  if k + 1 < p.snapshot.length then { p with turn := some (k + 1) }
  else { p with round := .idle, snapshot := [], turn := none }

/-- The round timer restarted with the period in force (R80). -/
def State.restartTimer (s : State) : State :=
  { s with port := { s.port with roundTimer := some s.port.inForce.period } }

/-- An expiry of the round timer: it is restarted; in IDLE a round starts with the adopted settings,
in POLLING the start is kept once and otherwise lost (R80, R81). -/
def State.timerExpiry (s : State) : State :=
  if s.port.round = .idle then s.startRound.restartTimer
  else
    let s := s.restartTimer
    if s.port.startPending then
      { s with port := { s.port with lost := min Config.max16 (s.port.lost + 1) } }
    else { s with port := { s.port with startPending := true } }

/-! ## The transaction (R83 to R87) -/

/-- The turn of a chamber: an EMPTY chamber is skipped, any other has its message composed and its
transaction begun (R82, R83). -/
def State.beginTransaction (s : State) : State :=
  match s.port.round, s.port.transaction, s.port.turn with
  | .polling, none, some k =>
    match s.port.snapshot[k]? with
    | none => s
    | some n =>
      match s.chamber? n with
      | none => s
      | some c =>
        if c.state = .empty then { s with port := s.port.nextTurn k }
        else
          let (c', m) := c.compose
          let s := s.setChamber n c'
          { s with port := { s.port with transaction := some ⟨n, .sending, m, []⟩ } }
  | _, _, _ => s

/-- The last character of the message has been sent: KILN_DIR is released and the reply window opens
(R83). -/
def State.openWindow (s : State) : State :=
  match s.port.transaction with
  | some t =>
    if t.phase = .sending then
      { s with port := { s.port with transaction := some { t with phase := .listening, received := [] } } }
    else s
  | none => s

/-- The 7 characters of the SETPOINT message (R183). -/
def Transaction.characters (t : Transaction) : List Byte :=
  [165] ++ bytes 1 t.chamber ++ bytes 1 t.message.mode.code ++ bytes 2 t.message.dry ++ bytes 2 t.message.wet

/-- What the part sends on KILN_TX while a SETPOINT message is being sent: its 7 characters, each in its
11 bits; otherwise the line is silent (R79, R83, R183). -/
def State.kilnTx (s : State) : List KilnFrame :=
  match s.port.transaction with
  | some t => if t.phase = .sending then t.characters.map kilnFrame else []
  | none => []

/-- The probe count field of a reply, once it has arrived (R183). -/
def replyCount (chars : List RxChar) : Option Nat := (chars[6]?).map (fun c => c.value.toNat)

/-- The number of characters at which a reply is complete; none while the probe count has not arrived
or is above 8 (R84, R183). -/
def replyLength (chars : List RxChar) : Option Nat :=
  match replyCount chars with
  | some n => if n ≤ 8 then some (7 + 2 * n) else none
  | none => none

/-- A reply is complete (R84). -/
def replyComplete (chars : List RxChar) : Bool :=
  match replyLength chars with
  | some n => n ≤ chars.length
  | none => false

/-- The received characters after more have arrived; those after the end of a complete reply are
ignored (R84, R88). -/
def receiveMore (received chars : List RxChar) : List RxChar :=
  let all := received ++ chars
  match replyLength all with
  | some n => all.take n
  | none => all

/-- The bytes of received characters. -/
def charBytes (chars : List RxChar) : List Byte := chars.map (·.value)

/-- A temperature that an accepted reply may carry (R85). -/
def actualInRange (t : Int) : Bool := -400 ≤ t && t ≤ 1500

/-- The probe readings of a reply: `n` readings of two characters each, the low 12 bits of each
(R183). -/
def probeReadings (p : List Byte) : (n : Nat) → List Nat
  | 0 => []
  | n + 1 => field p 0 2 % 4096 :: probeReadings (p.drop 2) n

/-- The readings a complete reply carries, unclamped and in order (R86, R183). -/
def readScan (chars : List RxChar) : ScanReadings :=
  let p := charBytes chars
  let st := field p 5 1
  { dry := signedField p 1 2, wet := signedField p 3 2
    status := ⟨hasCode st 1, hasCode st 2, hasCode st 4⟩
    readings := probeReadings (p.drop 7) (field p 6 1) }

/-- The judgement of a reply, the first test that applies (R85). -/
def judge (chamber : Nat) (chars : List RxChar) : ReplyOutcome :=
  if chars.any (·.error) then .characterError
  else if !replyComplete chars then .badLength
  else
    let p := charBytes chars
    if field p 0 1 ≠ chamber then .wrongAddress
    else if !actualInRange (signedField p 1 2) ∨ !actualInRange (signedField p 3 2) then .outOfRange
    else .accepted

/-- The record of a module after an outcome (R86, R87). -/
def Module.after (m : Module) (o : ReplyOutcome) : Module :=
  if o = .accepted then ⟨0, .accepted⟩ else ⟨min 255 (m.misses + 1), o⟩

/-- The record of a module address (R79). -/
def State.module (s : State) (n : Nat) : Module := (nth1 s.port.modules n).getD ⟨0, .none⟩

/-- The end of a transaction with an outcome: its chamber becomes absent, the module's record is
updated, the outcome is handed to the chamber, and the turn moves on (R84, R86, R87). -/
def State.endTransaction (s : State) (t : Transaction) (o : ReplyOutcome) (chars : List RxChar) : State :=
  let m := (s.module t.chamber).after o
  let s := { s with port := { s.port with transaction := none, modules := set1 s.port.modules t.chamber m } }
  let s := if o = .accepted then s.acceptScan t.chamber (readScan chars)
           else s.takeMiss t.chamber m.misses s.port.inForce.missLimit
  match s.port.turn with
  | some k => { s with port := s.port.nextTurn k }
  | none => s

/-- Characters arrive on KILN_RX: with no reply window open they are ignored (R88), otherwise they join
the received characters, and a complete reply is judged at once (R84, R85). DESIGN CHOICE,
assumption 10. -/
def State.receiveReply (s : State) (chars : List RxChar) : State :=
  match s.port.transaction with
  | some t =>
    if t.phase = .listening then
      let got := receiveMore t.received chars
      if replyComplete got then s.endTransaction t (judge t.chamber got) got
      else { s with port := { s.port with transaction := some { t with received := got } } }
    else s
  | none => s

/-- The reply window closes, the characters in `chars` having still arrived in it: without any
character the outcome is NO_REPLY, otherwise the reply is judged as it stands (R84). -/
def State.closeWindow (s : State) (chars : List RxChar) : State :=
  match s.port.transaction with
  | some t =>
    if t.phase = .listening then
      let got := receiveMore t.received chars
      s.endTransaction t (if got.isEmpty then .noReply else judge t.chamber got) got
    else s
  | none => s

/-! ## Requests (R90, R91) -/

/-- KILN_PORT_SET (R90). -/
def kilnPortSet (p : List Byte) (s : State) : Reply :=
  if p.length ≠ 5 then .refuse .badLength
  else
    let period := field p 0 2
    let window := field p 2 2
    let limit := field p 4 1
    if period < 10 ∨ 600 < period ∨ window < 20 ∨ 500 < window ∨ limit < 1 ∨ 15 < limit then
      .refuse .badField
    else .ok [] { s with port := { s.port with requested := ⟨period, window, limit⟩ } }

/-- Round settings in 5 bytes (R91). -/
def PortSettings.bytes (c : PortSettings) : List Byte :=
  Machine.bytes 2 c.period ++ Machine.bytes 2 c.window ++ Machine.bytes 1 c.missLimit

/-- The 39-byte payload of KILN_PORT_READ (R91). -/
def Port.report (p : Port) : List Byte :=
  p.inForce.bytes ++ p.requested.bytes ++ bytes 1 p.round.code ++ flagByte p.startPending ++
    bytes 1 ((p.transaction.map (·.chamber)).getD 0) ++ bytes 2 p.lost ++
    p.modules.flatMap (fun m => bytes 1 m.misses ++ bytes 1 m.outcome.code)

/-- KILN_PORT_READ (R91). -/
def kilnPortRead (p : List Byte) (s : State) : Reply :=
  if p.length ≠ 0 then .refuse .badLength else .ok s.port.report s

/-- KILN_PORT_SET over the link. -/
def execKilnPortSet (declared : Byte) (bs : List Byte) (s : State) : Host.Outcome State Fault Refusal :=
  .next (s.settle.request 80 kilnPortSet declared bs)

/-- KILN_PORT_READ over the link. -/
def execKilnPortRead (declared : Byte) (bs : List Byte) (s : State) : Host.Outcome State Fault Refusal :=
  .next (s.settle.request 81 kilnPortRead declared bs)

/-! ## Events -/

/-- MINUTE_TICK: every RUNNING chamber counts the minute (R64). -/
def execMinuteTick (s : State) : Host.Outcome State Fault Refusal :=
  .next (s.fieldEvent (fun s =>
    let s := s.settle
    { s with chambers := s.chambers.map Chamber.countMinute }))

/-- WORKING_LIMIT_REACHED: the second action of the tick on the chamber, when it is due (R64). -/
def execWorkingLimitReached (chamber : Nat) (s : State) : Host.Outcome State Fault Refusal :=
  .next (s.fieldEvent (fun s => s.limitAction chamber))

/-- ROUND_TIMER_EXPIRY (R80, R81). -/
def execRoundTimerExpiry (s : State) : Host.Outcome State Fault Refusal :=
  .next (s.fieldEvent (fun s => s.settle.timerExpiry))

/-- DEFERRED_ROUND_START (R81). -/
def execDeferredRoundStart (s : State) : Host.Outcome State Fault Refusal :=
  .next (s.fieldEvent State.startDeferred)

/-- TRANSACTION (R82, R83). -/
def execTransaction (s : State) : Host.Outcome State Fault Refusal :=
  .next (s.fieldEvent (fun s => s.settle.beginTransaction))

/-- SETPOINT_SENT (R83). -/
def execSetpointSent (s : State) : Host.Outcome State Fault Refusal :=
  .next (s.fieldEvent State.openWindow)

/-- SCAN_REPLY (R84, R85, R183). -/
def execScanReply (frames : List KilnFrame) (s : State) : Host.Outcome State Fault Refusal :=
  .next (s.fieldEvent (fun s => s.settle.receiveReply (kilnChars frames)))

/-- REPLY_WINDOW_CLOSE (R84, R183). -/
def execReplyWindowClose (frames : List KilnFrame) (s : State) : Host.Outcome State Fault Refusal :=
  .next (s.fieldEvent (fun s => s.settle.closeWindow (kilnChars frames)))

end Sys2Proof.Machine
end

