-- ==== Sys2Proof/Machine/ChamberRequests.lean ====
section
/-! DEFINITION. The nine chamber requests (R67 to R77). -/

namespace Sys2Proof.Machine

/-- A chamber number lies outside 1..12. -/
def badChamber (n : Nat) : Bool := n < 1 || 12 < n

/-- A request whose payload is a chamber number alone, on that chamber (R67). -/
def onChamber (p : List Byte) (s : State) (f : Nat → Chamber → Reply) : Reply :=
  if p.length ≠ 1 then .refuse .badLength
  else
    let n := field p 0 1
    if badChamber n then .refuse .badField
    else f n ((s.chamber? n).getD .reset)

/-- The chamber is RUNNING or HOLD. -/
def Chamber.inProgress (c : Chamber) : Bool := c.state = .running || c.state = .hold

/-- CHAMBER_LOAD (R68, R11). -/
def chamberLoad (p : List Byte) (s : State) : Reply :=
  if p.length ≠ 4 then .refuse .badLength
  else
    let n := field p 0 1
    let sched := field p 3 1
    if badChamber n ∨ badSchedule sched then .refuse .badField
    else
      match s.findCharge (field p 1 2), s.schedule? sched with
      | some (slot, ch), some _ =>
        let c := (s.chamber? n).getD .reset
        if c.state ≠ .empty ∨ ch.state ≠ .staged then .refuse .wrongState
        else
          let c' : Chamber := { Chamber.reset with state := .loaded, chargeSlot := some slot, schedule := some sched }
          .ok [] (((s.setChamber n c').modifyRefCount sched (· + 1)).modifyCharge slot
            (fun ch => { ch with state := .kiln, chamber := some n }))
      | _, _ => .refuse .noSuch

/-- The starting dry-bulb setpoint: the last scan's dry-bulb actual within 200..1300, or the target
without a scan (R70). -/
def startingDry (scan : Option Scan) (target : Nat) : Nat :=
  match scan with
  | none => target
  | some sc => if sc.dry < 200 then 200 else if 1300 < sc.dry then 1300 else sc.dry.toNat

/-- CHAMBER_START (R70). -/
def chamberStart (p : List Byte) (s : State) : Reply :=
  onChamber p s (fun n c =>
    if c.state ≠ .loaded then .refuse .wrongState
    else
      let sc := s.scheduleOf c
      let t := sc.stepAt 0
      let dry := startingDry c.lastScan t.dryTarget
      let r : Run := ⟨0, sc.revision, t, 0, t.duration, dry, dry - t.depression⟩
      .ok (bytes 2 sc.revision)
        (s.setChamber n { c with run := some r, state := if c.causes.isEmpty then .running else .hold }))

/-- CHAMBER_HOLD (R71). -/
def chamberHold (p : List Byte) (s : State) : Reply :=
  onChamber p s (fun n c =>
    if !c.inProgress then .refuse .wrongState
    else .ok [] (s.setChamber n ({ c with causes := { c.causes with request := true } } : Chamber).reform))

/-- The working limit extended by the working copy's duration, held at 16,777,215 (R72). -/
def Run.extend (r : Run) : Run := { r with limit := min Config.max24 (r.limit + r.step.duration) }

/-- CHAMBER_RESUME (R72). The limit is extended whatever the step's kind, also for a TIME step that a
CHAMBER_RELOAD brought in while STEP_LIMIT was set, which R42 and R64 do not reckon with: DEDUCED,
assumption 19. -/
def chamberResume (p : List Byte) (s : State) : Reply :=
  onChamber p s (fun n c =>
    if !c.inProgress ∨ (!c.causes.request ∧ !c.causes.stepLimit) then .refuse .wrongState
    else
      let c' := ({ c with
        run := if c.causes.stepLimit then c.run.map Run.extend else c.run
        causes := { c.causes with request := false, stepLimit := false } } : Chamber).reform
      .ok (bytes 1 c'.causes.code) (s.setChamber n c'))

/-- The answer of CHAMBER_SKIP: the chamber's state and step index after the request (R73). -/
def State.skipAnswer (s : State) (n : Nat) : List Byte :=
  let c := (s.chamber? n).getD .reset
  bytes 1 c.state.code ++ optBytes 1 255 (c.run.map (·.index))

/-- CHAMBER_SKIP (R73). -/
def chamberSkip (p : List Byte) (s : State) : Reply :=
  onChamber p s (fun n c =>
    if !c.inProgress then .refuse .wrongState
    else
      let c' := ({ c with causes := { c.causes with stepLimit := false } } : Chamber).reform
      let s' := (s.setChamber n c').advanceStep n c' .skipped
      .ok (s'.skipAnswer n) s')

/-- CHAMBER_RELOAD (R74, R54). It keeps STEP_LIMIT whatever the kind of the step it copies: DEDUCED,
assumption 19. -/
def chamberReload (p : List Byte) (s : State) : Reply :=
  onChamber p s (fun n c =>
    if !c.inProgress then .refuse .wrongState
    else
      let sc := s.scheduleOf c
      .ok (bytes 2 sc.revision)
        (s.setChamber n { c with run := c.run.map (fun r => r.load sc r.index r.elapsed) }))

/-- CHAMBER_ABORT (R75). -/
def chamberAbort (p : List Byte) (s : State) : Reply :=
  onChamber p s (fun n c =>
    if c.state = .empty then .refuse .wrongState
    else if c.state = .aborted then .ok [] s
    else .ok [] (s.setChamber n
      { c with state := .aborted, causes := { c.causes with request := false, stepLimit := false } }))

/-- CHAMBER_UNLOAD (R76, R12). -/
def chamberUnload (p : List Byte) (s : State) : Reply :=
  onChamber p s (fun n c =>
    if c.state ≠ .loaded ∧ c.state ≠ .complete ∧ c.state ≠ .aborted then .refuse .wrongState
    else
      let next : ChargeState := if c.state = .complete then .dried else .staged
      .ok [] (((s.setChamber n .reset).modifyRefCount (c.schedule.getD 0) (· - 1)).modifyChargeOf c.chargeSlot
        (fun ch => { ch with state := next, chamber := none })))

/-- The probe result of a position: its mark is 255 beyond the probe count (R77), and at every position
without a scan: DESIGN CHOICE, assumption 20. -/
def probeBytes (o : Option ProbeResult) : List Byte :=
  match o with
  | none => bytes 2 65535 ++ bytes 1 255
  | some r => optBytes 2 65535 r.mc ++ bytes 1 r.mark.code

/-- The working copy, elapsed minutes, working limit and active setpoints as CHAMBER_READ reports
them, zero when absent (R77). -/
def runBytes : Option Run → List Byte
  | none => bytes 1 255 ++ bytes 2 0 ++ List.replicate 11 0 ++ bytes 3 0 ++ bytes 3 0 ++ bytes 2 0 ++ bytes 2 0
  | some r =>
    bytes 1 r.index ++ bytes 2 r.revision ++ r.step.bytes ++ bytes 3 r.elapsed ++ bytes 3 r.limit ++
      bytes 2 r.dry ++ bytes 2 r.wet

/-- The last scan as CHAMBER_READ reports it (R77). Without one the module status and the probe count are
sent as 0, which R77 does not say: DESIGN CHOICE, assumption 20. -/
def scanBytes : Option Scan → List Byte
  | none => flagByte false ++ signedBytes 2 0 ++ signedBytes 2 0 ++ bytes 1 0 ++ bytes 1 0
  | some c => flagByte true ++ signedBytes 2 c.dry ++ signedBytes 2 c.wet ++ bytes 1 c.status.code ++ bytes 1 c.count

/-- The 67-byte payload of CHAMBER_READ (R77). -/
def State.chamberReport (s : State) (n : Nat) (c : Chamber) : List Byte :=
  bytes 1 n ++ bytes 1 c.state.code ++
  optBytes 2 0 ((c.chargeSlot.bind s.charge?).map (·.number)) ++ optBytes 1 255 c.chargeSlot ++
  optBytes 1 0 c.schedule ++ runBytes c.run ++ bytes 1 c.causes.code ++ bytes 1 c.lastAdvance.code ++
  scanBytes c.lastScan ++ (List.range 8).flatMap (fun i => probeBytes c.probes[i]?) ++
  optBytes 2 65535 c.estMean ++ optBytes 2 65535 c.estWettest

/-- CHAMBER_READ (R77). -/
def chamberRead (p : List Byte) (s : State) : Reply :=
  onChamber p s (fun n c => .ok (s.chamberReport n c) s)

/-- CHAMBER_LOAD over the link. -/
def execChamberLoad (declared : Byte) (bs : List Byte) (s : State) : Host.Outcome State Fault Refusal :=
  .next (s.settle.request 64 chamberLoad declared bs)

/-- CHAMBER_START over the link. -/
def execChamberStart (declared : Byte) (bs : List Byte) (s : State) : Host.Outcome State Fault Refusal :=
  .next (s.settle.request 65 chamberStart declared bs)

/-- CHAMBER_HOLD over the link. -/
def execChamberHold (declared : Byte) (bs : List Byte) (s : State) : Host.Outcome State Fault Refusal :=
  .next (s.settle.request 66 chamberHold declared bs)

/-- CHAMBER_RESUME over the link. -/
def execChamberResume (declared : Byte) (bs : List Byte) (s : State) : Host.Outcome State Fault Refusal :=
  .next (s.settle.request 67 chamberResume declared bs)

/-- CHAMBER_SKIP over the link. -/
def execChamberSkip (declared : Byte) (bs : List Byte) (s : State) : Host.Outcome State Fault Refusal :=
  .next (s.settle.request 68 chamberSkip declared bs)

/-- CHAMBER_RELOAD over the link. -/
def execChamberReload (declared : Byte) (bs : List Byte) (s : State) : Host.Outcome State Fault Refusal :=
  .next (s.settle.request 69 chamberReload declared bs)

/-- CHAMBER_ABORT over the link. -/
def execChamberAbort (declared : Byte) (bs : List Byte) (s : State) : Host.Outcome State Fault Refusal :=
  .next (s.settle.request 70 chamberAbort declared bs)

/-- CHAMBER_UNLOAD over the link. -/
def execChamberUnload (declared : Byte) (bs : List Byte) (s : State) : Host.Outcome State Fault Refusal :=
  .next (s.settle.request 71 chamberUnload declared bs)

/-- CHAMBER_READ over the link. -/
def execChamberRead (declared : Byte) (bs : List Byte) (s : State) : Host.Outcome State Fault Refusal :=
  .next (s.settle.request 72 chamberRead declared bs)

end Sys2Proof.Machine
end

