-- ==== Sys2Proof/Machine/Sorting.lean ====
section
/-! DEFINITION. The Sorter (R114 to R130): rule matching and the bin decision, the drain check, the
gates, and the plan requests. -/

namespace Sys2Proof.Machine

/-! ## The bin decision (R116 to R118) -/

/-- What the bin decision looks at in a board (R116). -/
structure BoardClass where
  group : Nat
  grade : Nat
  lengthClass : Nat
  thicknessClass : Nat
  moisture : MClass
  deriving DecidableEq, Repr

/-- A rule matches a board (R116). -/
def Rule.matchesBoard (r : Rule) (b : BoardClass) : Bool :=
  r.groups.contains b.group && r.grades.contains b.grade &&
    (r.lengthLo ≤ b.lengthClass && b.lengthClass ≤ r.lengthHi) &&
    r.thickness.contains b.thicknessClass && r.moisture.contains b.moisture

/-- The bin and reason of a board: the quarantine bin, the first matching rule's bin, or the reject
bin (R117). -/
def Plan.decide (p : Plan) (quarantined : Bool) (b : BoardClass) : Nat × Reason :=
  if quarantined then (p.quarantine, .quarantine)
  else
    match p.rules.find? (fun r => r.matchesBoard b) with
    | some r => (r.bin, .data)
    | none => (p.reject, .noRule)

/-- A decision counted on a plan slot (R117, R118). -/
def State.countDecision (s : State) (n : Nat) : State :=
  s.setPlanSlot n { s.sorter.slot n with decided := (s.sorter.slot n).decided + 1 }

/-- The drain check for the plan slot a removed entry was decided under: its count falls, and a
DRAINING slot whose count has reached 0 becomes SHADOW and EMPTY with PLAN raised (R124). -/
def State.drainCheck (s : State) (n : Nat) : State :=
  let p := s.sorter.slot n
  let left := p.decided - 1
  if p.role = .draining ∧ left = 0 then
    (s.setPlanSlot n ⟨.shadow, none, 0⟩).raise .plan (.planSlot n)
  else s.setPlanSlot n { p with decided := left }

/-! ## Gates (R126, R127) -/

/-- The gate open count of a bin changed. -/
def State.modifyGate (s : State) (bin : Nat) (f : Nat → Nat) : State :=
  { s with sorter := { s.sorter with gates := s.sorter.gates.modify bin f } }

/-! ## Restart (R128) -/

/-- A plan slot at LINE_RESTART: its count becomes 0 and a DRAINING slot SHADOW and EMPTY (R128). -/
def PlanSlot.restart (p : PlanSlot) : PlanSlot :=
  if p.role = .draining then ⟨.shadow, none, 0⟩ else { p with decided := 0 }

/-- The Sorter at LINE_RESTART (R128). -/
def Sorter.restart (t : Sorter) : Sorter :=
  { slot0 := t.slot0.restart, slot1 := t.slot1.restart, gates := List.replicate Config.bins 0 }

/-! ## Requests (R119 to R125) -/

/-- The template and target of each of `n` bins from a header part (R120). -/
def readBins (p : List Byte) : (n : Nat) → List (Nat × Nat)
  | 0 => []
  | n + 1 => (field p 0 1, field p 1 2) :: readBins (p.drop 3) n

/-- The plan that a header part starts (R120). -/
def readHeader (p : List Byte) : Plan :=
  let bins := readBins (p.drop 5) 16
  { reject := field p 1 1, quarantine := field p 2 1, building := members 16 (field p 3 2)
    templates := bins.map (·.1), targets := bins.map (·.2), ruleCount := field p 53 1, rules := [] }

/-- A header part keeps the conditions of R120. -/
def Plan.headerOk (p : Plan) : Bool :=
  p.reject ≤ 15 && p.quarantine ≤ 15 && !p.building.contains p.reject &&
    (p.quarantine = p.reject || p.building.contains p.quarantine) &&
    p.templates.all (· ≤ 3) && p.targets.all (fun t => 1 ≤ t && t ≤ 9999) && p.ruleCount ≤ 48

/-- The number of rules a slot still expects (R120, R121). -/
def Plan.expected (p : Plan) : Nat := p.ruleCount - p.rules.length

/-- The answer payload of a PLAN_LOAD part (R120, R121). -/
def loadAnswer (slot : Nat) (p : Plan) : List Byte := bytes 1 slot ++ bytes 1 p.expected

/-- The header part of PLAN_LOAD (R120). -/
def planHeader (p : List Byte) (s : State) : Reply :=
  if p.length ≠ 54 then .refuse .badLength
  else if s.sorter.draining then .refuse .busy
  else
    let plan := readHeader p
    if !plan.headerOk then .refuse .badField
    else
      let n := s.sorter.otherSlot
      .ok (loadAnswer n plan) (s.setPlanSlot n { s.sorter.slot n with plan := some plan })

/-- A rule of 9 bytes (R121). -/
def readRule (p : List Byte) : Rule :=
  { groups := members 8 (field p 0 1), grades := members 16 (field p 1 2)
    lengthLo := field p 3 1, lengthHi := field p 4 1
    thickness := members 16 (field p 5 2), moisture := classMembers (field p 7 1), bin := field p 8 1 }

/-- `m` rules of 9 bytes each (R121). -/
def readRules (p : List Byte) : (m : Nat) → List Rule
  | 0 => []
  | m + 1 => readRule p :: readRules (p.drop 9) m

/-- A rule of 9 bytes lies within its ranges and keeps the quarantine bin's condition (R121). -/
def ruleOk (plan : Plan) (p : List Byte) : Bool :=
  let r := readRule p
  r.lengthLo ≤ 31 && r.lengthHi ≤ 31 && r.lengthLo ≤ r.lengthHi && field p 7 1 ≤ 15 && r.bin ≤ 15 &&
    !(r.bin = plan.quarantine && plan.quarantine ≠ plan.reject)

/-- Every one of `m` rules of 9 bytes each is in order (R121). -/
def rulesOk (plan : Plan) (p : List Byte) : (m : Nat) → Bool
  | 0 => true
  | m + 1 => ruleOk plan p && rulesOk plan (p.drop 9) m

/-- A rule part has a length of 2 + 9 × m with m within 1..16 (R121). -/
def rulePartLength (n : Nat) : Bool := 11 ≤ n && n ≤ 146 && (n - 2) % 9 = 0

/-- A rule part of PLAN_LOAD (R121). -/
def planRules (p : List Byte) (s : State) : Reply :=
  if !rulePartLength p.length then .refuse .badLength
  else if s.sorter.draining then .refuse .busy
  else
    let n := s.sorter.otherSlot
    let slot := s.sorter.slot n
    let m := (p.length - 2) / 9
    match slot.plan with
    | none => .refuse .wrongState
    | some plan =>
      if slot.fill ≠ .loading ∨ field p 1 1 ≠ plan.rules.length ∨ plan.ruleCount < field p 1 1 + m then
        .refuse .wrongState
      else if !rulesOk plan (p.drop 2) m then .refuse .badField
      else
        let plan' := { plan with rules := plan.rules ++ readRules (p.drop 2) m }
        .ok (loadAnswer n plan') (s.setPlanSlot n { slot with plan := some plan' })

/-- PLAN_LOAD: its parts are told apart by the first payload byte, and any other first byte, or none,
is refused BAD_LENGTH (R120, R121, R181). -/
def planLoad (p : List Byte) (s : State) : Reply :=
  match p with
  | [] => .refuse .badLength
  | k :: _ => if k = 0 then planHeader p s else if k = 1 then planRules p s else .refuse .badLength

/-- A close-request with reason PLAN on the current pack of a bin, with the count of packs
close-requested so far; a bin with no current pack is passed over (R123). -/
def closeForPlan (acc : State × Nat) (bin : Nat) : State × Nat :=
  match acc.1.currentPack bin with
  | none => acc
  | some slot => (acc.1.closeRequest slot .plan, acc.2 + 1)

/-- The close-requests of a switch: every bin that builds under the former plan and not under the new
one, in ascending bin order (R123). -/
def State.closeStoppedBins (s : State) (former new : Plan) : State × Nat :=
  ((List.range Config.bins).filter (fun b => former.building.contains b && !new.building.contains b)).foldl
    closeForPlan (s, 0)

/-- PLAN_SWITCH (R122, R123). A pack that its close-request closes at once may become HELD, and PACK_HELD is
raised then as R138 and R166 give, although R122 says that the request raises no attention. DEDUCED,
assumption 17. -/
def planSwitch (p : List Byte) (s : State) : Reply :=
  if p.length ≠ 0 then .refuse .badLength
  else if s.sorter.draining then .refuse .busy
  else
    let a := s.sorter.activeSlot
    let n := s.sorter.otherSlot
    let old := s.sorter.slot a
    let new := s.sorter.slot n
    match new.fill with
    | .empty => .refuse .noSuch
    | .loading => .refuse .wrongState
    | .loaded =>
      let former : PlanSlot :=
        if 0 < old.decided then { old with role := .draining } else ⟨.shadow, none, 0⟩
      let s' := (s.setPlanSlot n { new with role := .active }).setPlanSlot a former
      let r := s'.closeStoppedBins (s.sorter.planOf a) (s.sorter.planOf n)
      .ok (bytes 1 n ++ bytes 1 former.role.code ++ bytes 1 r.2) r.1

/-- A rule in 9 bytes, as PLAN_LOAD sends it (R121, R125). -/
def Rule.bytes (r : Rule) : List Byte :=
  Machine.bytes 1 (setSum r.groups) ++ Machine.bytes 2 (setSum r.grades) ++
    Machine.bytes 1 r.lengthLo ++ Machine.bytes 1 r.lengthHi ++ Machine.bytes 2 (setSum r.thickness) ++
    Machine.bytes 1 (classSum r.moisture) ++ Machine.bytes 1 r.bin

/-- The template and target of each bin, 3 bytes each (R125). -/
def Plan.binBytes (p : Plan) : List Byte :=
  (p.templates.zip p.targets).flatMap (fun x => Machine.bytes 1 x.1 ++ Machine.bytes 2 x.2)

/-- The answer payload of PLAN_READ (R125). -/
def planReport (n start : Nat) (slot : PlanSlot) (p : Plan) : List Byte :=
  let shown := (p.rules.drop start).take 16
  bytes 1 n ++ bytes 1 slot.role.code ++ bytes 1 slot.fill.code ++ bytes 1 slot.decided ++
    bytes 1 p.reject ++ bytes 1 p.quarantine ++ bytes 2 (setSum p.building) ++ p.binBytes ++
    bytes 1 p.ruleCount ++ bytes 1 p.rules.length ++ bytes 1 start ++ bytes 1 shown.length ++
    shown.flatMap Rule.bytes

/-- PLAN_READ: an EMPTY slot is answered NO_SUCH before the fields are checked (R119, R125). -/
def planRead (p : List Byte) (s : State) : Reply :=
  if p.length ≠ 2 then .refuse .badLength
  else
    let n := field p 0 1
    let start := field p 1 1
    if 1 < n then .refuse .badField
    else
      match (s.sorter.slot n).plan with
      | none => .refuse .noSuch
      | some plan =>
        if 47 < start then .refuse .badField else .ok (planReport n start (s.sorter.slot n) plan) s

/-- PLAN_LOAD, header part, over the link. -/
def execPlanLoadHeader (declared : Byte) (bs : List Byte) (s : State) : Host.Outcome State Fault Refusal :=
  .next (s.request 112 planLoad declared bs)

/-- PLAN_LOAD, rule part, over the link. -/
def execPlanLoadRules (declared : Byte) (bs : List Byte) (s : State) : Host.Outcome State Fault Refusal :=
  .next (s.request 112 planLoad declared bs)

/-- PLAN_SWITCH over the link. -/
def execPlanSwitch (declared : Byte) (bs : List Byte) (s : State) : Host.Outcome State Fault Refusal :=
  .next (s.request 113 planSwitch declared bs)

/-- PLAN_READ over the link. -/
def execPlanRead (declared : Byte) (bs : List Byte) (s : State) : Host.Outcome State Fault Refusal :=
  .next (s.request 114 planRead declared bs)

end Sys2Proof.Machine
end

