-- ==== Sys2Proof/Machine/Packs.lean ====
section
/-! DEFINITION. The Pack Table (R131 to R150): allocation, binding, delivery, unbinding, and the seven
pack requests. -/

namespace Sys2Proof.Machine

/-! ## From decision to delivery (R134 to R136) -/

/-- The pack number after a number, 999,999 being followed by 1 (R134). -/
def nextPackNumber (n : Nat) : Nat := if 999999 ≤ n then 1 else n + 1

/-- The first number, counting up from `n`, that no live pack holds, looking at `fuel` + 1 numbers
(R134). -/
def State.unusedNumber (s : State) : (fuel n : Nat) → Nat
  | 0, n => n
  | k + 1, n => if (s.findPack n).isSome then s.unusedNumber k (nextPackNumber n) else n

/-- The record of an allocated pack (R134). -/
def Pack.allocated (number bin target template : Nat) (quarantine : Bool) : Pack :=
  { number, bin, state := .opened, target, template, pieces := 0, bound := 0, tally := [], volume := 0,
    dimension := none, mixedDim := false, grades := [], charges := [], measured := 0, mcSum := 0,
    lowest := none, highest := none, quarantine, quarantineMix := false, closeReason := none,
    truncated := false }

/-- Allocation of a pack in a free record for a bin, under the plan the board was decided under
(R134). -/
def State.allocatePack (s : State) (slot bin : Nat) (plan : Plan) : State :=
  let number := s.unusedNumber Config.packSlots s.packs.nextNumber
  let p := Pack.allocated number bin ((plan.targets[bin]?).getD 1) ((plan.templates[bin]?).getD 0)
    (bin = plan.quarantine)
  { s with packs := { records := s.packs.records.set slot (some p)
                      current := s.packs.current.set bin (some slot)
                      nextNumber := nextPackNumber number } }

/-- A board bound to its bin's current pack; at the target the pack is close-requested (R135). -/
def State.bindPack (s : State) (slot : Nat) : State :=
  let s := s.modifyPack slot (fun p => { p with bound := p.bound + 1 })
  match s.pack? slot with
  | none => s
  | some p => if p.target ≤ p.pieces + p.bound then s.closeRequest slot .target else s

/-- Stage 5 of the board-arrival operation for a bin that builds packs: the pack slot the board is
bound to, or none when the pack table is full (R134, R135). -/
def State.bindBoard (s : State) (bin : Nat) (plan : Plan) : State × Option Nat :=
  match s.currentPack bin with
  | some slot => (s.bindPack slot, some slot)
  | none =>
    match freeSlot 0 s.packs.records with
    | some slot => ((s.allocatePack slot bin plan).bindPack slot, some slot)
    | none => (s, none)

/-- A piece counted in the length tally (R136). -/
def tallyAdd (c : Nat) : List (Nat × Nat) → List (Nat × Nat)
  | [] => [(c, 1)]
  | (k, n) :: l =>
    if c < k then (c, 1) :: (k, n) :: l else if c = k then (k, n + 1) :: l else (k, n) :: tallyAdd c l

/-- The moisture summary takes a measured board (R136). -/
def Pack.addMoisture (p : Pack) : Option Nat → Pack
  | none => p
  | some m =>
    { p with measured := p.measured + 1, mcSum := p.mcSum + m, lowest := lowerOf p.lowest m,
             highest := higherOf p.highest m }

/-- Steps 1 to 8 of a delivery on the pack record (R136). -/
def Pack.addPiece (p : Pack) (dims : Dimensions) (d : Decision) (quarantined : Bool) : Pack :=
  let lc := d.lengthClass.getD 0
  let wc := d.widthClass.getD 0
  let tc := d.thicknessClass.getD 0
  let p' : Pack := { p with
    bound := p.bound - 1
    pieces := p.pieces + 1
    tally := tallyAdd lc p.tally
    volume := p.volume + dims.thicknessOf tc * dims.widthOf wc * dims.lengthOf lc
    dimension := if p.pieces = 0 then some (tc, wc) else p.dimension
    mixedDim := p.mixedDim || (p.pieces ≠ 0 && p.dimension ≠ some (tc, wc))
    grades := d.grade.elim p.grades (fun g => insertAsc g p.grades)
    charges := d.chargeSlot.elim p.charges (fun c => insertAsc c p.charges)
    quarantineMix := p.quarantineMix || quarantined }
  p'.addMoisture d.mc

/-- The quarantine flag of an optional charge slot. -/
def State.flagOf (s : State) (slot : Option Nat) : Bool :=
  match slot.bind s.charge? with
  | some c => c.quarantined
  | none => false

/-- Delivery of a board into its pack (R136, R16). -/
def State.deliver (s : State) (slot : Nat) (d : Decision) : State :=
  match s.pack? slot with
  | none => s
  | some p =>
    let quarantined := s.flagOf d.chargeSlot
    let fresh : Option Nat := d.chargeSlot.filter (fun c => !p.charges.contains c)
    let s := s.modifyPack slot (fun p => p.addPiece s.tracker.dimensions d quarantined)
    let s := s.modifyChargeOf fresh (fun c => { c with packRef := c.packRef + 1 })
    if p.state = .closing ∧ p.bound - 1 = 0 then s.closePack slot else s

/-- A removed entry's board unbound from its pack at LINE_RESTART (R149). -/
def State.unbindPack (s : State) (slot : Nat) : State :=
  match s.pack? slot with
  | none => s
  | some p =>
    let s := s.modifyPack slot (fun p => { p with bound := p.bound - 1 })
    if p.bound - 1 = 0 then
      if p.state = .closing then s.closePack slot
      else if p.state = .opened ∧ p.pieces = 0 then (s.freePack slot).setCurrent p.bin none
      else s
    else s

/-! ## Requests (R141 to R148) -/

/-- A pack number lies outside 1..999,999 (R141). -/
def badPackNumber (n : Nat) : Bool := n < 1 || 999999 < n

/-- A request whose payload is a pack number alone, on the live pack of that number (R141). -/
def onPack (p : List Byte) (s : State) (f : Nat → Pack → Reply) : Reply :=
  if p.length ≠ 3 then .refuse .badLength
  else
    let n := field p 0 3
    if badPackNumber n then .refuse .badField
    else
      match s.findPack n with
      | none => .refuse .noSuch
      | some (slot, pk) => f slot pk

/-- The answer payload of PACK_READ (R142). -/
def State.packReport (s : State) (slot : Nat) (p : Pack) : List Byte :=
  bytes 3 p.number ++ bytes 1 slot ++ bytes 1 p.bin ++ bytes 1 p.state.code ++
    flagByte (s.currentPack p.bin = some slot) ++ bytes 2 p.target ++ bytes 1 p.template ++
    bytes 2 p.pieces ++ bytes 1 p.bound ++ bytes 5 p.volume ++
    optBytes 1 255 (p.dimension.map (·.1)) ++ optBytes 1 255 (p.dimension.map (·.2)) ++
    bytes 1 p.marks ++ bytes 1 (closeReasonCode p.closeReason) ++ flagByte p.truncated ++
    bytes 2 (setSum p.grades) ++ bytes 8 (setSum p.charges) ++ bytes 2 p.measured ++ bytes 3 p.mcSum ++
    optBytes 2 65535 p.lowest ++ optBytes 2 65535 p.highest ++ bytes 1 p.tally.length ++
    p.tally.flatMap (fun x => bytes 1 x.1 ++ bytes 2 x.2)

/-- PACK_READ (R142). -/
def packRead (p : List Byte) (s : State) : Reply :=
  onPack p s (fun slot pk => .ok (s.packReport slot pk) s)

/-- A pack matches a PACK_LIST filter, 255 standing for any bin or charge slot (R143). -/
def Pack.listed (start states bin charge : Nat) (p : Pack) : Bool :=
  start ≤ p.number && hasCode states p.state.setCode && (bin = 255 || p.bin = bin) &&
    (charge = 255 || p.charges.contains charge)

/-- An entry of the PACK_LIST answer (R143). The state and the marks are coded as PACK_READ codes them
(R142), which R143 does not say: DEDUCED, assumption 21. -/
def Pack.entry (slot : Nat) (p : Pack) : List Byte :=
  bytes 3 p.number ++ bytes 1 slot ++ bytes 1 p.bin ++ bytes 1 p.state.code ++ bytes 1 p.marks ++
    bytes 2 p.pieces

/-- The packs that match a PACK_LIST filter, in ascending pack number (R143). -/
def State.packsListed (s : State) (start states bin charge : Nat) : List (Nat × Pack) :=
  sortBy (fun x => x.2.number)
    ((liveSlots 0 s.packs.records).filter (fun x => x.2.listed start states bin charge))

/-- PACK_LIST (R143). -/
def packList (p : List Byte) (s : State) : Reply :=
  if p.length ≠ 6 then .refuse .badLength
  else
    let start := field p 0 3
    let states := field p 3 1
    let bin := field p 4 1
    let charge := field p 5 1
    if 999999 < start ∨ states = 0 ∨ (16 ≤ bin ∧ bin ≤ 254) ∨ (64 ≤ charge ∧ charge ≤ 254) then
      .refuse .badField
    else
      let found := s.packsListed start states bin charge
      let shown := found.take 24
      let next := (found[24]?).elim 0 (fun x => x.2.number)
      .ok (bytes 1 shown.length ++ bytes 3 next ++ shown.flatMap (fun x => x.2.entry x.1)) s

/-- PACK_CLOSE (R144). The answer gives the pack's state after the request and its bound count. -/
def packClose (p : List Byte) (s : State) : Reply :=
  onPack p s (fun slot pk =>
    if pk.state ≠ .opened then .refuse .wrongState
    else
      let s' := s.closeRequest slot .request
      let after := (s'.pack? slot).elim PackState.closing (·.state)
      .ok (bytes 1 after.code ++ bytes 1 pk.bound) s')

/-- PACK_RELEASE (R145). -/
def packRelease (p : List Byte) (s : State) : Reply :=
  onPack p s (fun slot pk =>
    if pk.state ≠ .held then .refuse .wrongState else .ok [] (s.queueTail slot))

/-- PACK_REJECT (R146). -/
def packReject (p : List Byte) (s : State) : Reply :=
  onPack p s (fun slot pk =>
    if pk.state ≠ .held then .refuse .wrongState
    else .ok [] (s.modifyPack slot (fun p => { p with state := .rejected })))

/-- The pack references of the charges in a charge set, each lowered by 1 in ascending slot order
(R147, R16). -/
def State.lowerPackRefs (s : State) (charges : List Nat) : State :=
  charges.foldl (fun s c => s.modifyCharge c (fun ch => { ch with packRef := ch.packRef - 1 })) s

/-- PACK_RETIRE (R147). -/
def packRetire (p : List Byte) (s : State) : Reply :=
  onPack p s (fun slot pk =>
    if pk.state ≠ .labelled ∧ pk.state ≠ .rejected then .refuse .wrongState
    else .ok (bytes 1 pk.charges.length) ((s.lowerPackRefs pk.charges).freePack slot))

/-- PACK_NUMBER_SET (R148). -/
def packNumberSet (p : List Byte) (s : State) : Reply :=
  if p.length ≠ 3 then .refuse .badLength
  else
    let n := field p 0 3
    if badPackNumber n then .refuse .badField
    else .ok (bytes 3 n) { s with packs := { s.packs with nextNumber := n } }

/-- PACK_READ over the link. -/
def execPackRead (declared : Byte) (bs : List Byte) (s : State) : Host.Outcome State Fault Refusal :=
  .next (s.request 128 packRead declared bs)

/-- PACK_LIST over the link. -/
def execPackList (declared : Byte) (bs : List Byte) (s : State) : Host.Outcome State Fault Refusal :=
  .next (s.request 129 packList declared bs)

/-- PACK_CLOSE over the link. -/
def execPackClose (declared : Byte) (bs : List Byte) (s : State) : Host.Outcome State Fault Refusal :=
  .next (s.request 130 packClose declared bs)

/-- PACK_RELEASE over the link. -/
def execPackRelease (declared : Byte) (bs : List Byte) (s : State) : Host.Outcome State Fault Refusal :=
  .next (s.request 131 packRelease declared bs)

/-- PACK_REJECT over the link. -/
def execPackReject (declared : Byte) (bs : List Byte) (s : State) : Host.Outcome State Fault Refusal :=
  .next (s.request 132 packReject declared bs)

/-- PACK_RETIRE over the link. -/
def execPackRetire (declared : Byte) (bs : List Byte) (s : State) : Host.Outcome State Fault Refusal :=
  .next (s.request 133 packRetire declared bs)

/-- PACK_NUMBER_SET over the link. -/
def execPackNumberSet (declared : Byte) (bs : List Byte) (s : State) : Host.Outcome State Fault Refusal :=
  .next (s.request 134 packNumberSet declared bs)

end Sys2Proof.Machine
end

