-- ==== Sys2Proof/Machine/Tracking.lean ====
section
/-! DEFINITION. The Board Tracker (R93 to R113): chain position, edges, the transit queue, pairing,
the board-arrival operation, the board-message receiver (R184), and the four requests. -/

namespace Sys2Proof.Machine

/-! ## Positions (R94, R95, R105) -/

/-- A target position is reached when the current position less the target, modulo 2^24, is below
2^23 (R94). -/
def positionReached (now target : Nat) : Bool :=
  (now + Config.chainModulus - target % Config.chainModulus) % Config.chainModulus < Config.chainHalf

/-- The expiry position of a capture position (R95). -/
def State.expiryPos (s : State) (capture : Nat) : Nat :=
  (capture + s.tracker.geometry.pairing) % Config.chainModulus

/-- The open position of a board captured at `capture` for a bin (R102, R105). -/
def Geometry.openPos (g : Geometry) (capture bin : Nat) : Nat :=
  (capture + g.offsetOf bin + Config.chainModulus - g.lead) % Config.chainModulus

/-- The close position of a board of `length` decimetres captured at `capture` for a bin (R102,
R105). -/
def Geometry.closePos (g : Geometry) (capture bin length : Nat) : Nat :=
  (capture + g.offsetOf bin + length * g.scale + g.trail) % Config.chainModulus

/-- The three events an entry waits on, by its state (R95). -/
inductive Due where
  | expiry | openGate | closeGate
  deriving DecidableEq, Repr

/-- The event an entry waits on and its target position (R95). -/
def State.targetOf (s : State) (e : Entry) : Due × Nat :=
  match e.decision with
  | none => (.expiry, s.expiryPos e.capture)
  | some d => if d.gateOpen then (.closeGate, d.closePos) else (.openGate, d.openPos)

/-- The event an entry is to take now, when its target position is reached (R95). -/
def State.dueEvent (s : State) (sequence : Nat) : Option Due :=
  match s.entry? sequence with
  | none => none
  | some e =>
    let t := s.targetOf e
    if positionReached s.tracker.position t.2 then some t.1 else none

/-! ## The events of an entry (R102, R106) -/

/-- A NO_DATA decision (R102, R118). -/
def State.decideNoData (s : State) (e : Entry) : State :=
  let n := s.sorter.activeSlot
  let bin := (s.sorter.planOf n).reject
  let g := s.tracker.geometry
  let d : Decision :=
    { chargeSlot := none, grade := none, lengthClass := none, widthClass := none, thicknessClass := none,
      mc := none, moisture := .unmeasured, reason := .noData, bin := bin, planSlot := n, packSlot := none,
      openPos := g.openPos e.capture bin, closePos := g.closePos e.capture bin 80, gateOpen := false }
  ((s.setDecision e.sequence d).countDecision n).raiseTransit e.sequence .untracked

/-- The open event: the gate open flag is set and the bin's gate open count goes up (R106, R126). -/
def State.openEntry (s : State) (sequence : Nat) (d : Decision) : State :=
  (s.setDecision sequence { d with gateOpen := true }).modifyGate d.bin (· + 1)

/-- The close event: the gate open count falls, the board is delivered, its charge's transit reference
falls, the entry is removed and the drain check is made (R106, R127). -/
def State.closeEntry (s : State) (sequence : Nat) (d : Decision) : State :=
  let s := s.modifyGate d.bin (· - 1)
  let s := match d.packSlot with
    | some slot => s.deliver slot d
    | none => s
  let s := s.modifyChargeOf d.chargeSlot (fun c => { c with transitRef := c.transitRef - 1 })
  (s.removeEntry sequence).drainCheck d.planSlot

/-- The event that an entry is due, taken on it. -/
def State.takeDue (s : State) (sequence : Nat) : State :=
  match s.dueEvent sequence, s.entry? sequence with
  | some due, some e =>
    match due, e.decision with
    | .expiry, _ => s.decideNoData e
    | .openGate, some d => s.openEntry sequence d
    | .closeGate, some d => s.closeEntry sequence d
    | _, none => s
  | _, _ => s

/-- An entry's events whose targets are already reached, taken at once one after the other: expiry,
open and close, so `fuel` of 3 takes them all (R95). -/
def State.takeReached (s : State) : (fuel sequence : Nat) → State
  | 0, _ => s
  | k + 1, q => if (s.dueEvent q).isSome then (s.takeDue q).takeReached k q else s

/-- The event `due` of an entry, when it is the one the entry is due, with what is then reached at
once; otherwise no event happens (R95). DESIGN CHOICE, assumptions 3 and 4. -/
def State.chainEvent (s : State) (due : Due) (sequence : Nat) : State :=
  if s.dueEvent sequence = some due then s.takeReached 3 sequence else s

/-- Every event that the chain has reached, in queue order. They are taken at the pulse that reaches
them (R95), so the next pulse begins with this. DESIGN CHOICE, assumption 3. -/
def State.settleChain (s : State) : State :=
  (s.tracker.queue.map (·.sequence)).foldl (fun s q => s.takeReached 3 q) s

/-! ## Edges (R96) -/

/-- An edge given no entry (R96). -/
def State.loseEdge (s : State) (sequence : Nat) (r : TransitReason) : State :=
  ({ s with tracker := { s.tracker with edgesLost := min Config.max16 (s.tracker.edgesLost + 1) } } : State).raiseTransit
    sequence r

/-- A leading edge on EYE (R96). -/
def State.takeEdge (s : State) : State :=
  let q := (s.tracker.edgeSequence + 1) % 256
  let s : State := { s with tracker := { s.tracker with edgeSequence := q } }
  if Config.transitPlaces ≤ s.tracker.queue.length then s.loseEdge q .queueFull
  else if s.tracker.queue.any (fun e => e.sequence = q) then s.loseEdge q .sequenceHeld
  else
    ({ s with tracker := { s.tracker with
        queue := s.tracker.queue ++ [⟨q, s.tracker.position, none⟩] } } : State).takeReached 3 q

/-! ## The board-arrival operation (R103 to R105) -/

/-- A complete board message as named fields (R98). -/
structure BoardMessage where
  sequence : Nat
  number : Nat
  grade : Nat
  lengthClass : Nat
  widthClass : Nat
  thicknessClass : Nat
  raw : Nat
  temp : Int
  deriving DecidableEq, Repr

/-- What stages 2 and 3 hand on: MC, moisture class, species group, quarantine flag (R103). -/
structure Measured where
  mc : Option Nat
  cls : MClass
  group : Nat
  quarantined : Bool
  deriving DecidableEq, Repr

/-- Stages 2 and 3 for a found charge: the moisture stage (R31), the statistics update (R34, R14) and
the quarantine test with its entry (R36, R37, R18). -/
def State.measureBoard (s : State) (m : BoardMessage) (slot : Nat) (c : Charge) : State × Measured :=
  let e := s.speciesEntry c.species
  let r := computeReading e.meter m.raw (meterTemp m.temp)
  let cls := classify c.dry c.wet r.mc
  let c' := c.addBoard r.mc cls
  let s := s.modifyCharge slot (fun _ => c')
  if r.mc.isSome && !c'.quarantined && c'.testTrips then
    (s.enterQuarantine slot c'.number, ⟨r.mc, cls, e.group, true⟩)
  else (s, ⟨r.mc, cls, e.group, c'.quarantined⟩)

/-- The entry's decision with its gate positions, DECIDED with its gate open flag clear (R105). -/
def State.decideEntry (s : State) (e : Entry) (m : BoardMessage) (slot : Option Nat) (mc : Option Nat)
    (cls : MClass) (reason : Reason) (bin planSlot : Nat) (pack : Option Nat) : State :=
  let g := s.tracker.geometry
  s.setDecision e.sequence
    { chargeSlot := slot, grade := some m.grade, lengthClass := some m.lengthClass,
      widthClass := some m.widthClass, thicknessClass := some m.thicknessClass, mc := mc, moisture := cls,
      reason := reason, bin := bin, planSlot := planSlot, packSlot := pack,
      openPos := g.openPos e.capture bin,
      closePos := g.closePos e.capture bin (s.tracker.dimensions.lengthOf m.lengthClass),
      gateOpen := false }

/-- A board whose charge lookup failed (R104, R118). -/
def State.arriveUnknown (s : State) (e : Entry) (m : BoardMessage) : State :=
  let n := s.sorter.activeSlot
  let s := s.countDecision n
  let s := s.raiseTransit e.sequence .unknownCharge
  s.decideEntry e m none none .unmeasured .unknownCharge (s.sorter.planOf n).reject n none

/-- Stage 5: the bin, reason and pack slot after binding; a building bin without a free record
redirects the board to the reject bin and raises TRANSIT (R103, R134, R135). -/
def State.stageFive (s : State) (sequence bin : Nat) (reason : Reason) (plan : Plan) :
    State × Nat × Reason × Option Nat :=
  if plan.building.contains bin then
    match s.bindBoard bin plan with
    | (s, some slot) => (s, bin, reason, some slot)
    | (s, none) => (s.raiseTransit sequence .packTableFull, plan.reject, .packTableFull, none)
  else (s, bin, reason, none)

/-- A board whose charge was found: stages 2 to 6 (R103). -/
def State.arriveFound (s : State) (e : Entry) (m : BoardMessage) (slot : Nat) (c : Charge) : State :=
  let (s, b) := s.measureBoard m slot c
  let n := s.sorter.activeSlot
  let plan := s.sorter.planOf n
  let d := plan.decide b.quarantined ⟨b.group, m.grade, m.lengthClass, m.thicknessClass, b.cls⟩
  let s := s.countDecision n
  let (s, bin, reason, pack) := s.stageFive e.sequence d.1 d.2 plan
  let s := s.modifyCharge slot (fun c => { c with transitRef := c.transitRef + 1 })
  s.decideEntry e m (some slot) b.mc b.cls reason bin n pack

/-- The board-arrival operation (R103), followed by what the chain has already reached (R95). -/
def State.arrive (s : State) (e : Entry) (m : BoardMessage) : State :=
  let s := match s.lookupForBoard m.number with
    | none => s.arriveUnknown e m
    | some (slot, c) => s.arriveFound e m slot c
  s.takeReached 3 e.sequence

/-! ## Pairing (R99, R100) -/

/-- An orphan message (R100). -/
def State.orphan (s : State) (sequence : Nat) : State :=
  ({ s with tracker := { s.tracker with orphans := min Config.max16 (s.tracker.orphans + 1) } } : State).raiseTransit
    sequence .orphan

/-- The oldest entry in AWAITING_DATA (R99). -/
def State.oldestAwaiting (s : State) : Option Entry := s.tracker.queue.find? Entry.awaiting

/-- The entries in AWAITING_DATA that a message skips, oldest first: their sequences lie from `first`
up to the one before the message's, `diff` of them (R99). -/
def State.skipped (s : State) (first diff : Nat) : List Entry :=
  s.tracker.queue.filter (fun e => e.awaiting && (e.sequence + 256 - first) % 256 < diff)

/-- The skipped entries decided as NO_DATA, oldest first, each with what the chain has already reached
(R99, R95). -/
def State.skipEntries (s : State) (l : List Entry) : State :=
  l.foldl (fun s e => (s.decideNoData e).takeReached 3 e.sequence) s

/-- A message pairs with the entry of its sequence that is in AWAITING_DATA, or is an orphan (R99). -/
def State.pairOrOrphan (s : State) (m : BoardMessage) : State :=
  match s.tracker.queue.find? (fun e => e.awaiting && e.sequence = m.sequence) with
  | some e => s.arrive e m
  | none => s.orphan m.sequence

/-- Pairing of a complete message by the difference of its sequence from that of the oldest entry in
AWAITING_DATA, modulo 256 (R99). -/
def State.pair (s : State) (m : BoardMessage) : State :=
  match s.oldestAwaiting with
  | none => s.orphan m.sequence
  | some e =>
    let diff := (m.sequence + 256 - e.sequence) % 256
    if diff = 0 then s.arrive e m
    else if diff ≤ 127 then (s.skipEntries (s.skipped e.sequence diff)).pairOrOrphan m
    else s.orphan m.sequence

/-! ## The board-message receiver (R98, R184) -/

/-- The value of a hexadecimal digit, 0..9 or A..F (R184). -/
def hexDigit (b : Byte) : Option Nat :=
  let n := b.toNat
  if 48 ≤ n ∧ n ≤ 57 then some (n - 48) else if 65 ≤ n ∧ n ≤ 70 then some (n - 55) else none

/-- The field bytes that pairs of digits stand for; none when a character is in error or no digit
(R184). -/
def readDigits : List RxChar → Option (List Byte)
  | [] => some []
  | [_] => none
  | a :: b :: l =>
    if a.error || b.error then none
    else
      match hexDigit a.value, hexDigit b.value, readDigits l with
      | some hi, some lo, some r => some (BitVec.ofNat 8 (16 * hi + lo) :: r)
      | _, _, _ => none

/-- The named fields of the 10 field bytes of a message (R184). -/
def readMessage (p : List Byte) : BoardMessage :=
  { sequence := field p 0 1, number := field p 1 2, grade := field p 3 1, lengthClass := field p 4 1
    widthClass := field p 5 1, thicknessClass := field p 6 1, raw := field p 7 2
    temp := signedField p 9 1 }

/-- The grade and classes of a message lie within their ranges (R98). -/
def BoardMessage.inRange (m : BoardMessage) : Bool :=
  m.grade ≤ 15 && m.lengthClass ≤ 31 && m.widthClass ≤ 15 && m.thicknessClass ≤ 15

/-- The board-message receiver with its contents replaced. -/
def State.setReceiver (s : State) (r : Option (List RxChar)) : State :=
  { s with tracker := { s.tracker with receiver := r } }

/-- A message discarded and counted (R98). -/
def State.discardMessage (s : State) : State :=
  { s with tracker := { s.tracker with discarded := min Config.max16 (s.tracker.discarded + 1) } }

/-- The twentieth character after the start has arrived: a sound message in range is paired, any
other discarded (R98, R184). -/
def State.finishMessage (s : State) (chars : List RxChar) : State :=
  match readDigits chars with
  | none => s.discardMessage
  | some p => if (readMessage p).inRange then s.pair (readMessage p) else s.discardMessage

/-- A start character: a number sign without framing error (R184). -/
def isStart (c : RxChar) : Bool := c.value = 35 && !c.error

/-- One character taken by the board-message receiver, by the table of R184. -/
def State.boardChar (s : State) (c : RxChar) : State :=
  match s.tracker.receiver with
  | none => if isStart c then s.setReceiver (some []) else s
  | some got =>
    if isStart c then s.discardMessage.setReceiver (some [])
    else if got.length + 1 < 20 then s.setReceiver (some (got ++ [c]))
    else (s.setReceiver none).finishMessage (got ++ [c])

/-! ## Requests (R108 to R112) -/

/-- `n` numbers of `width` bytes each. -/
def readNumbers (width : Nat) (p : List Byte) : (n : Nat) → List Nat
  | 0 => []
  | n + 1 => field p 0 width :: readNumbers width (p.drop width) n

/-- The dimension table of a DIMENSION_SET payload (R109). -/
def readDimensions (p : List Byte) : Dimensions :=
  ⟨readNumbers 1 p 16, readNumbers 2 (p.drop 16) 16, readNumbers 1 (p.drop 48) 32⟩

/-- Every value of a dimension table lies within its range (R109). -/
def Dimensions.inRange (d : Dimensions) : Bool :=
  d.thickness.all (fun x => 10 ≤ x && x ≤ 200) && d.width.all (fun x => 25 ≤ x && x ≤ 400) &&
    d.length.all (fun x => 6 ≤ x && x ≤ 80)

/-- DIMENSION_SET (R109). -/
def dimensionSet (p : List Byte) (s : State) : Reply :=
  if p.length ≠ 80 then .refuse .badLength
  else if !(readDimensions p).inRange then .refuse .badField
  else if !s.tracker.queue.isEmpty then .refuse .busy
  else .ok [] { s with tracker := { s.tracker with dimensions := readDimensions p } }

/-- The line geometry of a LINE_SET payload (R110). -/
def readGeometry (p : List Byte) : Geometry :=
  ⟨field p 0 2, readNumbers 2 (p.drop 2) 16, field p 34 1, field p 35 1, field p 36 1⟩

/-- P, every offset and the scale are above 0, and P lies below offset − lead for every gate (R110). -/
def Geometry.valid (g : Geometry) : Bool :=
  0 < g.pairing && 0 < g.scale && g.offsets.all (fun o => 0 < o && g.pairing + g.lead < o)

/-- LINE_SET (R110). -/
def lineSet (p : List Byte) (s : State) : Reply :=
  if p.length ≠ 37 then .refuse .badLength
  else if !(readGeometry p).valid then .refuse .badField
  else if !s.tracker.queue.isEmpty then .refuse .busy
  else .ok [] { s with tracker := { s.tracker with geometry := readGeometry p } }

/-- A transit entry in 24 bytes (R111). -/
def Entry.report (e : Entry) : List Byte :=
  bytes 1 e.sequence ++ bytes 3 e.capture ++ bytes 1 e.stateCode ++
  match e.decision with
  | none => List.replicate 5 255 ++ bytes 2 65535 ++ [0, 0] ++ [255, 255, 255] ++ List.replicate 6 0 ++ [0]
  | some d =>
    optBytes 1 255 d.chargeSlot ++ optBytes 1 255 d.grade ++ optBytes 1 255 d.lengthClass ++
    optBytes 1 255 d.widthClass ++ optBytes 1 255 d.thicknessClass ++ optBytes 2 65535 d.mc ++
    bytes 1 d.moisture.code ++ bytes 1 d.reason.code ++ bytes 1 d.bin ++ bytes 1 d.planSlot ++
    optBytes 1 255 d.packSlot ++ bytes 3 d.openPos ++ bytes 3 d.closePos ++ flagByte d.gateOpen

/-- The answer payload of TRANSIT_READ (R111). -/
def Tracker.report (t : Tracker) (start : Nat) : List Byte :=
  let shown := (t.queue.drop start).take 8
  bytes 3 t.position ++ bytes 1 t.edgeSequence ++ bytes 1 t.queue.length ++ bytes 1 start ++
    bytes 1 shown.length ++ bytes 2 t.edgesLost ++ bytes 2 t.orphans ++ bytes 2 t.discarded ++
    shown.flatMap Entry.report

/-- TRANSIT_READ (R111). -/
def transitRead (p : List Byte) (s : State) : Reply :=
  if p.length ≠ 1 then .refuse .badLength
  else if 31 < field p 0 1 then .refuse .badField
  else .ok (s.tracker.report (field p 0 1)) s

/-- One removed entry at LINE_RESTART: its pack's bound count and its charge's transit reference fall
(R112, R149, R15). -/
def State.unbindEntry (s : State) (e : Entry) : State :=
  match e.decision with
  | none => s
  | some d =>
    let s := match d.packSlot with
      | some slot => s.unbindPack slot
      | none => s
    s.modifyChargeOf d.chargeSlot (fun c => { c with transitRef := c.transitRef - 1 })

/-- LINE_RESTART (R112, R128, R149). -/
def lineRestart (p : List Byte) (s : State) : Reply :=
  if p.length ≠ 0 then .refuse .badLength
  else
    let removed := s.tracker.queue
    let s := removed.foldl State.unbindEntry s
    .ok (bytes 1 removed.length)
      { s with
        tracker := { s.tracker with queue := [], edgeSequence := 0, receiver := none }
        sorter := s.sorter.restart }

/-- LINE_SET over the link. -/
def execLineSet (declared : Byte) (bs : List Byte) (s : State) : Host.Outcome State Fault Refusal :=
  .next (s.request 96 lineSet declared bs)

/-- DIMENSION_SET over the link. -/
def execDimensionSet (declared : Byte) (bs : List Byte) (s : State) : Host.Outcome State Fault Refusal :=
  .next (s.request 97 dimensionSet declared bs)

/-- TRANSIT_READ over the link. -/
def execTransitRead (declared : Byte) (bs : List Byte) (s : State) : Host.Outcome State Fault Refusal :=
  .next (s.request 98 transitRead declared bs)

/-- LINE_RESTART over the link. -/
def execLineRestart (declared : Byte) (bs : List Byte) (s : State) : Host.Outcome State Fault Refusal :=
  .next (s.request 99 lineRestart declared bs)

/-! ## Events -/

/-- ENC_PULSE: the chain position counter goes up by 1, from 16,777,215 to 0 (R94). -/
def execEncPulse (s : State) : Host.Outcome State Fault Refusal :=
  .next (s.fieldEvent (fun s =>
    let s := s.settleChain
    { s with tracker := { s.tracker with position := (s.tracker.position + 1) % Config.chainModulus } }))

/-- EDGE (R96). -/
def execEdge (s : State) : Host.Outcome State Fault Refusal :=
  .next (s.fieldEvent State.takeEdge)

/-- EXPIRY of the oldest entry in AWAITING_DATA (R101). -/
def execExpiry (s : State) : Host.Outcome State Fault Refusal :=
  .next (s.fieldEvent (fun s =>
    match s.oldestAwaiting with
    | some e => s.chainEvent .expiry e.sequence
    | none => s))

/-- BOARD_MESSAGE: the characters taken by the receiver one after the other (R98, R99, R184). DESIGN CHOICE,
assumption 10. -/
def execBoardMessage (frames : List BoardFrame) (s : State) : Host.Outcome State Fault Refusal :=
  .next (s.fieldEvent (fun s => (boardChars frames).foldl State.boardChar s))

/-- OPEN_EVENT of the entry of an edge sequence (R106). -/
def execOpenEvent (sequence : Nat) (s : State) : Host.Outcome State Fault Refusal :=
  .next (s.fieldEvent (fun s => s.chainEvent .openGate sequence))

/-- CLOSE_EVENT of the entry of an edge sequence (R106). -/
def execCloseEvent (sequence : Nat) (s : State) : Host.Outcome State Fault Refusal :=
  .next (s.fieldEvent (fun s => s.chainEvent .closeGate sequence))

/-- START_CHARACTER: a number sign without framing error arrives on BRD_RX (R184). -/
def execStartCharacter (s : State) : Host.Outcome State Fault Refusal :=
  .next (s.fieldEvent (fun s => s.boardChar ⟨35, false⟩))

end Sys2Proof.Machine
end

