-- ==== Sys2Proof/Machine/Labels.lean ====
section
/-! DEFINITION. The Label Composer (R151 to R165) and the label port (R185): field texts,
composition, the printer's events, and the label requests. -/

namespace Sys2Proof.Machine

/-! ## Field texts (R155) -/

/-- The decimal digits of a number before `acc`, no leading zeros; `fuel` bounds their count. -/
def digitsBefore : (fuel n : Nat) → List Byte → List Byte
  | 0, _, acc => acc
  | k + 1, n, acc =>
    let acc := BitVec.ofNat 8 (48 + n % 10) :: acc
    if n < 10 then acc else digitsBefore k (n / 10) acc

/-- A number in decimal with no leading zeros (R155). -/
def decimal (n : Nat) : List Byte := digitsBefore (n + 1) n []

/-- A number in `width` decimal digits, padded with leading zeros (R155). -/
def paddedDecimal (width n : Nat) : List Byte :=
  let d := decimal n
  List.replicate (width - d.length) 48 ++ d

/-- Items separated by one space (R155). -/
def spaced (l : List (List Byte)) : List Byte := (l.intersperse [32]).flatten

/-- Tenths written as a whole number, a full stop and one digit (R155). -/
def tenthsText (m : Nat) : List Byte := decimal (m / 10) ++ [46] ++ decimal (m % 10)

/-- The two hyphens of an unmeasured pack (R155). -/
def dashes : List Byte := [45, 45]

/-- The VOLUME text: litres, rounded, written in cubic metres (R155). -/
def volumeText (volume : Nat) : List Byte :=
  let litres := (volume + 5000) / 10000
  decimal (litres / 1000) ++ [46] ++ paddedDecimal 3 (litres % 1000)

/-- The DIMENSIONS text: MIXED, or thickness x width in millimetres (R155). -/
def dimensionsText (dims : Dimensions) (p : Pack) : List Byte :=
  if p.mixedDim then [77, 73, 88, 69, 68]
  else
    let c := p.dimension.getD (0, 0)
    decimal (dims.thicknessOf c.1) ++ [120] ++ decimal (dims.widthOf c.2)

/-- The LENGTH_TALLY text (R155). -/
def tallyText (dims : Dimensions) (p : Pack) : List Byte :=
  spaced (p.tally.map (fun x => decimal (dims.lengthOf x.1) ++ [58] ++ decimal x.2))

/-- The charge records of a pack's charge set (R155). -/
def State.packCharges (s : State) (p : Pack) : List Charge := p.charges.filterMap s.charge?

/-- The CHARGES text: the charge numbers, ascending (R155). -/
def State.chargesText (s : State) (p : Pack) : List Byte :=
  spaced ((sortBy id ((s.packCharges p).map (·.number))).map decimal)

/-- A short name with its trailing spaces removed (R155). -/
def trimName (l : List Byte) : List Byte := (l.reverse.dropWhile (· = 32)).reverse

/-- A name added to a list of names, unless it is empty or already there (R155). -/
def addName (names : List (List Byte)) (n : List Byte) : List (List Byte) :=
  if n.isEmpty || names.contains n then names else names ++ [n]

/-- The SPECIES text: the short names of the species of the pack's charges, ascending by code (R155). -/
def State.speciesText (s : State) (p : Pack) : List Byte :=
  let codes := (List.range 16).filter (fun k => (s.packCharges p).any (fun c => c.species = k))
  spaced ((codes.map (fun k => trimName (s.speciesEntry k).name)).foldl addName [])

/-- The MC_MEAN text (R155). -/
def meanText (p : Pack) : List Byte :=
  match roundedMean p.mcSum p.measured with
  | none => dashes
  | some m => tenthsText m

/-- The MC_RANGE text (R155). -/
def rangeText (p : Pack) : List Byte :=
  if p.measured = 0 then dashes
  else tenthsText (p.lowest.getD 0) ++ [45] ++ tenthsText (p.highest.getD 0)

/-- The MARKS text: QUARANTINE and MIXED DIM (R155). -/
def marksText (p : Pack) : List Byte :=
  spaced ((if p.quarantine || p.quarantineMix then [[81, 85, 65, 82, 65, 78, 84, 73, 78, 69]] else []) ++
    (if p.mixedDim then [[77, 73, 88, 69, 68, 32, 68, 73, 77]] else []))

/-- The text of a placement for a pack (R155). -/
def State.fieldText (s : State) (p : Pack) (pl : Placement) : List Byte :=
  match pl.kind with
  | .text => pl.literal
  | .packNumber => paddedDecimal 6 p.number
  | .pieces => decimal p.pieces
  | .volume => volumeText p.volume
  | .dimensions => dimensionsText s.tracker.dimensions p
  | .lengthTally => tallyText s.tracker.dimensions p
  | .grades => spaced (p.grades.map decimal)
  | .charges => s.chargesText p
  | .species => s.speciesText p
  | .mcMean => meanText p
  | .mcRange => rangeText p
  | .marks => marksText p

/-! ## Composition (R156, R158) -/

/-- One cell written (R156). -/
def writeCell (cells : List (List Byte)) (row col : Nat) (ch : Byte) : List (List Byte) :=
  cells.modify row (fun r => r.set col ch)

/-- A text written into a placement's window from a cursor; the flag says that characters were
dropped (R156). -/
def writeText (pl : Placement) : (text : List Byte) → (row col : Nat) → List (List Byte) → List (List Byte) × Bool
  | [], _, _, cells => (cells, false)
  | ch :: rest, row, col, cells =>
    if pl.rowEnd < row then (cells, true)
    else if col = pl.colEnd then writeText pl rest (row + 1) pl.colStart (writeCell cells row col ch)
    else writeText pl rest row (col + 1) (writeCell cells row col ch)

/-- The placements of a template written in order into a frame of spaces; the flag says that some
characters were dropped (R156). -/
def State.layout (s : State) (p : Pack) (l : List Placement) : List (List Byte) × Bool :=
  l.foldl
    (fun acc pl =>
      let r := writeText pl (s.fieldText p pl) pl.rowStart pl.colStart acc.1
      (r.1, acc.2 || r.2))
    (Frame.blank, false)

/-- The placements of a template in use (R152). -/
def Labels.templateOf (l : Labels) (n : Nat) : List Placement := (l.templates[n]?).getD []

/-- The frame a composition writes: frame 0 when it is FREE, else frame 1 when it is (R158). -/
def Labels.freeFrame (l : Labels) : Option Nat :=
  if l.frame0.state = .free then some 0 else if l.frame1.state = .free then some 1 else none

/-- The composition of a pack's label into a FREE frame (R156). -/
def State.compose (s : State) (slot : Nat) (p : Pack) (f : Nat) : State :=
  let r := s.layout p (s.labels.templateOf p.template)
  let s := s.modifyPack slot (fun p => { p with state := .labelReady, truncated := r.2 })
  let l := s.labels.setFrame f ⟨.ready, some slot, r.1⟩
  { s with labels := { l with ready := l.ready ++ [f], queue := l.queue.drop 1 } }

/-- A composition is taken when a frame is FREE and the label queue is not empty (R158). -/
def State.composition (s : State) : State :=
  match s.labels.freeFrame, s.labels.queue with
  | some f, slot :: _ =>
    match s.pack? slot with
    | some p => s.compose slot p f
    | none => s
  | _, _ => s

/-! ## The label port (R160 to R162, R185) -/

/-- A leading edge on LBL_START: in IDLE or DONE the first READY frame becomes PRINTING (R160). -/
def State.startPass (s : State) : State :=
  match s.labels.port, s.labels.ready with
  | .idle, f :: rest | .done, f :: rest =>
    let fr := s.labels.frame f
    let s := match fr.pack with
      | some slot => s.modifyPack slot (fun p => { p with state := .printing })
      | none => s
    let l := s.labels.setFrame f { fr with state := .printing }
    { s with labels := { l with ready := rest, port := .printing, cursor := 0, bitCount := 0,
                                passTimeout := some l.timeout } }
  | _, _ => s

/-- `clocks` rising edges of LBL_CLK: the bit count goes up and returns to 0 at each 320th, where a
row is complete; in PRINTING each complete row raises the cursor, which stays at 12 (R161, R185).
Outside PRINTING the bit count moves too. DEDUCED, assumption 11. -/
def State.clockRows (s : State) (clocks : Nat) : State :=
  let l := s.labels
  let total := l.bitCount + clocks
  let rows := total / 320
  let cursor := if l.port = .printing then min 12 (l.cursor + rows) else l.cursor
  let last : Labels := { l with cursor := if l.port = .printing then l.cursor + (rows - 1) else l.cursor }
  { s with labels := { l with
      bitCount := total % 320
      cursor := cursor
      servedRow := if rows = 0 then l.servedRow else last.servingRow } }

/-- The end of a pass: the PRINTING frame becomes FREE and the pass timeout absent (R162). -/
def Labels.endPass (l : Labels) (port : LabelPortState) : Labels :=
  let l := match l.printingFrame with
    | some f => l.setFrame f (l.frame f).freed
    | none => l
  { l with port := port, passTimeout := none, bitCount := 0 }

/-- The pack slot of the PRINTING frame (R162). -/
def Labels.printingPack (l : Labels) : Option Nat := l.printingFrame.bind (fun f => (l.frame f).pack)

/-- LBL_END: in PRINTING the pass ends and its pack is LABELLED (R162). -/
def State.endPass (s : State) : State :=
  if s.labels.port = .printing then
    let slot := s.labels.printingPack
    let s : State := { s with labels := s.labels.endPass .done }
    match slot with
    | some i => s.modifyPack i (fun p => { p with state := .labelled })
    | none => s
  else s

/-- The expiry of the pass timeout: in PRINTING the pass ends in FAULT, its pack returns to the head of
the label queue and LABEL is raised with its number (R162). -/
def State.expirePass (s : State) : State :=
  if s.labels.port = .printing then
    let slot := s.labels.printingPack
    let s : State := { s with labels := s.labels.endPass .fault }
    match slot with
    | some i =>
      match s.pack? i with
      | some p => (s.queueHead i).raise .label (.pack p.number)
      | none => s
    | none => s
  else s

/-! ## Requests (R152 to R154, R163 to R165) -/

/-- The answer payload of a TEMPLATE_LOAD part (R152, R153). -/
def templateAnswer (index expected : Nat) : List Byte := bytes 1 index ++ bytes 1 expected

/-- The header part of TEMPLATE_LOAD (R152). -/
def templateHeader (p : List Byte) (s : State) : Reply :=
  if p.length ≠ 3 then .refuse .badLength
  else
    let index := field p 1 1
    let count := field p 2 1
    if 3 < index ∨ count = 0 ∨ 16 < count then .refuse .badField
    else .ok (templateAnswer index count) { s with labels := { s.labels with load := some ⟨index, count, []⟩ } }

/-- The placement of a placement part, none when a field lies outside its range (R153). -/
def readPlacement (p : List Byte) : Option Placement :=
  match FieldKind.ofCode (field p 3 1) with
  | none => none
  | some k =>
    let pl : Placement := ⟨k, field p 4 1, field p 5 1, field p 6 1, field p 7 1, p.drop 9⟩
    if 39 < pl.colEnd ∨ 11 < pl.rowEnd ∨ pl.colEnd < pl.colStart ∨ pl.rowEnd < pl.rowStart ∨
        !pl.literal.all printable ∨ (k ≠ .text ∧ pl.literal ≠ []) then none
    else some pl

/-- A load with a placement appended: complete, it replaces the template's placements and the load
becomes none (R153). -/
def Labels.appendPlacement (l : Labels) (t : TemplateLoad) (pl : Placement) : Labels :=
  let got := t.received ++ [pl]
  if got.length < t.count then { l with load := some { t with received := got } }
  else { l with templates := l.templates.set t.index got, load := none }

/-- The placement part of TEMPLATE_LOAD (R153). -/
def templatePlacement (p : List Byte) (s : State) : Reply :=
  if p.length < 9 ∨ 49 < p.length ∨ p.length ≠ 9 + field p 8 1 then .refuse .badLength
  else
    let index := field p 1 1
    if 3 < index then .refuse .badField
    else
      match readPlacement p with
      | none => .refuse .badField
      | some pl =>
        match s.labels.load with
        | none => .refuse .wrongState
        | some t =>
          if index ≠ t.index ∨ field p 2 1 ≠ t.received.length then .refuse .wrongState
          else .ok (templateAnswer index (t.count - (t.received.length + 1)))
            { s with labels := s.labels.appendPlacement t pl }

/-- TEMPLATE_LOAD: its parts are told apart by the first payload byte, and any other first byte, or
none, is refused BAD_LENGTH (R152, R153, R181). -/
def templateLoad (p : List Byte) (s : State) : Reply :=
  match p with
  | [] => .refuse .badLength
  | k :: _ => if k = 0 then templateHeader p s else if k = 1 then templatePlacement p s else .refuse .badLength

/-- A placement as the placement part carries it, from the placement index onward (R154). -/
def Placement.bytes (i : Nat) (pl : Placement) : List Byte :=
  Machine.bytes 1 i ++ Machine.bytes 1 pl.kind.code ++ Machine.bytes 1 pl.colStart ++
    Machine.bytes 1 pl.colEnd ++ Machine.bytes 1 pl.rowStart ++ Machine.bytes 1 pl.rowEnd ++
    Machine.bytes 1 pl.literal.length ++ pl.literal

/-- Placements with their indexes, as TEMPLATE_READ reports them (R154). -/
def placementBytes : (i : Nat) → List Placement → List Byte
  | _, [] => []
  | i, pl :: l => pl.bytes i ++ placementBytes (i + 1) l

/-- TEMPLATE_READ (R154). -/
def templateRead (p : List Byte) (s : State) : Reply :=
  if p.length ≠ 2 then .refuse .badLength
  else
    let index := field p 0 1
    let start := field p 1 1
    if 3 < index ∨ 15 < start then .refuse .badField
    else
      let l := s.labels.templateOf index
      let shown := (l.drop start).take 4
      .ok (bytes 1 index ++ bytes 1 l.length ++ bytes 1 start ++ bytes 1 shown.length ++
        placementBytes start shown) s

/-- LABEL_REPRINT (R164). -/
def labelReprint (p : List Byte) (s : State) : Reply :=
  onPack p s (fun slot pk =>
    if pk.state ≠ .labelled then .refuse .wrongState
    else .ok (bytes 1 s.labels.queue.length) (s.queueTail slot))

/-- LABEL_READ (R165). -/
def labelRead (p : List Byte) (s : State) : Reply :=
  if p.length ≠ 2 then .refuse .badLength
  else
    let n := field p 0 1
    let start := field p 1 1
    if 1 < n ∨ 11 < start then .refuse .badField
    else
      let f := s.labels.frame n
      let shown := (f.cells.drop start).take 6
      .ok (bytes 1 n ++ bytes 1 f.state.code ++ optBytes 3 0 ((f.pack.bind s.pack?).map (·.number)) ++
        bytes 1 s.labels.port.code ++ bytes 1 s.labels.timeout ++ bytes 1 s.labels.queue.length ++
        bytes 1 start ++ bytes 1 shown.length ++ shown.flatten) s

/-- LABEL_PORT_SET (R163). -/
def labelPortSet (p : List Byte) (s : State) : Reply :=
  if p.length ≠ 1 then .refuse .badLength
  else
    let t := field p 0 1
    if t < 1 ∨ 60 < t then .refuse .badField
    else .ok [] { s with labels := { s.labels with timeout := t } }

/-- LABEL_PORT_CLEAR (R163, R185). -/
def labelPortClear (p : List Byte) (s : State) : Reply :=
  if p.length ≠ 0 then .refuse .badLength
  else if s.labels.port = .printing then .refuse .busy
  else .ok (bytes 1 s.labels.port.code) { s with labels := { s.labels with port := .idle, bitCount := 0 } }

/-- TEMPLATE_LOAD, header part, over the link. -/
def execTemplateLoadHeader (declared : Byte) (bs : List Byte) (s : State) : Host.Outcome State Fault Refusal :=
  .next (s.request 144 templateLoad declared bs)

/-- TEMPLATE_LOAD, placement part, over the link. -/
def execTemplateLoadPlacement (declared : Byte) (bs : List Byte) (s : State) : Host.Outcome State Fault Refusal :=
  .next (s.request 144 templateLoad declared bs)

/-- TEMPLATE_READ over the link. -/
def execTemplateRead (declared : Byte) (bs : List Byte) (s : State) : Host.Outcome State Fault Refusal :=
  .next (s.request 145 templateRead declared bs)

/-- LABEL_REPRINT over the link. -/
def execLabelReprint (declared : Byte) (bs : List Byte) (s : State) : Host.Outcome State Fault Refusal :=
  .next (s.request 146 labelReprint declared bs)

/-- LABEL_READ over the link. -/
def execLabelRead (declared : Byte) (bs : List Byte) (s : State) : Host.Outcome State Fault Refusal :=
  .next (s.request 147 labelRead declared bs)

/-- LABEL_PORT_SET over the link. -/
def execLabelPortSet (declared : Byte) (bs : List Byte) (s : State) : Host.Outcome State Fault Refusal :=
  .next (s.request 148 labelPortSet declared bs)

/-- LABEL_PORT_CLEAR over the link. -/
def execLabelPortClear (declared : Byte) (bs : List Byte) (s : State) : Host.Outcome State Fault Refusal :=
  .next (s.request 149 labelPortClear declared bs)

/-! ## Events -/

/-- COMPOSITION (R156, R158). -/
def execComposition (s : State) : Host.Outcome State Fault Refusal :=
  .next (s.fieldEvent State.composition)

/-- LBL_START (R160). -/
def execLblStart (s : State) : Host.Outcome State Fault Refusal :=
  .next (s.fieldEvent State.startPass)

/-- ROW_READ (R161, R185). -/
def execRowRead (clocks : Nat) (s : State) : Host.Outcome State Fault Refusal :=
  .next (s.fieldEvent (fun s => s.clockRows clocks))

/-- LBL_END (R162). -/
def execLblEnd (s : State) : Host.Outcome State Fault Refusal :=
  .next (s.fieldEvent State.endPass)

/-- PASS_TIMEOUT_EXPIRY (R162). -/
def execPassTimeoutExpiry (s : State) : Host.Outcome State Fault Refusal :=
  .next (s.fieldEvent State.expirePass)

end Sys2Proof.Machine
end

