-- ==== Sys2Proof/Machine/Attention.lean ====
section
/-! DEFINITION. The requests on the Attention Unit (R169 to R171). Occurrences are taken by
State.raise in Machine/Ops.lean, and ATTN_N is State.attnLow in Machine/Flags.lean. -/

namespace Sys2Proof.Machine

/-- A class in an answer: more and the three object bytes (R169, R170). -/
def AttnRecord.report (r : AttnRecord) : List Byte :=
  if r.pending then flagByte r.more ++ objectBytes r.first else [0, 0, 0, 0]

/-- The 35-byte payload of ATTN_READ (R169). -/
def State.attnReport (s : State) : List Byte :=
  bytes 1 (s.attention.sumWhere (·.pending)) ++ bytes 1 (s.attention.sumWhere (·.mask)) ++
    flagByte s.attnLow ++ AttnClass.all.flatMap (fun c => (s.attention.get c).report)

/-- ATTN_READ (R169). -/
def attnRead (p : List Byte) (s : State) : Reply :=
  if p.length ≠ 0 then .refuse .badLength else .ok s.attnReport s

/-- A class record cleared: pending and more clear, no first object, its mask kept (R170). -/
def AttnRecord.cleared (r : AttnRecord) : AttnRecord := ⟨false, none, false, r.mask⟩

/-- The classes of a named set that are pending, in code order (R170). -/
def Attention.toClear (a : Attention) (set : Nat) : List AttnClass :=
  AttnClass.all.filter (fun c => hasCode set c.code && (a.get c).pending)

/-- ATTN_ACK (R170). -/
def attnAck (p : List Byte) (s : State) : Reply :=
  if p.length ≠ 1 then .refuse .badLength
  else
    let l := s.attention.toClear (field p 0 1)
    .ok (bytes 1 (l.foldl (fun acc c => acc + c.code) 0) ++ l.flatMap (fun c => (s.attention.get c).report))
      { s with attention := l.foldl (fun a c => a.set c (a.get c).cleared) s.attention }

/-- A class record with its mask set, cleared or kept (R171). -/
def AttnRecord.masked (r : AttnRecord) (set clear : Bool) : AttnRecord :=
  { r with mask := if set then true else if clear then false else r.mask }

/-- Every class's mask set, cleared or kept, as the two sets of ATTN_MASK name it (R171). -/
def Attention.remask (a : Attention) (set clear : Nat) : Attention :=
  AttnClass.all.foldl
    (fun a c => a.set c ((a.get c).masked (hasCode set c.code) (hasCode clear c.code))) a

/-- ATTN_MASK (R171). -/
def attnMask (p : List Byte) (s : State) : Reply :=
  if p.length ≠ 2 then .refuse .badLength
  else
    let set := field p 0 1
    let clear := field p 1 1
    if AttnClass.all.any (fun c => hasCode set c.code && hasCode clear c.code) then .refuse .badField
    else
      let a := s.attention.remask set clear
      .ok (bytes 1 (a.sumWhere (·.mask))) { s with attention := a }

/-- ATTN_READ over the link. -/
def execAttnRead (declared : Byte) (bs : List Byte) (s : State) : Host.Outcome State Fault Refusal :=
  .next (s.request 160 attnRead declared bs)

/-- ATTN_ACK over the link. -/
def execAttnAck (declared : Byte) (bs : List Byte) (s : State) : Host.Outcome State Fault Refusal :=
  .next (s.request 161 attnAck declared bs)

/-- ATTN_MASK over the link. -/
def execAttnMask (declared : Byte) (bs : List Byte) (s : State) : Host.Outcome State Fault Refusal :=
  .next (s.request 162 attnMask declared bs)

end Sys2Proof.Machine
end

