-- ==== Sys2Proof/Machine/Link.lean ====
section
/-! DEFINITION. Power-on and RESET_N, and the Link Interface's own transfers and requests (R173 to
R180). -/

namespace Sys2Proof.Machine

/-- POWER_ON: every record takes its power-on value; the waiting commands stay, DESIGN CHOICE, assumption 5 (R1, R21, R40, R56,
R79, R93, R114, R131, R151, R166, R173). Taken while RESET_N is asserted it leaves the line released and the
round timer started, which the spec leaves open: DESIGN CHOICE, assumption 5. -/
def execPowerOn (s : State) : Host.Outcome State Fault Refusal :=
  .next { State.reset with pending := s.pending }

/-- The part while RESET_N is asserted: every record at its power-on value, the round timer stopped
(R79, R92, R178). -/
def State.inReset : State :=
  { State.reset with resetAsserted := true, port := { Port.reset with roundTimer := none } }

/-- RESET_N_ASSERT: whatever is in progress ends and every record takes its power-on value (R178, R92,
R93, R151). -/
def execResetNAssert (s : State) : Host.Outcome State Fault Refusal :=
  .next { State.inReset with pending := s.pending }

/-- RESET_N_RELEASE: the round timer starts with the period in force (R79, R92). With LINK_SEL_N low
the transfer in progress is not taken (R178), which the transfer state DISCARDING stands for.
DEDUCED, assumption 8. -/
def execResetNRelease (selLow : Bool) (s : State) : Host.Outcome State Fault Refusal :=
  .next (if s.resetAsserted then
      { s with
        resetAsserted := false
        link := { s.link with transfer := if selLow then .discarding else .idle }
        port := { s.port with roundTimer := some s.port.inForce.period } }
    else s)

/-- The bytes an answer transfer drives from its second byte on: the status, the answer length, the
payload and then 0 for each further byte (R177). -/
def Answer.stream (a : Answer) (n : Nat) : List Byte :=
  let all := bytes 1 a.status.code ++ bytes 1 a.payload.length ++ a.payload
  all.take n ++ List.replicate (n - all.length) 0

/-- READ_ANSWER: 0 during the first byte, then the answer; the buffer is left as it is (R177). -/
def execReadAnswer (mosi : List Byte) (s : State) : Host.Outcome State Fault Refusal :=
  .next (if !s.linkReady then s.skipTransfer (1 + mosi.length)
    else { s with link := { s.link with
      assembly := [], count := 0, miso := 0 :: s.link.answer.stream mosi.length } })

/-- BROKEN_REQUEST_TRANSFER: the partial request is discarded and the answer buffer set to NO_ANSWER
(R175). -/
def execBrokenRequestTransfer (received : List Byte) (s : State) : Host.Outcome State Fault Refusal :=
  .next (if !s.linkReady then s.skipTransfer received.length else s.broken received.length)

/-- EMPTY_TRANSFER: the assembly buffer is emptied at the fall of LINK_SEL_N (R173) and the answer
buffer left as it was (R175). -/
def execEmptyTransfer (s : State) : Host.Outcome State Fault Refusal :=
  .next (if !s.linkReady then s.skipTransfer 0
    else { s with link := { s.link with assembly := [], count := 0, miso := [] } })

/-- A request whose code names no request is answered UNKNOWN_REQUEST, whatever its length (R174,
R176). -/
def execUnknownRequest (code declared : Byte) (bs : List Byte) (s : State) : Host.Outcome State Fault Refusal :=
  .next (if s.linkReady && decide (Config.maxPayload < declared.toNat) then
      s.answered [code, declared] (2 + bs.length) ⟨.unknownRequest, []⟩
    else s.request code (fun _ _ => .refuse .unknownRequest) declared bs)

/-- The 24 bytes of PART_IDENT (R180). -/
def identity : List Byte :=
  bytes 2 2306 ++ bytes 2 640 ++ bytes 1 1 ++ bytes 1 Config.chambers ++ bytes 1 Config.scheduleSlots ++
    bytes 1 16 ++ bytes 1 8 ++ bytes 1 Config.speciesEntries ++ bytes 1 Config.chargeSlots ++
    bytes 1 Config.transitPlaces ++ bytes 1 Config.bins ++ bytes 1 2 ++ bytes 1 48 ++
    bytes 1 Config.packSlots ++ bytes 1 Config.templates ++ bytes 1 16 ++ bytes 1 2 ++
    bytes 1 Config.frameColumns ++ bytes 1 Config.frameRows ++ bytes 1 48 ++ bytes 1 8 ++
    bytes 1 Config.maxPayload

/-- PART_IDENT (R180). -/
def partIdent (p : List Byte) (s : State) : Reply :=
  if p.length ≠ 0 then .refuse .badLength else .ok identity s

/-- PART_IDENT over the link. -/
def execPartIdent (declared : Byte) (bs : List Byte) (s : State) : Host.Outcome State Fault Refusal :=
  .next (s.request 1 partIdent declared bs)

end Sys2Proof.Machine
end

