-- ==== Sys2Proof/Machine/Dispatch.lean ====
section
/-! DEFINITION. The dispatch of a command to its meaning, one arm for each row of the table. -/

namespace Sys2Proof.Machine

-- A command's effect on everything but the queue.
def exec (i : Instr) (s : State) : Host.Outcome State Fault Refusal :=
  match i with
  | .powerOn => Sys2Proof.Machine.execPowerOn s
  | .resetNAssert => Sys2Proof.Machine.execResetNAssert s
  | .resetNRelease selLow => Sys2Proof.Machine.execResetNRelease selLow s
  | .readAnswer mosi => Sys2Proof.Machine.execReadAnswer mosi s
  | .brokenRequestTransfer received => Sys2Proof.Machine.execBrokenRequestTransfer received s
  | .emptyTransfer => Sys2Proof.Machine.execEmptyTransfer s
  | .unknownRequest code declared bs => Sys2Proof.Machine.execUnknownRequest code declared bs s
  | .partIdent declared bs => Sys2Proof.Machine.execPartIdent declared bs s
  | .chargeCreate declared bs => Sys2Proof.Machine.execChargeCreate declared bs s
  | .chargeRead declared bs => Sys2Proof.Machine.execChargeRead declared bs s
  | .chargeList declared bs => Sys2Proof.Machine.execChargeList declared bs s
  | .chargeLimits declared bs => Sys2Proof.Machine.execChargeLimits declared bs s
  | .chargeRelease declared bs => Sys2Proof.Machine.execChargeRelease declared bs s
  | .chargeFeedEnd declared bs => Sys2Proof.Machine.execChargeFeedEnd declared bs s
  | .chargeRetire declared bs => Sys2Proof.Machine.execChargeRetire declared bs s
  | .speciesSet declared bs => Sys2Proof.Machine.execSpeciesSet declared bs s
  | .speciesRead declared bs => Sys2Proof.Machine.execSpeciesRead declared bs s
  | .mcTest declared bs => Sys2Proof.Machine.execMcTest declared bs s
  | .schedDefine declared bs => Sys2Proof.Machine.execSchedDefine declared bs s
  | .schedAmend declared bs => Sys2Proof.Machine.execSchedAmend declared bs s
  | .schedRead declared bs => Sys2Proof.Machine.execSchedRead declared bs s
  | .schedDelete declared bs => Sys2Proof.Machine.execSchedDelete declared bs s
  | .chamberLoad declared bs => Sys2Proof.Machine.execChamberLoad declared bs s
  | .chamberStart declared bs => Sys2Proof.Machine.execChamberStart declared bs s
  | .chamberHold declared bs => Sys2Proof.Machine.execChamberHold declared bs s
  | .chamberResume declared bs => Sys2Proof.Machine.execChamberResume declared bs s
  | .chamberSkip declared bs => Sys2Proof.Machine.execChamberSkip declared bs s
  | .chamberReload declared bs => Sys2Proof.Machine.execChamberReload declared bs s
  | .chamberAbort declared bs => Sys2Proof.Machine.execChamberAbort declared bs s
  | .chamberUnload declared bs => Sys2Proof.Machine.execChamberUnload declared bs s
  | .chamberRead declared bs => Sys2Proof.Machine.execChamberRead declared bs s
  | .kilnPortSet declared bs => Sys2Proof.Machine.execKilnPortSet declared bs s
  | .kilnPortRead declared bs => Sys2Proof.Machine.execKilnPortRead declared bs s
  | .lineSet declared bs => Sys2Proof.Machine.execLineSet declared bs s
  | .dimensionSet declared bs => Sys2Proof.Machine.execDimensionSet declared bs s
  | .transitRead declared bs => Sys2Proof.Machine.execTransitRead declared bs s
  | .lineRestart declared bs => Sys2Proof.Machine.execLineRestart declared bs s
  | .planLoadHeader declared bs => Sys2Proof.Machine.execPlanLoadHeader declared bs s
  | .planLoadRules declared bs => Sys2Proof.Machine.execPlanLoadRules declared bs s
  | .planSwitch declared bs => Sys2Proof.Machine.execPlanSwitch declared bs s
  | .planRead declared bs => Sys2Proof.Machine.execPlanRead declared bs s
  | .packRead declared bs => Sys2Proof.Machine.execPackRead declared bs s
  | .packList declared bs => Sys2Proof.Machine.execPackList declared bs s
  | .packClose declared bs => Sys2Proof.Machine.execPackClose declared bs s
  | .packRelease declared bs => Sys2Proof.Machine.execPackRelease declared bs s
  | .packReject declared bs => Sys2Proof.Machine.execPackReject declared bs s
  | .packRetire declared bs => Sys2Proof.Machine.execPackRetire declared bs s
  | .packNumberSet declared bs => Sys2Proof.Machine.execPackNumberSet declared bs s
  | .templateLoadHeader declared bs => Sys2Proof.Machine.execTemplateLoadHeader declared bs s
  | .templateLoadPlacement declared bs => Sys2Proof.Machine.execTemplateLoadPlacement declared bs s
  | .templateRead declared bs => Sys2Proof.Machine.execTemplateRead declared bs s
  | .labelReprint declared bs => Sys2Proof.Machine.execLabelReprint declared bs s
  | .labelRead declared bs => Sys2Proof.Machine.execLabelRead declared bs s
  | .labelPortSet declared bs => Sys2Proof.Machine.execLabelPortSet declared bs s
  | .labelPortClear declared bs => Sys2Proof.Machine.execLabelPortClear declared bs s
  | .attnRead declared bs => Sys2Proof.Machine.execAttnRead declared bs s
  | .attnAck declared bs => Sys2Proof.Machine.execAttnAck declared bs s
  | .attnMask declared bs => Sys2Proof.Machine.execAttnMask declared bs s
  | .minuteTick => Sys2Proof.Machine.execMinuteTick s
  | .workingLimitReached chamber => Sys2Proof.Machine.execWorkingLimitReached chamber s
  | .roundTimerExpiry => Sys2Proof.Machine.execRoundTimerExpiry s
  | .deferredRoundStart => Sys2Proof.Machine.execDeferredRoundStart s
  | .transaction => Sys2Proof.Machine.execTransaction s
  | .setpointSent => Sys2Proof.Machine.execSetpointSent s
  | .scanReply frames => Sys2Proof.Machine.execScanReply frames s
  | .replyWindowClose frames => Sys2Proof.Machine.execReplyWindowClose frames s
  | .encPulse => Sys2Proof.Machine.execEncPulse s
  | .edge => Sys2Proof.Machine.execEdge s
  | .expiry => Sys2Proof.Machine.execExpiry s
  | .boardMessage frames => Sys2Proof.Machine.execBoardMessage frames s
  | .openEvent sequence => Sys2Proof.Machine.execOpenEvent sequence s
  | .closeEvent sequence => Sys2Proof.Machine.execCloseEvent sequence s
  | .composition => Sys2Proof.Machine.execComposition s
  | .lblStart => Sys2Proof.Machine.execLblStart s
  | .rowRead clocks => Sys2Proof.Machine.execRowRead clocks s
  | .lblEnd => Sys2Proof.Machine.execLblEnd s
  | .passTimeoutExpiry => Sys2Proof.Machine.execPassTimeoutExpiry s
  | .startCharacter => Sys2Proof.Machine.execStartCharacter s

end Sys2Proof.Machine
end

