-- ==== Sys2Proof/Safety.lean ====
section
/-! DEFINITION. What a safe part looks like: the relations between its records that the specification
says always hold, and the words in which the obligations speak of a request and its answer. -/

namespace Sys2Proof.Machine

/-! ## A request and its answer -/

/-- The records of `t` with the Link Interface as a request transfer leaves it: the payload `p` stored,
`pad` bytes of padding ignored, the answer in the answer buffer and 0 driven on LINK_MISO for every byte
(R173, R174, R176). -/
def State.afterRequest (t : State) (code : Byte) (p pad : List Byte) (st : Status) (payload : List Byte) :
    State :=
  { t with link :=
    { transfer := .idle
      assembly := code :: BitVec.ofNat 8 p.length :: p
      count := 2 + (p.length + pad.length)
      answer := ⟨st, payload⟩
      miso := List.replicate (2 + (p.length + pad.length)) 0 } }

/-- Sent with the payload `p` and any padding, the request is executed: its answer is `st` with the
payload `answer`, and the records become those of `t`. -/
def Answers (request : Byte → List Byte → Instr) (code : Byte) (p : List Byte) (s : State) (st : Status)
    (answer : List Byte) (t : State) : Prop :=
  ∀ pad, exec (request (BitVec.ofNat 8 p.length) (p ++ pad)) s =
    .next (t.afterRequest code p pad st answer)

/-- The request is refused with `st`: no record changes and the answer payload is empty (R179). -/
def Refused (request : Byte → List Byte → Instr) (code : Byte) (p : List Byte) (s : State) (st : Status) :
    Prop :=
  Answers request code p s st [] s

/-- `t` is the state after the commands `l`, executed one after the other from `s`. -/
def Runs (s : State) (l : List Instr) (t : State) : Prop :=
  match l with
  | [] => t = s
  | c :: l => ∃ u, exec c s = .next u ∧ Runs u l t

/-- A request that reports and changes nothing. -/
def isReport : Instr → Bool
  | .partIdent _ _ | .chargeRead _ _ | .chargeList _ _ | .speciesRead _ _ | .mcTest _ _ | .schedRead _ _
  | .chamberRead _ _ | .kilnPortRead _ _ | .transitRead _ _ | .planRead _ _ | .packRead _ _
  | .packList _ _ | .templateRead _ _ | .labelRead _ _ | .attnRead _ _ => true
  | _ => false

/-- `i` is the lowest-numbered free slot of a table. -/
def LowestFree {α : Type} (l : List (Option α)) (i : Nat) : Prop :=
  l[i]? = some none ∧ ∀ j < i, ∃ a, l[j]? = some (some a)

/-- The state with a charge slot holding the record `c`. -/
def State.withCharge (s : State) (slot : Nat) (c : Charge) : State :=
  { s with charges := s.charges.set slot (some c) }

/-- The state with a pack slot holding the record `p`. -/
def State.withPack (s : State) (slot : Nat) (p : Pack) : State :=
  { s with packs := { s.packs with records := s.packs.records.set slot (some p) } }

/-- The only live charge of a number (R2). -/
def State.OnlyCharge (s : State) (number slot : Nat) (c : Charge) : Prop :=
  s.charge? slot = some c ∧ c.number = number ∧
    ∀ j d, s.charge? j = some d → d.number = number → j = slot

/-- No live charge has the number (R2). -/
def State.NoCharge (s : State) (number : Nat) : Prop :=
  ∀ j d, s.charge? j = some d → d.number ≠ number

/-- The only live pack of a number (R133). -/
def State.OnlyPack (s : State) (number slot : Nat) (p : Pack) : Prop :=
  s.pack? slot = some p ∧ p.number = number ∧
    ∀ j q, s.pack? j = some q → q.number = number → j = slot

/-- No live pack has the number (R133). -/
def State.NoPack (s : State) (number : Nat) : Prop :=
  ∀ j q, s.pack? j = some q → q.number ≠ number

/-- Nothing that happens at once is outstanding: no second action of a minute tick and no deferred
round start (R64, R81; assumption 2). -/
def State.Settled (s : State) : Prop :=
  (∀ c ∈ s.chambers, c.limitDue = false) ∧ ¬(s.port.round = .idle ∧ s.port.startPending = true)

/-! ## Charges (R1, R35) -/

/-- The live charges in slot order. -/
def State.liveCharges (s : State) : List Charge := s.charges.filterMap id

/-- The relations of the counts of a charge (R35). -/
def Charge.CountsOk (c : Charge) : Prop :=
  c.wetCount + c.overdry ≤ c.measured ∧ c.measured + c.unmeasured = c.seen ∧
    c.winMeasured ≤ c.measured ∧ c.winWet ≤ c.wetCount ∧
    c.seen ≤ Config.max24 ∧ c.mcSum ≤ c.measured * 600

/-- The Charge Table: 64 slots, counts that agree, numbers that differ (R1, R2, R35). -/
def ChargesOk (s : State) : Prop :=
  s.charges.length = Config.chargeSlots ∧
    (∀ c ∈ s.liveCharges, c.CountsOk ∧ 1 ≤ c.number ∧ c.number ≤ 65535) ∧
    (s.liveCharges.map (·.number)).Nodup

/-! ## The transit queue (R93, R97) -/

/-- The transit queue: at most 32 entries, no two with one edge sequence, every field in range (R97). -/
def QueueOk (s : State) : Prop :=
  s.tracker.queue.length ≤ Config.transitPlaces ∧ (s.tracker.queue.map (·.sequence)).Nodup ∧
    (∀ e ∈ s.tracker.queue, e.sequence < 256 ∧ e.capture < Config.chainModulus) ∧
    s.tracker.position < Config.chainModulus ∧ s.tracker.edgeSequence < 256

/-- The counts that the chain has moved since it was at the position `p`, modulo 2^24 (R94). -/
def State.movedSince (s : State) (p : Nat) : Nat :=
  (s.tracker.position + Config.chainModulus - p % Config.chainModulus) % Config.chainModulus

/-- How far beyond the capture position of an entry a position lies, modulo 2^24 (R94). -/
def Entry.ahead (e : Entry) (p : Nat) : Nat :=
  (p + Config.chainModulus - e.capture % Config.chainModulus) % Config.chainModulus

/-- The line geometry is that of power-on or keeps the conditions under which LINE_SET takes it (R93,
R110). -/
def Geometry.Ok (g : Geometry) : Prop :=
  g.pairing ≤ 65535 ∧ g.offsets.length = Config.bins ∧ (∀ o ∈ g.offsets, o ≤ 65535) ∧ g.lead ≤ 255 ∧
    g.trail ≤ 255 ∧ g.scale ≤ 255 ∧
    ((∀ o ∈ g.offsets, g.pairing + g.lead < o) ∨ g = ⟨0, List.replicate Config.bins 0, 0, 0, 0⟩)

/-- The transit queue stands in the order of the edges: an entry behind another was captured no earlier.
No entry has been carried beyond its expiry position while it waits for data, or beyond its close
position after its decision, and its gate opens no later than it closes (R95, R97, R101, R105, R106,
R110). -/
def TransitOk (s : State) : Prop :=
  s.tracker.geometry.Ok ∧ (∀ x ∈ s.tracker.dimensions.length, x ≤ 80) ∧
    s.tracker.queue.Pairwise (fun a b => s.movedSince b.capture ≤ s.movedSince a.capture) ∧
    (∀ e ∈ s.tracker.queue, e.decision = none → s.movedSince e.capture ≤ s.tracker.geometry.pairing) ∧
    ∀ e ∈ s.tracker.queue, ∀ d ∈ e.decision.toList,
      d.openPos < Config.chainModulus ∧ d.closePos < Config.chainModulus ∧
        s.movedSince e.capture ≤ e.ahead d.closePos ∧ e.ahead d.openPos ≤ e.ahead d.closePos ∧
        e.ahead d.closePos < Config.chainHalf

/-- Every entry behind one in AWAITING_DATA is in AWAITING_DATA (R97). -/
def AwaitingAtTail (s : State) : Prop :=
  s.tracker.queue.Pairwise (fun a b => a.decision = none → b.decision = none)

/-- The entries in AWAITING_DATA. -/
def State.waiting (s : State) : List Entry := s.tracker.queue.filter (fun e => e.decision.isNone)

/-- The edge sequences of the entries in AWAITING_DATA rise from that of the oldest, counting upward
modulo 256: fewer than 256 edges lie between the oldest and the newest of them (R99; assumption 18). -/
def WaitingSequencesRise (s : State) : Prop :=
  ∀ e ∈ s.waiting.head?.toList, s.waiting.Pairwise (fun a b =>
    (a.sequence + 256 - e.sequence) % 256 < (b.sequence + 256 - e.sequence) % 256)

/-- From `s` to `t` the transit queue has kept the order of its edges: entries have left it from any
place, and at most one, of the next edge, has joined it at the tail (R97). -/
def QueueOrderKept (s t : State) : Prop :=
  ∃ kept new : List (Nat × Nat),
    t.tracker.queue.map (fun e => (e.sequence, e.capture)) = kept ++ new ∧
      kept.Sublist (s.tracker.queue.map (fun e => (e.sequence, e.capture))) ∧
      (new = [] ∨ new = [((s.tracker.edgeSequence + 1) % 256, s.tracker.position)])

/-- How many transit entries have a decision that satisfies `q`. -/
def State.decidedCount (s : State) (q : Decision → Bool) : Nat :=
  s.tracker.queue.countP (fun e => e.decision.any q)

/-! ## The Sorter (R114, R120, R121, R124, R127) -/

/-- The plan keeps the conditions under which PLAN_LOAD takes it; no rule sends boards to a quarantine bin
that builds packs (R115, R118, R120, R121). -/
def Plan.Ok (p : Plan) : Prop :=
  p.headerOk = true ∧ p.templates.length = Config.bins ∧ p.targets.length = Config.bins ∧
    (∀ b ∈ p.building, b < Config.bins) ∧ p.rules.length ≤ p.ruleCount ∧
    ∀ r ∈ p.rules, r.bin < Config.bins ∧ (p.quarantine ≠ p.reject → r.bin ≠ p.quarantine)

/-- A plan slot: only a whole plan decides boards, a SHADOW slot has none in transit, and a DRAINING
slot has some (R114, R124). -/
def PlanSlot.Ok (p : PlanSlot) : Prop :=
  (∀ pl ∈ p.plan.toList, pl.Ok) ∧ (p.role ≠ .shadow → p.fill = .loaded) ∧
    (p.role = .shadow → p.decided = 0) ∧ (p.role = .draining → 0 < p.decided)

/-- The Sorter agrees with the transit queue: one slot is ACTIVE, each slot's entries-decided count is
the number of entries decided under it (R124), and each gate open count the number of entries whose
gate is open at that bin (R127). -/
def SorterOk (s : State) : Prop :=
  (s.sorter.slot0.role = .active ↔ s.sorter.slot1.role ≠ .active) ∧
    s.sorter.slot0.Ok ∧ s.sorter.slot1.Ok ∧
    s.sorter.slot0.decided = s.decidedCount (fun d => d.planSlot = 0) ∧
    s.sorter.slot1.decided = s.decidedCount (fun d => d.planSlot = 1) ∧
    s.sorter.gates.length = Config.bins ∧
    (∀ g < Config.bins,
      (s.sorter.gates[g]?).getD 0 = s.decidedCount (fun d => d.gateOpen && d.bin = g)) ∧
    ∀ e ∈ s.tracker.queue, ∀ d ∈ e.decision.toList, d.bin < Config.bins ∧ d.planSlot < 2

/-! ## The kiln side (R1, R40, R41, R50, R55, R57, R62) -/

/-- The fields of a step lie within their ranges (R41). -/
def Step.Ok (t : Step) : Prop :=
  200 ≤ t.dryTarget ∧ t.dryTarget ≤ 1300 ∧ t.depression ≤ 400 ∧ t.ramp ≤ 100 ∧ t.threshold ≤ 600 ∧
    1 ≤ t.duration ∧ t.duration ≤ 65535

/-- The fields of a chamber in progress lie within their ranges (R55, R62). -/
def Run.Ok (r : Run) : Prop :=
  r.step.Ok ∧ 200 ≤ r.dry ∧ r.dry ≤ 1300 ∧ r.wet ≤ r.dry ∧ r.elapsed ≤ Config.max24 ∧
    1 ≤ r.limit ∧ r.limit ≤ Config.max24

/-- A result of a probe: without an MC exactly when it is UNMEASURED (R32, R55). -/
def ProbeResult.Ok (r : ProbeResult) : Prop :=
  (r.mark = .unmeasured ↔ r.mc = none) ∧ ∀ m ∈ r.mc.toList, m ≤ 600

/-- The last scan of a chamber lies within its ranges, with the wet-bulb actual at or below the dry-bulb
actual and one result for each probe it counts; without a scan there is no result and no estimate (R55,
R60). -/
def Chamber.ScanOk (c : Chamber) : Prop :=
  (c.lastScan = none → c.probes = [] ∧ c.estMean = none ∧ c.estWettest = none) ∧
    (∀ q ∈ c.lastScan.toList, -400 ≤ q.wet ∧ q.wet ≤ q.dry ∧ q.dry ≤ 1500 ∧ q.count ≤ 8 ∧
      c.probes.length = q.count) ∧
    (∀ r ∈ c.probes, r.Ok) ∧
    (∀ m ∈ c.estMean.toList, m ≤ 600) ∧ (∀ m ∈ c.estWettest.toList, m ≤ 600) ∧
    (c.estMean.isSome = true ↔ ∃ r ∈ c.probes, r.mark = .none) ∧
    (c.estWettest.isSome = true ↔ ∃ r ∈ c.probes, r.mark = .none)

/-- The last scan of every chamber is in order (R55, R60). -/
def ScansOk (s : State) : Prop := ∀ c ∈ s.chambers, c.ScanOk

/-- A chamber record: an EMPTY one holds nothing, any other names its charge and its schedule, and a
chamber in progress is RUNNING exactly when no hold cause is present (R55, R56, R57). -/
def Chamber.Ok (c : Chamber) : Prop :=
  (c.state = .empty → c = .reset) ∧
    (c.state ≠ .empty → c.chargeSlot.isSome = true ∧ c.schedule.isSome = true) ∧
    (c.state = .running → c.run.isSome = true ∧ c.causes.isEmpty = true) ∧
    (c.state = .hold → c.run.isSome = true ∧ c.causes.isEmpty = false) ∧
    (c.state = .complete → c.run.isSome = true) ∧
    (c.state = .loaded → c.run = none) ∧
    (c.state = .loaded ∨ c.state = .complete ∨ c.state = .aborted →
      c.causes.request = false ∧ c.causes.stepLimit = false) ∧
    ∀ r ∈ c.run.toList, r.Ok

/-- A defined schedule: 1 to 16 steps in range, and the reference count is the number of chambers that
name it (R40, R41, R50). -/
def ScheduleOk (s : State) (n : Nat) (sc : Schedule) : Prop :=
  1 ≤ sc.steps.length ∧ sc.steps.length ≤ 16 ∧ (∀ t ∈ sc.steps, t.Ok) ∧ sc.revision ≤ Config.max16 ∧
    sc.refCount = s.chambers.countP (fun c => c.schedule = some n)

/-- A chamber's schedule is defined and its step index names one of its steps (R50). -/
def ChamberSchedule (s : State) (c : Chamber) : Prop :=
  ∀ n ∈ c.schedule.toList, (s.schedule? n).isSome = true ∧
    ∀ r ∈ c.run.toList, ∀ sc ∈ (s.schedule? n).toList, r.index < sc.steps.length

/-- A chamber that names a charge and that charge name each other (R1, R11, R12). -/
def ChamberCharge (s : State) (n : Nat) (c : Chamber) : Prop :=
  ∀ slot ∈ c.chargeSlot.toList,
    (s.charge? slot).any (fun ch => ch.state = .kiln ∧ ch.chamber = some n) = true

/-- A charge has a chamber exactly while it is KILN, and that chamber names it (R1, R11, R12). -/
def ChargeChamber (s : State) (slot : Nat) (ch : Charge) : Prop :=
  (ch.state ≠ .kiln → ch.chamber = none) ∧
    (ch.state = .kiln → (ch.chamber.bind s.chamber?).any (fun c => c.chargeSlot = some slot) = true)

/-- The kiln side: chambers, schedules and kiln charges agree (R40, R50, R55, R57). -/
def KilnSideOk (s : State) : Prop :=
  s.chambers.length = Config.chambers ∧ s.schedules.length = Config.scheduleSlots ∧
    (∀ c ∈ s.chambers, c.Ok ∧ ChamberSchedule s c) ∧
    (∀ k < Config.scheduleSlots, ∀ sc ∈ (s.schedule? (k + 1)).toList, ScheduleOk s (k + 1) sc) ∧
    (∀ k < Config.chambers, ∀ c ∈ (s.chamber? (k + 1)).toList, ChamberCharge s (k + 1) c) ∧
    ∀ i < s.charges.length, ∀ ch ∈ (s.charge? i).toList, ChargeChamber s i ch

/-! ## What a step advance leaves (R41, R52, R66) -/

/-- The 11 bytes `p` bring in the step `t`: its fields in range, and the threshold and on-limit action
of a TIME step stored as 0 and ADVANCE whatever was sent (R41). -/
def SendsStep (t : Step) (p : List Byte) : Prop :=
  t.Ok ∧ ∃ threshold action : Nat,
    p = bytes 2 t.dryTarget ++ bytes 2 t.depression ++ bytes 1 t.ramp ++
        bytes 1 (match t.kind with | .time => 1 | .meanBelow => 2 | .wettestBelow => 3) ++
      bytes 2 threshold ++ bytes 2 t.duration ++ bytes 1 action ∧
    if t.kind = .time then t.threshold = 0 ∧ t.onLimit = .advance
    else threshold = t.threshold ∧ action = (match t.onLimit with | .advance => 1 | .hold => 2)

/-- `t` is `s` after the chamber `n`, whose record is `c`, has advanced a step in the way `how`: it
loads the next step of its schedule and raises STEP, or past the last step completes, copies its
estimate to its charge and raises KILN_DONE (R66, R12). -/
def AdvanceLeaves (s : State) (n : Nat) (c : Chamber) (how : LastAdvance) (t : State) : Prop :=
  ∀ k sc r slot ch, c.schedule = some k → s.schedule? k = some sc → c.run = some r →
    c.chargeSlot = some slot → s.charge? slot = some ch →
    (∀ u, sc.steps[r.index + 1]? = some u →
      t = (s.setChamber n { c with
        run := some ⟨r.index + 1, sc.revision, u, 0, u.duration, r.dry, r.wet⟩
        lastAdvance := how }).raise .step (.chamber n)) ∧
    (sc.steps.length ≤ r.index + 1 →
      t = ((s.setChamber n { c with
        state := .complete
        lastAdvance := how
        causes := { c.causes with request := false, stepLimit := false } }).withCharge slot
          { ch with estMean := c.estMean, estWettest := c.estWettest }).raise .kilnDone (.chamber n))

/-! ## What a transaction leaves (R84, R86, R87, R61) -/

/-- The chambers that are not EMPTY, in ascending number (R82). -/
def State.Polled (s : State) (l : List Nat) : Prop :=
  l.Pairwise (· < ·) ∧
    ∀ n, n ∈ l ↔ 1 ≤ n ∧ n ≤ 12 ∧ ∃ c, s.chamber? n = some c ∧ c.state ≠ .empty

/-- The turn `k` has been served or skipped: the next position has its turn, or the round ends (R80). -/
def Port.turnOver (p : Port) (k : Nat) : Port :=
  { p with
    round := if k + 1 < p.snapshot.length then p.round else .idle
    snapshot := if k + 1 < p.snapshot.length then p.snapshot else []
    turn := if k + 1 < p.snapshot.length then some (k + 1) else none }

/-- The transaction of module `n` at turn `k` has ended, leaving the module's record `m` (R84). -/
def Port.served (p : Port) (k n : Nat) (m : Module) : Port :=
  { p.turnOver k with transaction := none, modules := set1 p.modules n m }

/-- The state re-formed by the hold causes: HOLD with a cause and RUNNING with none, in a chamber whose
schedule is in progress (R57). -/
def formedState (state : ChamberState) (causes : Causes) : ChamberState :=
  if state = .running ∨ state = .hold then
    (if causes = ⟨false, false, false, false⟩ then .running else .hold)
  else state

/-- The state after a miss that leaves `count` misses has been handed to the chamber `n`, whose record
is `c`: at the miss limit it takes LINE, unless it is EMPTY (R61, R58, R89). -/
def State.missed (s : State) (n : Nat) (c : Chamber) (count : Nat) : State :=
  if c.state ≠ .empty ∧ s.port.inForce.missLimit ≤ count then
    let causes := { c.causes with line := true }
    let t := s.setChamber n { c with state := formedState c.state causes, causes := causes }
    if c.causes.line then t else t.raise .kilnFault (.chamber n)
  else s

/-- The received characters are not a complete reply: the probe count has not arrived or is above 8, or
a reading is missing (R84, R183). -/
def IncompleteReply (l : List RxChar) : Prop :=
  ∀ q, l[6]? = some q → 8 < q.value.toNat ∨ l.length < 7 + 2 * q.value.toNat

/-! ## What the outfeed leaves (R94 to R106, R136) -/

/-- The target `x` is reached at the chain position: the difference modulo 2^24 is below 2^23 (R94). -/
def State.Reached (s : State) (x : Nat) : Prop :=
  (s.tracker.position + 16777216 - x % 16777216) % 16777216 < 8388608

/-- The position that an entry waits on (R95). -/
def State.waitsOn (s : State) (e : Entry) : Nat :=
  match e.decision with
  | none => e.capture + s.tracker.geometry.pairing
  | some d => if d.gateOpen then d.closePos else d.openPos

/-- The transit queue replaced. -/
def State.withQueue (s : State) (l : List Entry) : State :=
  { s with tracker := { s.tracker with queue := l } }

/-- The queue holds `e` between `l` and `r`, and no other entry has its edge sequence (R97). -/
def State.QueueAt (s : State) (l : List Entry) (e : Entry) (r : List Entry) : Prop :=
  s.tracker.queue = l ++ e :: r ∧ ∀ x ∈ l ++ r, x.sequence ≠ e.sequence

/-- The plan slot `n` is the ACTIVE one and holds the plan `pl` (R114). -/
def State.ActivePlan (s : State) (n : Nat) (pl : Plan) : Prop :=
  n = (if s.sorter.slot0.role = .active then 0 else 1) ∧ (s.sorter.slot n).plan = some pl

/-- One more board decided under the plan slot `n` (R117, R118). -/
def State.decidedUnder (s : State) (n : Nat) : State :=
  s.setPlanSlot n { s.sorter.slot n with decided := (s.sorter.slot n).decided + 1 }

/-- The open and close positions of a board captured at `capture`, `length` decimetres long, for a bin
(R105). -/
def State.gatePositions (s : State) (capture bin length : Nat) : Nat × Nat :=
  let g := s.tracker.geometry
  let offset := (g.offsets[bin]?).getD 0
  ((capture + offset + 16777216 - g.lead) % 16777216,
    (capture + offset + length * g.scale + g.trail) % 16777216)

/-- A gate open count changed. -/
def State.withGate (s : State) (bin : Nat) (f : Nat → Nat) : State :=
  { s with sorter := { s.sorter with gates := s.sorter.gates.modify bin f } }

/-- How many pieces of a length class a tally counts. -/
def tallyCount (l : List (Nat × Nat)) (c : Nat) : Nat := ((l.filter (fun x => x.1 = c)).map (·.2)).sum

/-- `q` is the pack `p` after the delivery of the board decided by `d`, whose charge is quarantined or
not: steps 1 to 5, 7 and 8 of R136, and the charge slot in the charge set (R136). -/
def Pack.Delivered (p : Pack) (dims : Dimensions) (d : Decision) (quarantined : Bool) (q : Pack) : Prop :=
  let lc := d.lengthClass.getD 0
  let wc := d.widthClass.getD 0
  let tc := d.thicknessClass.getD 0
  q.bound = p.bound - 1 ∧ q.pieces = p.pieces + 1 ∧
    (∀ c, tallyCount q.tally c = tallyCount p.tally c + if c = lc then 1 else 0) ∧
    q.volume = p.volume +
      (dims.thickness[tc]?).getD 0 * (dims.width[wc]?).getD 0 * (dims.length[lc]?).getD 0 ∧
    (p.pieces = 0 → q.dimension = some (tc, wc) ∧ q.mixedDim = p.mixedDim) ∧
    (p.pieces ≠ 0 → q.dimension = p.dimension ∧
      q.mixedDim = (p.mixedDim || decide (p.dimension ≠ some (tc, wc)))) ∧
    (∀ g, g ∈ q.grades ↔ g ∈ p.grades ∨ d.grade = some g) ∧
    (∀ c, c ∈ q.charges ↔ c ∈ p.charges ∨ d.chargeSlot = some c) ∧
    (d.mc = none → q.measured = p.measured ∧ q.mcSum = p.mcSum ∧ q.lowest = p.lowest ∧
      q.highest = p.highest) ∧
    (∀ m, d.mc = some m → q.measured = p.measured + 1 ∧ q.mcSum = p.mcSum + m ∧
      q.lowest = some (min m (p.lowest.getD m)) ∧ q.highest = some (max m (p.highest.getD m))) ∧
    q.quarantineMix = (p.quarantineMix || quarantined) ∧
    q.number = p.number ∧ q.bin = p.bin ∧ q.target = p.target ∧ q.template = p.template ∧
    q.quarantine = p.quarantine ∧ q.closeReason = p.closeReason ∧ q.truncated = p.truncated

/-- `t` is `s` after the CLOSING pack `p` of a slot, whose bound count is 0 and which holds a piece, has
closed: HELD with PACK_HELD raised when it carries a quarantine mark, else at the tail of the label
queue (R138). -/
def State.packClosed (s : State) (slot : Nat) (p : Pack) : State :=
  if p.quarantine || p.quarantineMix then
    (s.withPack slot { p with state := .held }).raise .packHeld (.pack p.number)
  else
    { s.withPack slot { p with state := .labelQueued } with
      labels := { s.labels with queue := s.labels.queue ++ [slot] } }

/-- The hexadecimal digit of a number below 16 as a character without error (R184). -/
def hexChar (n : Nat) : RxChar := ⟨BitVec.ofNat 8 (if n < 10 then 48 + n else 55 + n), false⟩

/-- The 20 characters that follow the start character of a board message (R184). -/
def BoardMessage.characters (m : BoardMessage) : List RxChar :=
  (bytes 1 m.sequence ++ bytes 2 m.number ++ bytes 1 m.grade ++ bytes 1 m.lengthClass ++
    bytes 1 m.widthClass ++ bytes 1 m.thicknessClass ++ bytes 2 m.raw ++ signedBytes 1 m.temp).flatMap
    (fun b => [hexChar (b.toNat / 16), hexChar (b.toNat % 16)])

/-- The fields of a message fit their widths (R98, R184). -/
def BoardMessage.Fits (m : BoardMessage) : Prop :=
  m.sequence ≤ 255 ∧ m.number ≤ 65535 ∧ m.grade ≤ 255 ∧ m.lengthClass ≤ 255 ∧ m.widthClass ≤ 255 ∧
    m.thicknessClass ≤ 255 ∧ m.raw ≤ 65535 ∧ -128 ≤ m.temp ∧ m.temp ≤ 127

/-- `c'` is the charge `c` after the statistics update for a board of moisture `mc` and class `cls`, with
its transit reference raised (R14, R34, R105). -/
def Charge.Counted (c : Charge) (mc : Option Nat) (cls : MClass) (c' : Charge) : Prop :=
  let n (b : Bool) : Nat := if b then 1 else 0
  c' = { c with
    state := if c.state = .dried then .inFeed else c.state
    seen := c.seen + 1
    measured := c.measured + n mc.isSome
    unmeasured := c.unmeasured + n mc.isNone
    mcSum := c.mcSum + mc.getD 0
    lowest := match mc with | none => c.lowest | some m => some (min m (c.lowest.getD m))
    highest := match mc with | none => c.highest | some m => some (max m (c.highest.getD m))
    wetCount := c.wetCount + n (mc.isSome && cls = .wet)
    overdry := c.overdry + n (mc.isSome && cls = .overdry)
    winMeasured := c.winMeasured + n mc.isSome
    winWet := c.winWet + n (mc.isSome && cls = .wet)
    transitRef := c.transitRef + 1 }

/-- The quarantine test trips on the charge as just updated (R36, R37). -/
def Charge.Trips (c : Charge) (mc : Option Nat) : Prop :=
  mc.isSome = true ∧ c.quarantined = false ∧ c.qmin ≤ c.winMeasured ∧
    c.qp * c.winMeasured < c.winWet * 1000

/-- The first rule of a plan that matches a board (R116, R117). -/
def Plan.FirstMatch (p : Plan) (group grade lengthClass thicknessClass : Nat) (cls : MClass)
    (r : Option Rule) : Prop :=
  let hit (r : Rule) : Prop := group ∈ r.groups ∧ grade ∈ r.grades ∧ r.lengthLo ≤ lengthClass ∧
    lengthClass ≤ r.lengthHi ∧ thicknessClass ∈ r.thickness ∧ cls ∈ r.moisture
  match r with
  | none => ∀ x ∈ p.rules, ¬hit x
  | some x => hit x ∧ ∃ before after, p.rules = before ++ x :: after ∧ ∀ y ∈ before, ¬hit y

/-- What a board message finds when it pairs with the waiting entry `e` and its charge `c` is found: the
entry, the charge, its species and the ACTIVE plan (R99, R13). -/
def State.BoardFound (s : State) (l : List Entry) (e : Entry) (r : List Entry) (m : BoardMessage)
    (slot : Nat) (c : Charge) (sp : Species) (n : Nat) (pl : Plan) : Prop :=
  s.QueueAt l e r ∧ e.decision = none ∧ s.OnlyCharge m.number slot c ∧
    (c.state = .dried ∨ c.state = .inFeed ∨ c.state = .fed) ∧ c.seen < 16777215 ∧
    s.species[c.species]? = some sp ∧ s.ActivePlan n pl

/-- The decision of a board message with its gate positions (R103, R105). -/
def State.decisionFor (s : State) (e : Entry) (m : BoardMessage) (slot : Option Nat) (mc : Option Nat)
    (cls : MClass) (reason : Reason) (bin n : Nat) (pack : Option Nat) : Decision :=
  let at' := s.gatePositions e.capture bin ((s.tracker.dimensions.length[m.lengthClass]?).getD 0)
  { chargeSlot := slot, grade := some m.grade, lengthClass := some m.lengthClass
    widthClass := some m.widthClass, thicknessClass := some m.thicknessClass, mc := mc, moisture := cls
    reason := reason, bin := bin, planSlot := n, packSlot := pack, openPos := at'.1, closePos := at'.2
    gateOpen := false }

/-- The entry's decision written, the other entries kept (R97). -/
def State.decidedAs (s : State) (e : Entry) (d : Decision) : State :=
  s.withQueue (s.tracker.queue.map (fun x => if x.sequence = e.sequence then { x with decision := some d } else x))

/-- The decision of an entry as NO_DATA under the ACTIVE plan `pl` of slot `n` (R102). -/
def State.noDataDecision (s : State) (e : Entry) (n : Nat) (pl : Plan) : Decision :=
  let at' := s.gatePositions e.capture pl.reject 80
  { chargeSlot := none, grade := none, lengthClass := none, widthClass := none, thicknessClass := none
    mc := none, moisture := .unmeasured, reason := .noData, bin := pl.reject, planSlot := n
    packSlot := none, openPos := at'.1, closePos := at'.2, gateOpen := false }

/-- The state after an entry has been decided as NO_DATA and TRANSIT raised (R102, R118). -/
def State.noData (s : State) (e : Entry) (n : Nat) (pl : Plan) : State :=
  ((s.decidedAs e (s.noDataDecision e n pl)).decidedUnder n).raise .transit (.transit e.sequence .untracked)

/-- The state after a message of the sequence has been an orphan (R100). -/
def State.orphaned (s : State) (sequence : Nat) : State :=
  ({ s with tracker := { s.tracker with orphans := min 65535 (s.tracker.orphans + 1) } } : State).raise
    .transit (.transit sequence .orphan)

/-- The state after a message has been discarded and counted (R98). -/
def State.messageLost (s : State) (receiver : Option (List RxChar)) : State :=
  { s with tracker := { s.tracker with
      receiver := receiver, discarded := min 65535 (s.tracker.discarded + 1) } }

/-- The state after the edge of sequence `q` has been given no entry (R96). -/
def State.edgeLost (s : State) (q : Nat) (r : TransitReason) : State :=
  ({ s with tracker := { s.tracker with
      edgeSequence := q, edgesLost := min 65535 (s.tracker.edgesLost + 1) } } : State).raise
    .transit (.transit q r)

/-- The transit reference of an optional charge slot lowered by 1 (R15). -/
def State.unreferenced (s : State) (slot : Option Nat) : State :=
  { s with charges := match slot with
      | none => s.charges
      | some i => s.charges.modify i (Option.map (fun c => { c with transitRef := c.transitRef - 1 })) }

/-- The drain check for the plan slot that a removed entry was decided under (R124). -/
def State.drained (s : State) (n : Nat) : State :=
  let p := s.sorter.slot n
  if p.role = .draining ∧ p.decided ≤ 1 then
    (s.setPlanSlot n { role := .shadow, plan := none, decided := 0 }).raise .plan (.planSlot n)
  else s.setPlanSlot n { p with decided := p.decided - 1 }

/-- The bin and the reason of a board: the quarantine bin, the bin of the first rule that matches, or
the reject bin (R117). -/
def Plan.Decides (p : Plan) (quarantined : Bool) (group grade lengthClass thicknessClass : Nat)
    (cls : MClass) (bin : Nat) (reason : Reason) : Prop :=
  if quarantined then bin = p.quarantine ∧ reason = .quarantine
  else (∃ r, p.FirstMatch group grade lengthClass thicknessClass cls (some r) ∧ bin = r.bin ∧ reason = .data) ∨
    (p.FirstMatch group grade lengthClass thicknessClass cls none ∧ bin = p.reject ∧ reason = .noRule)

/-- The number of the plan slot that is not ACTIVE (R114). -/
def State.shadowSlot (s : State) : Nat := if s.sorter.slot0.role = .active then 1 else 0

/-- The fields of a rule as a PLAN_LOAD rule part sends them, sets as sums (R121). -/
structure RuleFields where
  groups : Nat
  grades : Nat
  lo : Nat
  hi : Nat
  thickness : Nat
  moisture : Nat
  bin : Nat
  deriving DecidableEq, Repr

/-- The 9 bytes of a rule (R121). -/
def RuleFields.bytes (f : RuleFields) : List Byte :=
  Machine.bytes 1 f.groups ++ Machine.bytes 2 f.grades ++ Machine.bytes 1 f.lo ++ Machine.bytes 1 f.hi ++
    Machine.bytes 2 f.thickness ++ Machine.bytes 1 f.moisture ++ Machine.bytes 1 f.bin

/-- The rule that the fields describe (R115, section 7.3). -/
def RuleFields.rule (f : RuleFields) : Rule :=
  { groups := (List.range 8).filter f.groups.testBit, grades := (List.range 16).filter f.grades.testBit
    lengthLo := f.lo, lengthHi := f.hi, thickness := (List.range 16).filter f.thickness.testBit
    moisture := ([(0, .pass), (1, .wet), (2, .overdry), (3, .unmeasured)].filter
      (fun x : Nat × MClass => f.moisture.testBit x.1)).map (·.2)
    bin := f.bin }

/-- The fields fit their widths (R121). -/
def RuleFields.Fits (f : RuleFields) : Prop :=
  f.groups ≤ 255 ∧ f.grades ≤ 65535 ∧ f.lo ≤ 255 ∧ f.hi ≤ 255 ∧ f.thickness ≤ 65535 ∧ f.moisture ≤ 255 ∧
    f.bin ≤ 255

/-- The fields lie within their ranges under the plan's header (R121). -/
def RuleFields.InRange (f : RuleFields) (p : Plan) : Prop :=
  f.lo ≤ f.hi ∧ f.hi ≤ 31 ∧ f.moisture ≤ 15 ∧ f.bin ≤ 15 ∧ (f.bin = p.quarantine → p.quarantine = p.reject)

/-- A set of numbers sent as the sum of 2^n over its members (R181). -/
def powerSum (l : List Nat) : Nat := (l.map (fun n => 2 ^ n)).sum

/-! ## What a label holds (R155, R156) -/

/-- A number in decimal without leading zeros, as character codes (R155). -/
def decimalCodes (n : Nat) : List Byte := (Nat.toDigits 10 n).map (fun c => BitVec.ofNat 8 c.toNat)

/-- The codes of a text (R185). -/
def textCodes (t : String) : List Byte := t.toList.map (fun c => BitVec.ofNat 8 c.toNat)

/-- The cell that a text in a placement's window writes at a row and column, if it writes there
(R156). -/
def Placement.cellAt (pl : Placement) (text : List Byte) (row col : Nat) : Option Byte :=
  if pl.rowStart ≤ row ∧ row ≤ pl.rowEnd ∧ pl.colStart ≤ col ∧ col ≤ pl.colEnd then
    text[(row - pl.rowStart) * (pl.colEnd + 1 - pl.colStart) + (col - pl.colStart)]?
  else none

/-- A placement's window lies on the card (R152). -/
def Placement.OnCard (pl : Placement) : Prop :=
  pl.colStart ≤ pl.colEnd ∧ pl.colEnd ≤ 39 ∧ pl.rowStart ≤ pl.rowEnd ∧ pl.rowEnd ≤ 11

/-- The pack number of the frame that is PRINTING, its record and its frame (R159). -/
def State.Printing (s : State) (f slot : Nat) (p : Pack) : Prop :=
  f < 2 ∧ (s.labels.frame f).state = .printing ∧ (f = 1 → s.labels.frame0.state ≠ .printing) ∧
    (s.labels.frame f).pack = some slot ∧ s.pack? slot = some p

/-- A class in an answer: more and the three object bytes, all 0 while the class is clear (R169). -/
def AttnRecord.shown (r : AttnRecord) : List Byte :=
  if r.pending then
    (if r.more then 1 else 0) :: (match r.first with
      | none => [0, 0, 0]
      | some (.chamber n) => bytes 3 n
      | some (.charge n) => bytes 3 n
      | some (.pack n) => bytes 3 n
      | some (.planSlot n) => bytes 3 n
      | some (.transit q reason) => [0, BitVec.ofNat 8 q, match reason with
          | .queueFull => 1 | .sequenceHeld => 2 | .orphan => 3 | .untracked => 4 | .unknownCharge => 5
          | .packTableFull => 6])
  else [0, 0, 0, 0]

/-- The classes whose code is in a set sent as a sum (R166). -/
def AttnClass.inSet (set : Nat) (c : AttnClass) : Bool :=
  match c with
  | .step => set.testBit 0 | .kilnDone => set.testBit 1 | .kilnFault => set.testBit 2
  | .quarantine => set.testBit 3 | .packHeld => set.testBit 4 | .label => set.testBit 5
  | .transit => set.testBit 6 | .plan => set.testBit 7

/-- The set of the classes that satisfy `q`, as the sum of their codes (R166). -/
def classSet (q : AttnClass → Bool) : Nat :=
  ([(1, .step), (2, .kilnDone), (4, .kilnFault), (8, .quarantine), (16, .packHeld), (32, .label),
    (64, .transit), (128, .plan)].map (fun x : Nat × AttnClass => if q x.2 then x.1 else 0)).sum

/-! ## References to charges (R15 to R17) -/

/-- How many live packs satisfy `q`. -/
def State.packCount (s : State) (q : Pack → Bool) : Nat :=
  s.packs.records.countP (fun o => o.any q)

/-- Every charge's references count the records that name it, and no record names a free slot (R17).
The charge set of a pack is held in ascending order, and is empty before a piece is delivered. -/
def ReferencesOk (s : State) : Prop :=
  QueueOk s ∧
    (∀ i < s.charges.length, ∀ c ∈ (s.charge? i).toList,
      c.transitRef = s.decidedCount (fun d => d.chargeSlot = some i) ∧
        c.packRef = s.packCount (fun p => p.charges.contains i)) ∧
    (∀ e ∈ s.tracker.queue, ∀ d ∈ e.decision.toList, ∀ i ∈ d.chargeSlot.toList,
      (s.charge? i).isSome = true) ∧
    ∀ p ∈ s.packs.records.filterMap id,
      (∀ i ∈ p.charges, (s.charge? i).isSome = true) ∧ p.charges.Pairwise (· < ·) ∧
        (p.pieces = 0 → p.charges = [])

/-! ## Packs (R131 to R138) -/

/-- The current packs and the OPEN packs are the same, each of its own bin (R131, R132). -/
def CurrentPacksOk (s : State) : Prop :=
  s.packs.records.length = Config.packSlots ∧ s.packs.current.length = Config.bins ∧
    (∀ b < Config.bins, ∀ slot ∈ (s.currentPack b).toList,
      (s.pack? slot).any (fun p => p.state = .opened ∧ p.bin = b) = true) ∧
    ∀ slot < Config.packSlots, ∀ p ∈ (s.pack? slot).toList, p.state = .opened →
      p.bin < Config.bins ∧ s.currentPack p.bin = some slot

/-- The bound count, the pieces, the length tally and the grade set of a pack: the tally ascends by length
class with one pair, of a count above 0, for each class, and the grade set ascends (R132, R135, R136,
R137, R139, R144). -/
def PackOk (s : State) (slot : Nat) (p : Pack) : Prop :=
  p.bound = s.decidedCount (fun d => d.packSlot = some slot) ∧
    (0 < p.bound → p.state = .opened ∨ p.state = .closing) ∧
    (p.state = .closing → 0 < p.bound) ∧
    (p.state = .opened → 1 ≤ p.pieces + p.bound ∧ p.pieces + p.bound < p.target) ∧
    p.pieces + p.bound ≤ p.target ∧ p.pieces = (p.tally.map (·.2)).sum ∧
    p.tally.Pairwise (fun x y => x.1 < y.1) ∧ (∀ x ∈ p.tally, 1 ≤ x.2) ∧
    p.grades.Pairwise (· < ·) ∧ 1 ≤ p.number ∧ p.number ≤ 999999

/-- The Pack Table agrees with the transit queue, and pack numbers differ (R131 to R137). -/
def PacksOk (s : State) : Prop :=
  QueueOk s ∧ CurrentPacksOk s ∧
    (∀ pl ∈ s.sorter.slot0.plan.toList ++ s.sorter.slot1.plan.toList, pl.Ok) ∧
    (∀ slot < Config.packSlots, ∀ p ∈ (s.pack? slot).toList, PackOk s slot p) ∧
    (∀ e ∈ s.tracker.queue, ∀ d ∈ e.decision.toList, ∀ slot ∈ d.packSlot.toList,
      (s.pack? slot).isSome = true) ∧
    ((s.packs.records.filterMap id).map (·.number)).Nodup ∧
    1 ≤ s.packs.nextNumber ∧ s.packs.nextNumber ≤ 999999

/-! ## Labels (R151, R152, R157 to R162, R185) -/

/-- A placement keeps the conditions under which TEMPLATE_LOAD takes it: its window lies on the card, and
its literal is one of up to 40 printable characters and empty for every kind but TEXT (R152, R153). -/
def Placement.Ok (pl : Placement) : Prop :=
  pl.OnCard ∧ pl.literal.length ≤ 40 ∧ (∀ b ∈ pl.literal, 32 ≤ b.toNat ∧ b.toNat ≤ 126) ∧
    (pl.kind ≠ .text → pl.literal = [])

/-- A template load in progress still expects a placement (R152, R153). -/
def TemplateLoad.Ok (t : TemplateLoad) : Prop :=
  t.index < Config.templates ∧ t.received.length < t.count ∧ t.count ≤ 16 ∧ ∀ pl ∈ t.received, pl.Ok

/-- The templates hold up to 16 placements each, and every placement of theirs and of a load in progress is
in order (R151 to R153). -/
def TemplatesOk (s : State) : Prop :=
  s.labels.templates.length = Config.templates ∧
    (∀ l ∈ s.labels.templates, l.length ≤ 16 ∧ ∀ pl ∈ l, pl.Ok) ∧ ∀ t ∈ s.labels.load.toList, t.Ok

/-- A pack slot holds a live pack in the given state. -/
def State.packIs (s : State) (slot : Nat) (st : PackState) : Bool :=
  (s.pack? slot).any (fun p => p.state = st)

/-- A frame: FREE without a pack, READY with a LABEL_READY pack, PRINTING with a PRINTING pack, and
always 12 rows of 40 cells (R151, R159). -/
def FrameOk (s : State) (f : Frame) : Prop :=
  (f.state = .free → f.pack = none) ∧
    (f.state = .ready → f.pack.any (fun i => s.packIs i .labelReady) = true) ∧
    (f.state = .printing → f.pack.any (fun i => s.packIs i .printing) = true) ∧
    f.cells.length = Config.frameRows ∧ ∀ r ∈ f.cells, r.length = Config.frameColumns

/-- Label queue, ready list, frames, port and the states of the packs agree (R157 to R162). -/
def LabelsOk (s : State) : Prop :=
  CurrentPacksOk s ∧ s.labels.queue.Nodup ∧ s.labels.ready.Nodup ∧
    (∀ slot ∈ s.labels.queue, s.packIs slot .labelQueued = true) ∧
    (∀ slot < Config.packSlots, s.packIs slot .labelQueued = true → slot ∈ s.labels.queue) ∧
    FrameOk s s.labels.frame0 ∧ FrameOk s s.labels.frame1 ∧
    (∀ f ∈ s.labels.ready, f < 2) ∧
    (∀ f < 2, f ∈ s.labels.ready ↔ (s.labels.frame f).state = .ready) ∧
    (∀ i ∈ s.labels.frame0.pack.toList, s.labels.frame1.pack ≠ some i) ∧
    (∀ slot < Config.packSlots,
      s.packIs slot .labelReady = true ∨ s.packIs slot .printing = true →
        s.labels.frame0.pack = some slot ∨ s.labels.frame1.pack = some slot) ∧
    (s.labels.port = .printing ↔
      (s.labels.frame0.state = .printing ∨ s.labels.frame1.state = .printing)) ∧
    ¬(s.labels.frame0.state = .printing ∧ s.labels.frame1.state = .printing) ∧
    (s.labels.passTimeout.isSome = true ↔ s.labels.port = .printing) ∧
    s.labels.cursor ≤ Config.frameRows ∧ s.labels.bitCount < 320 ∧
    s.labels.templates.length = Config.templates ∧ 1 ≤ s.labels.timeout ∧ s.labels.timeout ≤ 60

/-! ## Attention (R166) -/

/-- The kind of object that a class carries (R166). -/
def AttnClass.carries : AttnClass → AttnObject → Bool
  | .step, .chamber _ | .kilnDone, .chamber _ | .kilnFault, .chamber _ => true
  | .quarantine, .charge _ => true
  | .packHeld, .pack _ | .label, .pack _ => true
  | .transit, .transit _ _ => true
  | .plan, .planSlot _ => true
  | _, _ => false

/-- A class record: a clear class has no first object and no more, a pending one has a first object of
its kind (R166). -/
def AttnRecord.Ok (c : AttnClass) (r : AttnRecord) : Prop :=
  (r.pending = false → r.first = none ∧ r.more = false) ∧
    (r.pending = true → r.first.any c.carries = true)

/-- Every class record is in order (R166). -/
def AttentionOk (s : State) : Prop := ∀ c ∈ AttnClass.all, (s.attention.get c).Ok c

end Sys2Proof.Machine
end

