-- ==== Sys2Proof/WellFormed.lean ====
section
/-! DEFINITION. When a command is well formed: its operands are ones that the row's event can bring.
The meanings are defined on ill-formed commands too, as their definitions say. -/

namespace Sys2Proof

/-- A request transfer is not broken (R175). -/
def requestOk (declared : Byte) (bs : List Byte) : Bool := !isBroken declared bs

/-- The codes of the requests (R182). -/
def knownCodes : List Nat :=
  [1, 16, 17, 18, 19, 20, 21, 22, 32, 33, 34, 48, 49, 50, 51, 64, 65, 66, 67, 68, 69, 70, 71, 72, 80, 81,
   96, 97, 98, 99, 112, 113, 114, 128, 129, 130, 131, 132, 133, 134, 144, 145, 146, 147, 148, 149,
   160, 161, 162]

/-- The complete bytes of a broken request transfer (R175). -/
def brokenOk : List Byte → Bool
  | [] => false
  | [c] => c != 0
  | c :: d :: bs => c != 0 && isBroken d bs

/-- The operands of a command are ones its event can bring. -/
def Instr.wellFormed : Instr → Bool
  | .powerOn | .resetNAssert | .resetNRelease _ | .readAnswer _ | .emptyTransfer => true
  | .brokenRequestTransfer received => brokenOk received
  | .unknownRequest code d b => requestOk d b && code != 0 && !knownCodes.contains code.toNat
  | .planLoadHeader d b | .templateLoadHeader d b => requestOk d b && !isSecondPart d b
  | .planLoadRules d b | .templateLoadPlacement d b => requestOk d b && isSecondPart d b
  | .partIdent d b | .chargeCreate d b | .chargeRead d b | .chargeList d b | .chargeLimits d b
  | .chargeRelease d b | .chargeFeedEnd d b | .chargeRetire d b | .speciesSet d b | .speciesRead d b
  | .mcTest d b | .schedDefine d b | .schedAmend d b | .schedRead d b | .schedDelete d b
  | .chamberLoad d b | .chamberStart d b | .chamberHold d b | .chamberResume d b | .chamberSkip d b
  | .chamberReload d b | .chamberAbort d b | .chamberUnload d b | .chamberRead d b | .kilnPortSet d b
  | .kilnPortRead d b | .lineSet d b | .dimensionSet d b | .transitRead d b | .lineRestart d b
  | .planSwitch d b | .planRead d b | .packRead d b
  | .packList d b | .packClose d b | .packRelease d b | .packReject d b | .packRetire d b
  | .packNumberSet d b | .templateRead d b
  | .labelReprint d b | .labelRead d b | .labelPortSet d b | .labelPortClear d b | .attnRead d b
  | .attnAck d b | .attnMask d b => requestOk d b
  | .workingLimitReached n => decide (1 ≤ n) && decide (n ≤ 12)
  | .openEvent q | .closeEvent q => decide (q ≤ 255)
  | .rowRead clocks => decide (1 ≤ clocks) && decide (clocks ≤ 320)
  | .boardMessage frames =>
    decide (1 ≤ frames.length) && decide (frames.length ≤ 21) && frames.all Machine.frameStarts
  | .scanReply frames => decide (1 ≤ frames.length) && frames.all Machine.frameStarts
  | .replyWindowClose frames => frames.all Machine.frameStarts
  | .minuteTick | .roundTimerExpiry | .deferredRoundStart | .transaction | .setpointSent
  | .encPulse | .edge | .expiry | .composition | .lblStart | .lblEnd
  | .passTimeoutExpiry | .startCharacter => true

end Sys2Proof
end

