-- ==== Sys2Proof/Certificates/Slice0/Obligations.lean ====
section
/-! DEFINITION. The statements for the provers. A request is stated through `Answers`: sent with the
payload and any padding, exec answers a next state whose Link Interface holds the answer and whose
records are the ones given, so every record not named is unchanged. -/

open Sys2Proof Sys2Proof.Machine

/-! ## The part and its link (R1, R173 to R180) -/

/-- Assumption 1: the queue is first in, first out, and the part idles on an empty queue. -/
def Obligations.StepTakesTheFrontCommand : Prop :=
  ∀ (s : State) c q, step { s with pending := c :: q } = exec c { s with pending := q } ∧
    step { s with pending := [] } = .next { s with pending := [] }

/-- Every command, on every operand and in every state, answers a next state and leaves the queue of
waiting commands alone; no command faults and none is refused by the model. This is the model's choice:
meanings are total (assumption 12), and the queue (assumption 15) survives POWER_ON and RESET_N_ASSERT
(assumption 5). -/
def Obligations.EveryCommandCompletesAndKeepsTheQueue : Prop :=
  ∀ c s, ∃ t, exec c s = .next t ∧ t.pending = s.pending

/-- The values after power-on (R1, R21, R40, R56, R79, R93, R114, R131, R151, R166, R173, R185). Taken while
RESET_N is asserted it leaves the line released and the round timer started too (assumption 5). -/
def Obligations.PowerOnLeavesTheSpecifiedValues : Prop :=
  ∀ s, ∃ t, exec .powerOn s = .next t ∧ t.resetAsserted = false ∧
    t.charges = List.replicate 64 none ∧
    t.species = List.replicate 16 ⟨0, List.replicate 8 32, ⟨0, 0, 0⟩, ⟨0, 0, 0⟩⟩ ∧
    t.schedules = List.replicate 32 none ∧
    (t.chambers.length = 12 ∧ ∀ c ∈ t.chambers, c.state = .empty ∧ c.causes.isEmpty = true ∧
      c.lastAdvance = .none ∧ c.chargeSlot = none ∧ c.schedule = none ∧ c.run = none ∧
      c.lastScan = none ∧ c.probes = [] ∧ c.estMean = none ∧ c.estWettest = none) ∧
    t.port = ⟨⟨60, 100, 3⟩, ⟨60, 100, 3⟩, .idle, [], none, false, 0, none,
      List.replicate 12 ⟨0, .none⟩, some 60⟩ ∧
    t.tracker = ⟨0, 0, [], ⟨0, List.replicate 16 0, 0, 0, 0⟩,
      ⟨List.replicate 16 0, List.replicate 16 0, List.replicate 32 0⟩, none, 0, 0, 0⟩ ∧
    t.sorter = ⟨⟨.active, some ⟨15, 15, [], List.replicate 16 0, List.replicate 16 1, 0, []⟩, 0⟩,
      ⟨.shadow, none, 0⟩, List.replicate 16 0⟩ ∧
    t.packs = ⟨List.replicate 48 none, List.replicate 16 none, 1⟩ ∧
    (t.labels.templates = List.replicate 4 [] ∧ t.labels.load = none ∧ t.labels.queue = [] ∧
      t.labels.frame0 = ⟨.free, none, List.replicate 12 (List.replicate 40 32)⟩ ∧
      t.labels.frame1 = ⟨.free, none, List.replicate 12 (List.replicate 40 32)⟩ ∧
      t.labels.ready = [] ∧ t.labels.port = .idle ∧ t.labels.cursor = 0 ∧ t.labels.bitCount = 0 ∧
      t.labels.timeout = 20 ∧ t.labels.passTimeout = none) ∧
    (∀ k, t.attention.get k = ⟨false, none, false, true⟩) ∧
    t.link.transfer = .idle ∧ t.link.assembly = [] ∧ t.link.count = 0 ∧ t.link.answer = ⟨.noAnswer, []⟩

/-- RESET_N: the assertion brings every record to its power-on value with the round timer stopped, and
the release starts the round timer with the period in force (R79, R92, R178). While it is asserted a
transfer reads 0 on LINK_MISO for every byte and changes no record (R178), and no field event changes
anything (assumption 5). A transfer that straddles the release is held as DISCARDING and is not taken: it
ends, nothing driven in it is recorded, and the next one is taken (assumption 8). -/
def Obligations.ResetLineRestartsAndIsolatesThePart : Prop :=
  ((∀ s : State, exec .resetNAssert s = .next { State.reset with
      resetAsserted := true, pending := s.pending,
      port := { State.reset.port with roundTimer := none } }) ∧
  ∀ (s : State) selLow, s.resetAsserted = true →
    exec (.resetNRelease selLow) s = .next { s with
      resetAsserted := false
      link := { s.link with transfer := if selLow then .discarding else .idle }
      port := { s.port with roundTimer := some s.port.inForce.period } }) ∧
  ((∀ (s : State) c, s.resetAsserted = true → c ≠ .powerOn → c ≠ .resetNAssert → (∀ b, c ≠ .resetNRelease b) →
    (encodeTransfer c = none → exec c s = .next s) ∧
    ∀ bs, encodeTransfer c = some bs →
      exec c s = .next { s with link := { s.link with miso := List.replicate bs.length 0 } }) ∧
  ∀ (s : State) c, s.resetAsserted = false → s.link.transfer = .discarding → s.Settled →
    (encodeTransfer c).isSome = true →
    exec c s = .next { s with link := { s.link with transfer := .idle, miso := [] } })

/-- R177: the bytes an answer transfer drives on LINK_MISO, one for each byte the host clocks. The
answer buffer and every other record stay; the bytes stand in a field of the model's (assumption 9), and
the emptied assembly buffer and count are its choice (assumption 8). -/
def Obligations.ReadAnswerStreamsTheAnswerBuffer : Prop :=
  ∀ (s : State) mosi, s.linkReady = true → ∃ m : List Byte, m.length = mosi.length ∧
    (∀ i < mosi.length, m[i]? = some (
      match i with
      | 0 => match s.link.answer.status with
        | .ok => 0 | .noAnswer => 1 | .unknownRequest => 2 | .badLength => 3 | .badField => 4 | .noSuch => 5
        | .wrongState => 6 | .inUse => 7 | .duplicate => 8 | .full => 9 | .busy => 10
      | 1 => BitVec.ofNat 8 s.link.answer.payload.length
      | k + 2 => (s.link.answer.payload[k]?).getD 0)) ∧
    exec (.readAnswer mosi) s =
      .next { s with link := { s.link with assembly := [], count := 0, miso := 0 :: m } }

/-- A broken request transfer, an empty transfer and a request that arrives with fewer payload bytes than
it declares (R175); a code that names no request, answered UNKNOWN_REQUEST whatever its length, and a
named request that declares more than 250 bytes, answered BAD_LENGTH: none reaches a record (R174,
R176). What the assembly buffer and count hold after such a transfer is the model's choice (assumption 8). -/
def Obligations.TransfersThatReachNoOwner : Prop :=
  ((∀ (s : State) received, s.linkReady = true →
    exec (.brokenRequestTransfer received) s = .next { s with
      link := ⟨.idle, [], received.length, ⟨.noAnswer, []⟩, List.replicate received.length 0⟩ }) ∧
  (∀ s : State, s.linkReady = true →
    exec .emptyTransfer s =
      .next { s with link := { s.link with assembly := [], count := 0, miso := [] } }) ∧
  ∀ (s : State) c code declared bs, s.linkReady = true → s.Settled → requestCode c = some code →
    requestBody c = some (declared, bs) → declared.toNat ≤ 250 → bs.length < declared.toNat →
    exec c s = exec (.brokenRequestTransfer (code :: declared :: bs)) s) ∧
  ((∀ (s : State) code declared bs, s.linkReady = true → ¬(declared.toNat ≤ 250 ∧ bs.length < declared.toNat) →
    exec (.unknownRequest code declared bs) s = .next { s with link :=
      { transfer := .idle
        assembly := code :: declared :: (if declared.toNat ≤ 250 then bs.take declared.toNat else [])
        count := 2 + bs.length
        answer := ⟨.unknownRequest, []⟩
        miso := List.replicate (2 + bs.length) 0 } }) ∧
  ∀ (s : State) c code declared bs, s.linkReady = true → s.Settled → requestCode c = some code →
    (∀ k d b, c ≠ .unknownRequest k d b) → requestBody c = some (declared, bs) → 250 < declared.toNat →
    exec c s = .next { s with link :=
      { transfer := .idle, assembly := [code, declared], count := 2 + bs.length,
        answer := ⟨.badLength, []⟩, miso := List.replicate (2 + bs.length) 0 } })

/-- Every answer other than OK carries an empty payload and leaves every record as it was, and a report
answered OK leaves every record as it was too (R179). -/
def Obligations.RefusalsAndReportsChangeNoRecord : Prop :=
  ∀ (s : State) c t, s.linkReady = true → s.Settled → (requestBody c).isSome = true → exec c s = .next t →
    (t.link.answer.status ≠ .ok → t = { s with link := t.link } ∧ t.link.answer.payload = []) ∧
    (isReport c = true → t = { s with link := t.link })

/-- Tier 2. A payload of a length that a request does not allow is BAD_LENGTH, whatever its bytes and
whatever the records hold; a field outside its range is then BAD_FIELD, and a charge number that no live
charge has NO_SUCH. The lengths are those that each request's rule gives (R5 to R10, R20, R22, R23, R38,
R44, R47 to R49, R67, R90, R91, R108 to R112, R119 to R122, R125, R141 to R148, R152 to R154, R163 to R165,
R169 to R171, R180, R181), and the ranges those of R5, R7, R8, R20, R22, R38, R41, R43, R44, R47 and R67.
CHARGE_LIMITS with number 0 is NO_SUCH by assumption 6. -/
def Obligations.WrongLengthsAndOutOfRangeFieldsAreRefused : Prop :=
  ∀ s : State, s.linkReady = true → s.Settled →
    ((∀ p : List Byte, p.length ≤ 250 →
      (∀ r ∈ ([(.partIdent, 1, [0]), (.chargeCreate, 16, [11, 15]), (.chargeRead, 17, [2]),
          (.chargeList, 18, [4]), (.chargeLimits, 19, [12]), (.chargeRelease, 20, [4]),
          (.chargeFeedEnd, 21, [2]), (.chargeRetire, 22, [2]), (.speciesSet, 32, [20]),
          (.speciesRead, 33, [1]), (.mcTest, 34, [6, 12]), (.schedAmend, 49, [13]), (.schedRead, 50, [1]),
          (.schedDelete, 51, [1]), (.chamberLoad, 64, [4]), (.chamberStart, 65, [1]),
          (.chamberHold, 66, [1]), (.chamberResume, 67, [1]), (.chamberSkip, 68, [1]),
          (.chamberReload, 69, [1]), (.chamberAbort, 70, [1]), (.chamberUnload, 71, [1]),
          (.chamberRead, 72, [1]), (.kilnPortSet, 80, [5]), (.kilnPortRead, 81, [0]), (.lineSet, 96, [37]),
          (.dimensionSet, 97, [80]), (.transitRead, 98, [1]), (.lineRestart, 99, [0]),
          (.planSwitch, 113, [0]), (.planRead, 114, [2]), (.packRead, 128, [3]), (.packList, 129, [6]),
          (.packClose, 130, [3]), (.packRelease, 131, [3]), (.packReject, 132, [3]), (.packRetire, 133, [3]),
          (.packNumberSet, 134, [3]), (.templateRead, 145, [2]), (.labelReprint, 146, [3]),
          (.labelRead, 147, [2]), (.labelPortSet, 148, [1]), (.labelPortClear, 149, [0]),
          (.attnRead, 160, [0]), (.attnAck, 161, [1]), (.attnMask, 162, [2])] :
          List ((Byte → List Byte → Instr) × Byte × List Nat)),
        p.length ∉ r.2.2 → Refused r.1 r.2.1 p s .badLength) ∧
      ((∀ count, p[1]? = some count → p.length ≠ 2 + 11 * count.toNat) →
        Refused .schedDefine 48 p s .badLength) ∧
      (p[0]? ≠ some 0 ∨ p.length ≠ 54 →
        p[0]? ≠ some 1 ∨ (∀ m, 1 ≤ m → m ≤ 16 → p.length ≠ 2 + 9 * m) →
        Refused .planLoadHeader 112 p s .badLength ∧ Refused .planLoadRules 112 p s .badLength) ∧
      (p[0]? ≠ some 0 ∨ p.length ≠ 3 → p[0]? ≠ some 1 ∨ p.length < 9 →
        Refused .templateLoadHeader 144 p s .badLength ∧
          Refused .templateLoadPlacement 144 p s .badLength)) ∧
    (∀ number species d t w loaded qmin qp, number ≤ 65535 → species ≤ 255 →
      (∀ x ∈ [d, t, w, loaded, qmin, qp], x ≤ 65535) →
      let short := bytes 2 number ++ bytes 1 species ++ bytes 2 d ++ bytes 2 t ++ bytes 2 w ++ bytes 2 loaded
      let limits := bytes 2 number ++ bytes 2 d ++ bytes 2 t ++ bytes 2 w ++ bytes 2 qmin ++ bytes 2 qp
      let ordered := d < t ∧ t < w ∧ w ≤ 600
      let tested := 20 ≤ qmin ∧ qmin ≤ 1000 ∧ qp ≤ 1000
      (number = 0 ∨ 15 < species ∨ ¬ordered → Refused .chargeCreate 16 short s .badField) ∧
      (number = 0 ∨ 15 < species ∨ ¬ordered ∨ ¬tested →
        Refused .chargeCreate 16 (short ++ bytes 2 qmin ++ bytes 2 qp) s .badField) ∧
      (¬ordered ∨ ¬tested → Refused .chargeLimits 19 limits s .badField) ∧
      (1000 < qp → Refused .chargeRelease 20 (bytes 2 number ++ bytes 2 qp) s .badField) ∧
      (s.NoCharge number → (ordered → tested → Refused .chargeLimits 19 limits s .noSuch) ∧
        (qp ≤ 1000 → Refused .chargeRelease 20 (bytes 2 number ++ bytes 2 qp) s .noSuch) ∧
        Refused .chargeFeedEnd 21 (bytes 2 number) s .noSuch ∧
        Refused .chargeRetire 22 (bytes 2 number) s .noSuch)) ∧
    (∀ start states filter, start ≤ 65535 → states ≤ 255 → filter ≤ 255 →
      states = 0 ∨ 31 < states ∨ 1 < filter →
      Refused .chargeList 18 (bytes 2 start ++ bytes 1 states ++ bytes 1 filter) s .badField)) ∧
    ((∀ code (e : Species), code ≤ 255 → e.group ≤ 255 → e.name.length = 8 →
      (∀ k ∈ [e.meter, e.probe], k.slope ≤ 65535 ∧ -32768 ≤ k.offset ∧ k.offset ≤ 32767 ∧ k.coeff ≤ 255) →
      15 < code ∨ 7 < e.group ∨ (∃ b ∈ e.name, b.toNat < 32 ∨ 126 < b.toNat) ∨
        (∃ k ∈ [e.meter, e.probe], k.slope = 0 ∨ 4095 < k.slope ∨ k.offset < -500 ∨ 500 < k.offset) →
      Refused .speciesSet 32 (bytes 1 code ++ bytes 1 e.group ++ e.name ++
        bytes 2 e.meter.slope ++ signedBytes 2 e.meter.offset ++ bytes 1 e.meter.coeff ++
        bytes 2 e.probe.slope ++ signedBytes 2 e.probe.offset ++ bytes 1 e.probe.coeff) s .badField) ∧
    (∀ code source raw (temp : Int) d t w, code ≤ 255 → source ≤ 255 → raw ≤ 65535 → -32768 ≤ temp →
      temp ≤ 32767 → (∀ x ∈ [d, t, w], x ≤ 65535) →
      let short := bytes 1 code ++ bytes 1 source ++ bytes 2 raw ++ signedBytes 2 temp
      let bad := 15 < code ∨ (source ≠ 1 ∧ source ≠ 2) ∨ 4095 < raw ∨
        (source = 1 ∧ (temp < -128 ∨ 127 < temp)) ∨ (source = 2 ∧ (temp < -400 ∨ 1500 < temp))
      (bad → Refused .mcTest 34 short s .badField) ∧
      (bad ∨ ¬(d < t ∧ t < w ∧ w ≤ 600) →
        Refused .mcTest 34 (short ++ bytes 2 d ++ bytes 2 t ++ bytes 2 w) s .badField)) ∧
    (∀ n i j target depression ramp kind threshold duration action (before after : List Byte), n ≤ 255 →
      (∀ x ∈ [target, depression, threshold, duration], x ≤ 65535) → (∀ x ∈ [ramp, kind, action], x ≤ 255) →
      before.length = 11 * i → after.length = 11 * j → i + 1 + j ≤ 22 →
      let part := bytes 2 target ++ bytes 2 depression ++ bytes 1 ramp ++ bytes 1 kind ++
        bytes 2 threshold ++ bytes 2 duration ++ bytes 1 action
      let badStep := target < 200 ∨ 1300 < target ∨ 400 < depression ∨ 100 < ramp ∨ kind = 0 ∨ 3 < kind ∨
        duration = 0 ∨ (kind ≠ 1 ∧ (600 < threshold ∨ action = 0 ∨ 2 < action))
      let badNumber := n = 0 ∨ 32 < n
      (badNumber ∨ 16 < i + 1 + j ∨ badStep →
        Refused .schedDefine 48 (bytes 1 n ++ bytes 1 (i + 1 + j) ++ before ++ part ++ after) s .badField) ∧
      Refused .schedDefine 48 (bytes 1 n ++ [0]) s .badField ∧
      ∀ index ≤ 255, badNumber ∨ 15 < index ∨ badStep →
        Refused .schedAmend 49 (bytes 1 n ++ bytes 1 index ++ part) s .badField) ∧
    ∀ n number k, n ≤ 255 → number ≤ 65535 → k ≤ 255 →
      let badNumber := n = 0 ∨ 12 < n
      (badNumber ∨ k = 0 ∨ 32 < k →
        Refused .chamberLoad 64 (bytes 1 n ++ bytes 2 number ++ bytes 1 k) s .badField) ∧
      (badNumber → ∀ r ∈ ([(.chamberStart, 65), (.chamberHold, 66), (.chamberResume, 67),
          (.chamberSkip, 68), (.chamberReload, 69), (.chamberAbort, 70), (.chamberUnload, 71),
          (.chamberRead, 72)] : List ((Byte → List Byte → Instr) × Byte)),
        Refused r.1 r.2 (bytes 1 n) s .badField))

/-- The 24 fixed bytes of PART_IDENT, and the refusal of any other length (R180). -/
def Obligations.PartIdentReportsTheFixedCapacities : Prop :=
  ∀ s : State, s.linkReady = true →
    Answers .partIdent 1 [] s .ok
      [9, 2, 2, 128, 1, 12, 32, 16, 8, 16, 64, 32, 16, 2, 48, 48, 4, 16, 2, 40, 12, 48, 8, 250] s ∧
    ∀ p, p ≠ [] → p.length ≤ 250 → Refused .partIdent 1 p s .badLength

/-- Tier 2. A link command's bytes decode to it, and every transfer is the bytes of the well-formed
command it decodes to (R173 to R177, R182). That a transfer is its complete bytes, and which part row a
PLAN_LOAD or TEMPLATE_LOAD transfer decodes to, is the model's (assumption 7). -/
def Obligations.TransfersDecodeToTheCommandsTheyEncode : Prop :=
  (∀ c bs, c.wellFormed = true → encodeTransfer c = some bs → decodeTransfer bs = c) ∧
  ∀ bs, encodeTransfer (decodeTransfer bs) = some bs ∧ (decodeTransfer bs).wellFormed = true

/-! ## Charges (R1 to R20) -/

/-- CHARGE_CREATE with 11 or 15 bytes takes the lowest free slot; with either, a number already live is
DUPLICATE, and a full table FULL (R5). -/
def Obligations.ChargeCreateFillsTheLowestFreeSlot : Prop :=
  ∀ (s : State) number species d t w loaded, s.linkReady = true → 1 ≤ number → number ≤ 65535 →
    species ≤ 15 → d < t → t < w → w ≤ 600 → loaded ≤ 65535 →
    let short := bytes 2 number ++ bytes 1 species ++ bytes 2 d ++ bytes 2 t ++ bytes 2 w ++ bytes 2 loaded
    let new (qmin qp : Nat) : Charge :=
      { number := number, species := species, dry := d, target := t, wet := w, qmin := qmin, qp := qp
        loaded := if loaded = 0 then none else some loaded
        state := .staged, chamber := none, estMean := none, estWettest := none
        seen := 0, measured := 0, unmeasured := 0, wetCount := 0, overdry := 0, mcSum := 0
        lowest := none, highest := none, winMeasured := 0, winWet := 0
        quarantined := false, transitRef := 0, packRef := 0 }
    (∀ slot, s.NoCharge number → LowestFree s.charges slot →
      Answers .chargeCreate 16 short s .ok (bytes 1 slot) (s.withCharge slot (new 50 1000)) ∧
      ∀ qmin qp, 20 ≤ qmin → qmin ≤ 1000 → qp ≤ 1000 →
        Answers .chargeCreate 16 (short ++ bytes 2 qmin ++ bytes 2 qp) s .ok (bytes 1 slot)
          (s.withCharge slot (new qmin qp))) ∧
    ∀ payload, (payload = short ∨ ∃ qmin qp, 20 ≤ qmin ∧ qmin ≤ 1000 ∧ qp ≤ 1000 ∧
        payload = short ++ bytes 2 qmin ++ bytes 2 qp) →
      (∀ slot c, s.charge? slot = some c → c.number = number →
        Refused .chargeCreate 16 payload s .duplicate) ∧
      (s.NoCharge number → (∀ o ∈ s.charges, o ≠ none) → Refused .chargeCreate 16 payload s .full)

/-- CHARGE_READ reports every field of the charge at its width, absent values as R6 gives them, and the
boards remaining (R6). CHARGE_LIST reports the first 40 of the matching charges in ascending number, and
the number of the 41st (R7). That a list entry codes its state and flag as CHARGE_READ does is the model's
reading (assumption 21). -/
def Obligations.ChargeReadAndListReport : Prop :=
  (∀ (s : State) n, s.linkReady = true → n ≤ 65535 →
    (∀ slot c, s.OnlyCharge n slot c →
      Answers .chargeRead 17 (bytes 2 n) s .ok
        (bytes 2 n ++ bytes 1 slot ++ bytes 1 c.species ++
          bytes 2 c.dry ++ bytes 2 c.target ++ bytes 2 c.wet ++ bytes 2 c.qmin ++ bytes 2 c.qp ++
          bytes 2 (c.loaded.getD 0) ++
          bytes 1 (match c.state with | .staged => 1 | .kiln => 2 | .dried => 3 | .inFeed => 4 | .fed => 5) ++
          bytes 1 (c.chamber.getD 0) ++ flagByte c.quarantined ++
          bytes 2 (c.estMean.getD 65535) ++ bytes 2 (c.estWettest.getD 65535) ++
          bytes 3 c.seen ++ bytes 3 c.measured ++ bytes 3 c.unmeasured ++ bytes 3 c.wetCount ++
          bytes 3 c.overdry ++ bytes 5 c.mcSum ++
          bytes 2 (c.lowest.getD 65535) ++ bytes 2 (c.highest.getD 65535) ++
          bytes 3 c.winMeasured ++ bytes 3 c.winWet ++ bytes 1 c.transitRef ++ bytes 1 c.packRef ++
          bytes 3 (match c.loaded with
            | none => 16777215
            | some l => if c.seen < l then l - c.seen else 0)) s) ∧
    (s.NoCharge n → Refused .chargeRead 17 (bytes 2 n) s .noSuch)) ∧
  (∀ (s : State) start states filter, s.linkReady = true → start ≤ 65535 → 1 ≤ states → states ≤ 31 →
    filter ≤ 1 →
    let code (c : Charge) : Nat := match c.state with
      | .staged => 1 | .kiln => 2 | .dried => 3 | .inFeed => 4 | .fed => 5
    ∃ shown rest : List (Nat × Charge), (shown ++ rest).Nodup ∧
      (∀ i c, (i, c) ∈ shown ++ rest ↔ s.charge? i = some c ∧ start ≤ c.number ∧
        states.testBit (code c - 1) = true ∧ (filter = 0 ∨ c.quarantined = true)) ∧
      (shown ++ rest).Pairwise (fun a b => a.2.number ≤ b.2.number) ∧
      shown.length = min 40 (shown ++ rest).length ∧
      Answers .chargeList 18 (bytes 2 start ++ bytes 1 states ++ bytes 1 filter) s .ok
        (bytes 1 shown.length ++ bytes 2 (match rest with | [] => 0 | x :: _ => x.2.number) ++
          shown.flatMap (fun x => bytes 2 x.2.number ++ bytes 1 x.1 ++ bytes 1 (code x.2) ++
            flagByte x.2.quarantined)) s)

/-- CHARGE_LIMITS replaces five fields and CHARGE_RELEASE ends a quarantine; nothing else of the charge
changes (R8, R20). -/
def Obligations.ChargeLimitsAndRelease : Prop :=
  ∀ (s : State) n slot c, s.linkReady = true → n ≤ 65535 → s.OnlyCharge n slot c →
    (∀ d t w qmin qp, d < t → t < w → w ≤ 600 → 20 ≤ qmin → qmin ≤ 1000 → qp ≤ 1000 →
      Answers .chargeLimits 19
        (bytes 2 n ++ bytes 2 d ++ bytes 2 t ++ bytes 2 w ++ bytes 2 qmin ++ bytes 2 qp) s .ok []
        (s.withCharge slot { c with dry := d, target := t, wet := w, qmin := qmin, qp := qp })) ∧
    (∀ qp ≤ 1000, c.quarantined = true →
      Answers .chargeRelease 20 (bytes 2 n ++ bytes 2 qp) s .ok []
        (s.withCharge slot { c with quarantined := false, qp := qp, winMeasured := 0, winWet := 0 })) ∧
    (∀ qp ≤ 1000, c.quarantined = false →
      Refused .chargeRelease 20 (bytes 2 n ++ bytes 2 qp) s .wrongState)

/-- CHARGE_FEED_END makes a DRIED or IN_FEED charge FED, and CHARGE_RETIRE frees the slot of a STAGED or
FED charge with both references 0; each refusal as its rule gives it (R9, R10). -/
def Obligations.ChargeFeedEndAndRetire : Prop :=
  ∀ (s : State) n slot c, s.linkReady = true → n ≤ 65535 → s.OnlyCharge n slot c →
    (c.state = .dried ∨ c.state = .inFeed →
      Answers .chargeFeedEnd 21 (bytes 2 n) s .ok [] (s.withCharge slot { c with state := .fed })) ∧
    (c.state = .staged ∨ c.state = .kiln ∨ c.state = .fed →
      Refused .chargeFeedEnd 21 (bytes 2 n) s .wrongState) ∧
    (c.state = .staged ∨ c.state = .fed → c.transitRef = 0 → c.packRef = 0 →
      Answers .chargeRetire 22 (bytes 2 n) s .ok [] { s with charges := s.charges.set slot none }) ∧
    (c.state = .staged ∨ c.state = .fed → 0 < c.transitRef ∨ 0 < c.packRef →
      Refused .chargeRetire 22 (bytes 2 n) s .inUse) ∧
    (c.state = .kiln ∨ c.state = .dried ∨ c.state = .inFeed →
      Refused .chargeRetire 22 (bytes 2 n) s .wrongState)

/-! ## Moisture (R21 to R39) -/

/-- SPECIES_SET replaces the whole entry, SPECIES_READ reports an entry in the payload of SPECIES_SET, and
both refuse a code above 15 (R22, R23). -/
def Obligations.SpeciesSetReplacesAndReadReports : Prop :=
  ∀ (s : State) code (e : Species), s.linkReady = true → code ≤ 255 → e.name.length = 8 →
    1 ≤ e.meter.slope → e.meter.slope ≤ 4095 → -500 ≤ e.meter.offset → e.meter.offset ≤ 500 →
    e.meter.coeff ≤ 255 → 1 ≤ e.probe.slope → e.probe.slope ≤ 4095 → -500 ≤ e.probe.offset →
    e.probe.offset ≤ 500 → e.probe.coeff ≤ 255 → e.group ≤ 7 →
    (∀ b ∈ e.name, 32 ≤ b.toNat ∧ b.toNat ≤ 126) →
    let payload (e : Species) : List Byte := bytes 1 code ++ bytes 1 e.group ++ e.name ++
      bytes 2 e.meter.slope ++ signedBytes 2 e.meter.offset ++ bytes 1 e.meter.coeff ++
      bytes 2 e.probe.slope ++ signedBytes 2 e.probe.offset ++ bytes 1 e.probe.coeff
    (code ≤ 15 → Answers .speciesSet 32 (payload e) s .ok [] { s with species := s.species.set code e }) ∧
    (∀ old, s.species[code]? = some old → code ≤ 15 →
      Answers .speciesRead 33 (bytes 1 code) s .ok (payload old) s) ∧
    (15 < code → Refused .speciesSet 32 (payload e) s .badField ∧
      Refused .speciesRead 33 (bytes 1 code) s .badField)

/-- MC_TEST computes one reading: the temperature, the three stages and the class, as R26 to R30 round
and clamp them, or an unmeasured reading for 4095 (R25 to R30, R38, R39). -/
def Obligations.McTestReportsEveryStage : Prop :=
  ∀ (s : State) code (e : Species) raw (temp : Int) (meter : Bool), s.linkReady = true → code ≤ 15 →
    s.species[code]? = some e → raw ≤ 4095 →
    (if meter then -128 ≤ temp ∧ temp ≤ 127 else -400 ≤ temp ∧ temp ≤ 1500) →
    ∃ (t m1 corr m2 : Int) (mc mark : Nat),
      let k := if meter then e.meter else e.probe
      let whole : Int := if meter then temp
        else if temp < 0 then -((temp.natAbs + 5) / 10 : Nat) else ((temp.natAbs + 5) / 10 : Nat)
      let head := bytes 1 code ++ bytes 1 (if meter then 1 else 2) ++ bytes 2 raw ++ signedBytes 2 temp
      let answer (cls : Nat) := signedBytes 1 t ++ signedBytes 2 m1 ++ signedBytes 2 corr ++
        signedBytes 2 m2 ++ bytes 2 mc ++ bytes 1 mark ++ bytes 1 cls
      t = max (-20) (min 99 whole) ∧
      (raw = 4095 → m1 = 0 ∧ corr = 0 ∧ m2 = 0 ∧ mc = 65535 ∧ mark = 3) ∧
      (raw < 4095 → m1 = ((raw * k.slope + 512) / 1024 : Nat) + k.offset ∧
        corr.natAbs = (((k.coeff : Int) * (t - 20)).natAbs + 8) / 16 ∧
        (20 ≤ t → 0 ≤ corr) ∧ (t < 20 → corr ≤ 0) ∧ m2 = m1 - corr ∧
        (mc : Int) = max 0 (min 600 m2) ∧ mark = if m2 < 0 then 1 else if 600 < m2 then 2 else 0) ∧
      Answers .mcTest 34 head s .ok (answer 0) s ∧
      ∀ d tg w, d < tg → tg < w → w ≤ 600 →
        Answers .mcTest 34 (head ++ bytes 2 d ++ bytes 2 tg ++ bytes 2 w) s .ok
          (answer (if raw = 4095 then 4 else if w ≤ mc then 2 else if mc < d then 3 else 1)) s

/-- The kiln estimate of R33 on the probes whose mark is none (R32): the mean is the nearest whole tenth,
a half rounded up, the wettest is the largest, and both are absent when no probe is valid. -/
def Obligations.KilnEstimateIsRoundedMeanAndMaximum : Prop :=
  ∀ l : List ProbeResult, (∀ p ∈ l, p.mark = .none → p.mc.isSome = true) →
    let valid := (l.filter (fun p => p.mark = .none)).map (fun p => p.mc.getD 0)
    (valid = [] → estimateMean l = none ∧ estimateWettest l = none) ∧
    (valid ≠ [] → ∃ mean wettest, estimateMean l = some mean ∧ estimateWettest l = some wettest ∧
      2 * valid.sum < (2 * mean + 1) * valid.length ∧ (2 * mean) * valid.length ≤ 2 * valid.sum + valid.length ∧
      wettest ∈ valid ∧ ∀ m ∈ valid, m ≤ wettest)

/-! ## Schedules (R40 to R54) -/

/-- SCHED_DEFINE defines an undefined slot at revision 1, replaces a schedule that no chamber names and
raises its revision, and is refused IN_USE while a chamber names it (R44, R45, R46). -/
def Obligations.SchedDefineCreatesOrReplaces : Prop :=
  ∀ (s : State) n steps parts, s.linkReady = true → 1 ≤ n → n ≤ 32 → 1 ≤ steps.length →
    steps.length ≤ 16 → List.Forall₂ SendsStep steps parts →
    let payload := bytes 1 n ++ bytes 1 steps.length ++ parts.flatten
    (s.schedule? n = none →
      Answers .schedDefine 48 payload s .ok [0, 1] (s.setSchedule n (some ⟨1, steps, 0⟩))) ∧
    (∀ sc, s.schedule? n = some sc → sc.refCount = 0 →
      Answers .schedDefine 48 payload s .ok (bytes 2 ((sc.revision + 1) % 65536))
        (s.setSchedule n (some ⟨(sc.revision + 1) % 65536, steps, 0⟩))) ∧
    (∀ sc, s.schedule? n = some sc → 0 < sc.refCount → Refused .schedDefine 48 payload s .inUse)

/-- SCHED_AMEND replaces one step of a defined schedule and raises its revision, whatever its reference
count; a step or schedule that does not exist is NO_SUCH (R46, R47). SCHED_READ reports a schedule in
5 + 11 × step count bytes, and SCHED_DELETE removes a schedule that no chamber names; both with their
refusals (R48, R49). -/
def Obligations.SchedAmendReadAndDelete : Prop :=
  (∀ (s : State) n i step part, s.linkReady = true → 1 ≤ n → n ≤ 32 → i ≤ 15 → SendsStep step part →
    let payload := bytes 1 n ++ bytes 1 i ++ part
    (∀ sc, s.schedule? n = some sc → i < sc.steps.length →
      Answers .schedAmend 49 payload s .ok (bytes 2 ((sc.revision + 1) % 65536))
        (s.setSchedule n (some ⟨(sc.revision + 1) % 65536, sc.steps.set i step, sc.refCount⟩))) ∧
    (∀ sc, s.schedule? n = some sc → sc.steps.length ≤ i → Refused .schedAmend 49 payload s .noSuch) ∧
    (s.schedule? n = none → Refused .schedAmend 49 payload s .noSuch)) ∧
  (∀ (s : State) n, s.linkReady = true → n ≤ 255 →
    (∀ sc, 1 ≤ n → n ≤ 32 → s.schedule? n = some sc →
      Answers .schedRead 50 (bytes 1 n) s .ok
        (bytes 1 n ++ bytes 2 sc.revision ++ bytes 1 sc.steps.length ++ bytes 1 sc.refCount ++
          sc.steps.flatMap (fun t => bytes 2 t.dryTarget ++ bytes 2 t.depression ++ bytes 1 t.ramp ++
            bytes 1 (match t.kind with | .time => 1 | .meanBelow => 2 | .wettestBelow => 3) ++
            bytes 2 t.threshold ++ bytes 2 t.duration ++
            bytes 1 (match t.onLimit with | .advance => 1 | .hold => 2))) s ∧
      (sc.refCount = 0 → Answers .schedDelete 51 (bytes 1 n) s .ok [] (s.setSchedule n none)) ∧
      (0 < sc.refCount → Refused .schedDelete 51 (bytes 1 n) s .inUse)) ∧
    (1 ≤ n → n ≤ 32 → s.schedule? n = none →
      Refused .schedRead 50 (bytes 1 n) s .noSuch ∧ Refused .schedDelete 51 (bytes 1 n) s .noSuch) ∧
    (n = 0 ∨ 32 < n →
      Refused .schedRead 50 (bytes 1 n) s .badField ∧ Refused .schedDelete 51 (bytes 1 n) s .badField))

/-! ## Chambers (R55 to R78) -/

/-- CHAMBER_LOAD puts a STAGED charge into an EMPTY chamber on a defined schedule, and is refused
otherwise (R68, R11, R50). -/
def Obligations.ChamberLoadTakesAStagedCharge : Prop :=
  ∀ (s : State) n number k c, s.linkReady = true → s.Settled → 1 ≤ n → n ≤ 12 → number ≤ 65535 →
    1 ≤ k → k ≤ 32 → s.chamber? n = some c →
    let payload := bytes 1 n ++ bytes 2 number ++ bytes 1 k
    (∀ slot ch sc, s.OnlyCharge number slot ch → s.schedule? k = some sc →
      (c.state = .empty → ch.state = .staged →
        Answers .chamberLoad 64 payload s .ok []
          (((s.setChamber n
            { state := .loaded, chargeSlot := some slot, schedule := some k, run := none
              causes := ⟨false, false, false, false⟩, lastAdvance := .none, lastScan := none, probes := []
              estMean := none, estWettest := none, limitDue := false }).setSchedule k
              (some { sc with refCount := sc.refCount + 1 })).withCharge slot
              { ch with state := .kiln, chamber := some n })) ∧
      (c.state ≠ .empty ∨ ch.state ≠ .staged → Refused .chamberLoad 64 payload s .wrongState)) ∧
    (s.NoCharge number ∨ s.schedule? k = none → Refused .chamberLoad 64 payload s .noSuch)

/-- CHAMBER_START loads step 0 and sets the starting setpoints from the last scan, or from the target
without one; it is refused unless the chamber is LOADED (R70). -/
def Obligations.ChamberStartLoadsTheFirstStep : Prop :=
  ∀ (s : State) n c, s.linkReady = true → s.Settled → 1 ≤ n → n ≤ 12 → s.chamber? n = some c →
    (∀ k sc u, c.state = .loaded → c.schedule = some k → s.schedule? k = some sc → sc.steps[0]? = some u →
      let dry := match c.lastScan with
        | none => u.dryTarget
        | some q => (max 200 (min 1300 q.dry)).toNat
      Answers .chamberStart 65 (bytes 1 n) s .ok (bytes 2 sc.revision)
        (s.setChamber n { c with
          run := some ⟨0, sc.revision, u, 0, u.duration, dry, dry - u.depression⟩
          state := if c.causes = ⟨false, false, false, false⟩ then .running else .hold })) ∧
    (c.state ≠ .loaded → Refused .chamberStart 65 (bytes 1 n) s .wrongState)

/-- CHAMBER_HOLD adds REQUEST, and CHAMBER_RESUME removes REQUEST and STEP_LIMIT and extends the working
limit after a step limit; the state is re-formed by the causes that remain (R57, R71, R72). That a TIME step
is extended too is the model's reading of R72 against R42 and R64 (assumption 19). -/
def Obligations.ChamberHoldAndResume : Prop :=
  ∀ (s : State) n c, s.linkReady = true → s.Settled → 1 ≤ n → n ≤ 12 → s.chamber? n = some c →
    (c.state = .running ∨ c.state = .hold →
      Answers .chamberHold 66 (bytes 1 n) s .ok []
        (s.setChamber n { c with state := .hold, causes := { c.causes with request := true } }) ∧
      (c.causes.request = true ∨ c.causes.stepLimit = true →
        Answers .chamberResume 67 (bytes 1 n) s .ok
          (bytes 1 (2 * c.causes.line.toNat + 4 * c.causes.module.toNat))
          (s.setChamber n { c with
            state := if c.causes.line = false ∧ c.causes.module = false then .running else .hold
            causes := { c.causes with request := false, stepLimit := false }
            run := if c.causes.stepLimit then
                c.run.map (fun r => { r with limit := min 16777215 (r.limit + r.step.duration) })
              else c.run })) ∧
      (c.causes.request = false → c.causes.stepLimit = false →
        Refused .chamberResume 67 (bytes 1 n) s .wrongState)) ∧
    (c.state ≠ .running → c.state ≠ .hold →
      Refused .chamberHold 66 (bytes 1 n) s .wrongState ∧ Refused .chamberResume 67 (bytes 1 n) s .wrongState)

/-- CHAMBER_SKIP advances the step with last advance SKIPPED after STEP_LIMIT has left the hold causes,
and answers the chamber's state and step index after it (R73, R66). -/
def Obligations.ChamberSkipAdvancesTheStep : Prop :=
  ∀ (s : State) n c, s.linkReady = true → s.Settled → 1 ≤ n → n ≤ 12 → s.chamber? n = some c →
    (c.state = .running ∨ c.state = .hold → ∀ k sc r slot ch, c.schedule = some k →
      s.schedule? k = some sc → c.run = some r → c.chargeSlot = some slot → s.charge? slot = some ch →
      let free := c.causes.request = false ∧ c.causes.line = false ∧ c.causes.module = false
      let c' : Chamber := { c with
        state := if free then .running else .hold, causes := { c.causes with stepLimit := false } }
      ∃ t, AdvanceLeaves s n c' .skipped t ∧
        Answers .chamberSkip 68 (bytes 1 n) s .ok
          (if r.index + 1 < sc.steps.length then
            bytes 1 (if free then 2 else 3) ++ bytes 1 (r.index + 1)
          else bytes 1 4 ++ bytes 1 r.index) t) ∧
    (c.state ≠ .running → c.state ≠ .hold → Refused .chamberSkip 68 (bytes 1 n) s .wrongState)

/-- CHAMBER_RELOAD takes the current step afresh and keeps the elapsed minutes; CHAMBER_ABORT makes any
chamber but an EMPTY one ABORTED and keeps its record (R74, R75, R54). -/
def Obligations.ChamberReloadAndAbort : Prop :=
  ∀ (s : State) n c, s.linkReady = true → s.Settled → 1 ≤ n → n ≤ 12 → s.chamber? n = some c →
    (c.state = .running ∨ c.state = .hold → ∀ k sc r u, c.schedule = some k → s.schedule? k = some sc →
      c.run = some r → sc.steps[r.index]? = some u →
      Answers .chamberReload 69 (bytes 1 n) s .ok (bytes 2 sc.revision)
        (s.setChamber n { c with
          run := some { r with revision := sc.revision, step := u, limit := u.duration } })) ∧
    (c.state ≠ .running → c.state ≠ .hold → Refused .chamberReload 69 (bytes 1 n) s .wrongState) ∧
    (c.state = .loaded ∨ c.state = .running ∨ c.state = .hold ∨ c.state = .complete →
      Answers .chamberAbort 70 (bytes 1 n) s .ok []
        (s.setChamber n { c with
          state := .aborted, causes := { c.causes with request := false, stepLimit := false } })) ∧
    (c.state = .aborted → Answers .chamberAbort 70 (bytes 1 n) s .ok [] s) ∧
    (c.state = .empty → Refused .chamberAbort 70 (bytes 1 n) s .wrongState)

/-- CHAMBER_UNLOAD returns the chamber to a reset record, lowers its schedule's reference count and
makes its charge DRIED from COMPLETE and STAGED otherwise (R76, R12, R50). -/
def Obligations.ChamberUnloadReturnsTheCharge : Prop :=
  ∀ (s : State) n c, s.linkReady = true → s.Settled → 1 ≤ n → n ≤ 12 → s.chamber? n = some c →
    (c.state = .loaded ∨ c.state = .complete ∨ c.state = .aborted → ∀ k sc slot ch,
      c.schedule = some k → s.schedule? k = some sc → c.chargeSlot = some slot → s.charge? slot = some ch →
      Answers .chamberUnload 71 (bytes 1 n) s .ok []
        (((s.setChamber n
          { state := .empty, chargeSlot := none, schedule := none, run := none
            causes := ⟨false, false, false, false⟩, lastAdvance := .none, lastScan := none, probes := []
            estMean := none, estWettest := none, limitDue := false }).setSchedule k
            (some { sc with refCount := sc.refCount - 1 })).withCharge slot
            { ch with state := if c.state = .complete then .dried else .staged, chamber := none })) ∧
    (c.state = .empty ∨ c.state = .running ∨ c.state = .hold →
      Refused .chamberUnload 71 (bytes 1 n) s .wrongState)

/-- CHAMBER_READ reports every field of the chamber at its width, absent values as R77 gives them (R77).
That the module status and the probe count are 0 while no last scan is held, and every position lies
beyond the probe count then, is the model's choice (assumption 20). -/
def Obligations.ChamberReadReportsTheRecord : Prop :=
  ∀ (s : State) n c, s.linkReady = true → s.Settled → 1 ≤ n → n ≤ 12 → s.chamber? n = some c →
    Answers .chamberRead 72 (bytes 1 n) s .ok
      (bytes 1 n ++
        bytes 1 (match c.state with
          | .empty => 0 | .loaded => 1 | .running => 2 | .hold => 3 | .complete => 4 | .aborted => 5) ++
        bytes 2 (match c.chargeSlot.bind s.charge? with | none => 0 | some ch => ch.number) ++
        bytes 1 (c.chargeSlot.getD 255) ++ bytes 1 (c.schedule.getD 0) ++
        (match c.run with
          | none => 255 :: List.replicate 23 0
          | some r => bytes 1 r.index ++ bytes 2 r.revision ++ bytes 2 r.step.dryTarget ++
              bytes 2 r.step.depression ++ bytes 1 r.step.ramp ++
              bytes 1 (match r.step.kind with | .time => 1 | .meanBelow => 2 | .wettestBelow => 3) ++
              bytes 2 r.step.threshold ++ bytes 2 r.step.duration ++
              bytes 1 (match r.step.onLimit with | .advance => 1 | .hold => 2) ++
              bytes 3 r.elapsed ++ bytes 3 r.limit ++ bytes 2 r.dry ++ bytes 2 r.wet) ++
        bytes 1 (c.causes.request.toNat + 2 * c.causes.line.toNat + 4 * c.causes.module.toNat +
          8 * c.causes.stepLimit.toNat) ++
        bytes 1 (match c.lastAdvance with
          | .none => 0 | .time => 1 | .moisture => 2 | .forced => 3 | .skipped => 4) ++
        (match c.lastScan with
          | none => List.replicate 7 0
          | some q => [1] ++ signedBytes 2 q.dry ++ signedBytes 2 q.wet ++
              bytes 1 (q.status.heatFault.toNat + 2 * q.status.fanFault.toNat + 4 * q.status.ventFault.toNat) ++
              bytes 1 q.count) ++
        (List.range 8).flatMap (fun i => match c.probes[i]? with
          | none => ([255, 255, 255] : List Byte)
          | some r => bytes 2 (r.mc.getD 65535) ++
              bytes 1 (match r.mark with | .none => 0 | .low => 1 | .high => 2 | .unmeasured => 3)) ++
        bytes 2 (c.estMean.getD 65535) ++ bytes 2 (c.estWettest.getD 65535)) s

/-- A minute tick counts one minute in every RUNNING chamber and marks those that reach their working
limit (assumption 2). The second action of the tick on a marked chamber: a TIME step advances, a moisture
step advances by force or holds with STEP_LIMIT as its on-limit action gives; a chamber that has not
reached its limit is left alone (R64, R58; assumption 4). -/
def Obligations.MinuteTicksAndWorkingLimits : Prop :=
  (∀ s : State, s.resetAsserted = false → s.Settled → ∃ t, exec .minuteTick s = .next t ∧
    t = { s with chambers := t.chambers } ∧ t.chambers.length = s.chambers.length ∧
    ∀ n c, s.chamber? n = some c →
      (∀ r, c.state = .running → c.run = some r →
        let e := min 16777215 (r.elapsed + 1)
        t.chamber? n = some { c with run := some { r with elapsed := e }, limitDue := decide (r.limit ≤ e) }) ∧
      (c.state ≠ .running → t.chamber? n = some c)) ∧
  (∀ (s : State) n c r, s.resetAsserted = false → s.chamber? n = some c → c.run = some r →
    (c.limitDue = true → c.state = .running →
      let c' : Chamber := { c with limitDue := false }
      (r.step.kind = .time →
        ∃ t, exec (.workingLimitReached n) s = .next t ∧ AdvanceLeaves s n c' .time t) ∧
      (r.step.kind ≠ .time → r.step.onLimit = .advance →
        ∃ t, exec (.workingLimitReached n) s = .next t ∧ AdvanceLeaves s n c' .forced t) ∧
      (r.step.kind ≠ .time → r.step.onLimit = .hold →
        let held := s.setChamber n { c' with state := .hold, causes := { c.causes with stepLimit := true } }
        exec (.workingLimitReached n) s =
          .next (if c.causes.stepLimit then held else held.raise .kilnFault (.chamber n)))) ∧
    (c.limitDue = false → exec (.workingLimitReached n) s = .next s))

/-! ## The kiln port (R79 to R92, R183) -/

/-- Assumption 2: every command on a chamber or on the kiln port first takes what the part has due at
once, the second actions of the last tick and a deferred round start, so no such command falls between
(R64, R78, R81). What it takes is what WORKING_LIMIT_REACHED does on chambers 1 to 12 in turn and then
DEFERRED_ROUND_START; nothing is due after it, and where nothing is due it changes nothing. -/
def Obligations.KilnCommandsTakeDueActionsFirst : Prop :=
  (∀ s : State, Runs s ((List.range 12).map (fun k => .workingLimitReached (k + 1)) ++ [.deferredRoundStart])
    s.settle) ∧
  (∀ s : State, s.Settled → s.settle = s) ∧
  (∀ s : State, s.resetAsserted = false → s.chambers.length = 12 → s.settle.Settled) ∧
  ∀ (s : State) d b frames, ∀ c ∈ [Instr.chamberLoad d b, .chamberStart d b, .chamberHold d b,
      .chamberResume d b, .chamberSkip d b, .chamberReload d b, .chamberAbort d b, .chamberUnload d b,
      .chamberRead d b, .kilnPortSet d b, .kilnPortRead d b, .minuteTick, .roundTimerExpiry, .transaction,
      .scanReply frames, .replyWindowClose frames],
    exec c s = exec c s.settle

/-- KILN_PORT_SET replaces the requested settings alone, or refuses a value outside its range, and
KILN_PORT_READ reports the controller's records (R90, R91). -/
def Obligations.KilnPortSetAndRead : Prop :=
  ∀ (s : State) period window limit, s.linkReady = true → s.Settled → period ≤ 65535 →
    window ≤ 65535 → limit ≤ 255 →
    let payload := bytes 2 period ++ bytes 2 window ++ bytes 1 limit
    let inRange := 10 ≤ period ∧ period ≤ 600 ∧ 20 ≤ window ∧ window ≤ 500 ∧ 1 ≤ limit ∧ limit ≤ 15
    (inRange → Answers .kilnPortSet 80 payload s .ok []
      { s with port := { s.port with requested := ⟨period, window, limit⟩ } }) ∧
    (¬inRange → Refused .kilnPortSet 80 payload s .badField) ∧
    Answers .kilnPortRead 81 [] s .ok
      (bytes 2 s.port.inForce.period ++ bytes 2 s.port.inForce.window ++ bytes 1 s.port.inForce.missLimit ++
        bytes 2 s.port.requested.period ++ bytes 2 s.port.requested.window ++
        bytes 1 s.port.requested.missLimit ++ bytes 1 (if s.port.round = .idle then 0 else 1) ++
        bytes 1 (if s.port.startPending then 1 else 0) ++
        bytes 1 (match s.port.transaction with | none => 0 | some t => t.chamber) ++
        bytes 2 s.port.lost ++
        s.port.modules.flatMap (fun m => bytes 1 m.misses ++ bytes 1 (match m.outcome with
          | .none => 0 | .accepted => 1 | .noReply => 2 | .characterError => 3 | .badLength => 4
          | .wrongAddress => 5 | .outOfRange => 6))) s

/-- An expiry of the round timer starts a round in IDLE and is kept once in POLLING, and a deferred start
is made without restarting the timer; a round of no chamber ends at once (R80, R81, R82). A deferred start
that is not due changes nothing (assumption 4). -/
def Obligations.RoundsStartOrAreDeferred : Prop :=
  ∀ s : State, s.resetAsserted = false → ∃ snap, s.Polled snap ∧
    let begun : Port := { s.port with
      inForce := s.port.requested, round := if snap = [] then .idle else .polling, snapshot := snap
      turn := if snap = [] then none else some 0 }
    (s.Settled →
      (s.port.round = .idle → exec .roundTimerExpiry s =
        .next { s with port := { begun with roundTimer := some s.port.requested.period } }) ∧
      (s.port.round = .polling → s.port.startPending = false → exec .roundTimerExpiry s =
        .next { s with port := { s.port with
          startPending := true, roundTimer := some s.port.inForce.period } }) ∧
      (s.port.round = .polling → s.port.startPending = true → exec .roundTimerExpiry s =
        .next { s with port := { s.port with
          lost := min 65535 (s.port.lost + 1), roundTimer := some s.port.inForce.period } })) ∧
    (s.port.round = .idle → s.port.startPending = true →
      exec .deferredRoundStart s = .next { s with port := { begun with startPending := false } }) ∧
    (s.port.round = .polling ∨ s.port.startPending = false → exec .deferredRoundStart s = .next s)

/-- The turn of a chamber: an EMPTY one is skipped, a RUNNING one has its setpoints ramped and sent, a
HOLD one sends them as they stand and any other sends OFF; SETPOINT_SENT then opens the reply window. While
the message is being sent its 7 characters stand on KILN_TX, each with its start bit, data bits, even
parity and stop bit (R59, R62, R82, R83, R183). The message is a field of the model's (assumption 9), and the
levels of the start and stop bits are presumed (assumption 16). -/
def Obligations.TransactionComposesTheSetpoint : Prop :=
  (∀ (s : State) k n c, s.resetAsserted = false → s.Settled → s.port.round = .polling →
    s.port.transaction = none → s.port.turn = some k → s.port.snapshot[k]? = some n →
    s.chamber? n = some c →
    (c.state = .empty → exec .transaction s = .next { s with port := s.port.turnOver k }) ∧
    (∀ r, c.state = .running → c.run = some r →
      ∃ a : Nat, (r.step.ramp = 0 ∨ (r.dry ≤ r.step.dryTarget + r.step.ramp ∧
            r.step.dryTarget ≤ r.dry + r.step.ramp) → a = r.step.dryTarget) ∧
        (0 < r.step.ramp → r.dry + r.step.ramp < r.step.dryTarget → a = r.dry + r.step.ramp) ∧
        (0 < r.step.ramp → r.step.dryTarget + r.step.ramp < r.dry → a = r.dry - r.step.ramp) ∧
        exec .transaction s = .next { s.setChamber n
            { c with run := some { r with dry := a, wet := a - r.step.depression } } with
          port := { s.port with
            transaction := some ⟨n, .sending, ⟨.run, a, a - r.step.depression⟩, []⟩ } }) ∧
    (∀ r, c.state = .hold → c.run = some r → exec .transaction s = .next { s with
        port := { s.port with transaction := some ⟨n, .sending, ⟨.hold, r.dry, r.wet⟩, []⟩ } }) ∧
    (c.state = .loaded ∨ c.state = .complete ∨ c.state = .aborted →
      exec .transaction s = .next { s with
        port := { s.port with transaction := some ⟨n, .sending, ⟨.off, 0, 0⟩, []⟩ } })) ∧
  (∀ (s : State) t, s.resetAsserted = false → s.port.transaction = some t → t.phase = .sending →
    s.kilnDir = true ∧
    s.kilnTx = (bytes 1 165 ++ bytes 1 t.chamber ++
      bytes 1 (match t.message.mode with | .off => 0 | .run => 1 | .hold => 2) ++
      bytes 2 t.message.dry ++ bytes 2 t.message.wet).map kilnFrame ∧
    ∃ u, exec .setpointSent s = .next u ∧ u.kilnDir = false ∧ u.kilnTx = [] ∧
      u = { s with port := { s.port with
        transaction := some { t with phase := .listening, received := [] } } }) ∧
  ∀ b : Byte, let f := kilnFrame b
    f.getLsbD 0 = false ∧ (∀ i < 8, f.getLsbD (i + 1) = b.getLsbD i) ∧ f.getLsbD 10 = true ∧
      (List.range 9).countP (fun i => f.getLsbD (i + 1)) % 2 = 0 ∧ kilnChar f = some ⟨b, false⟩

/-- A complete reply without character error, from the addressed module and with temperatures in range,
is accepted: the chamber takes its readings, estimate and hold causes, and a RUNNING chamber whose
estimate has reached the threshold of a moisture step advances (R60, R65, R85, R86, R89, R183). -/
def Obligations.AcceptedScanUpdatesTheChamber : Prop :=
  ∀ (s : State) tr k n c (dry wet : Int) (st : Byte) (readings : List Nat) got frames extra,
    s.resetAsserted = false → s.Settled → s.port.transaction = some tr → tr.phase = .listening →
    tr.chamber = n → n ≤ 12 → tr.received = got → s.port.turn = some k → s.chamber? n = some c →
    -400 ≤ dry → dry ≤ 1500 → -400 ≤ wet → wet ≤ 1500 → readings.length ≤ 8 →
    got ++ kilnChars frames = (bytes 1 n ++ signedBytes 2 dry ++ signedBytes 2 wet ++ [st] ++
      bytes 1 readings.length ++ readings.flatMap (bytes 2)).map (fun b => ⟨b, false⟩) ++ extra →
    let port := s.port.served k n ⟨0, .accepted⟩
    (c.state = .empty → exec (.scanReply frames) s = .next { s with port := port }) ∧
    (∀ slot ch e, c.state ≠ .empty → c.chargeSlot = some slot → s.charge? slot = some ch →
      s.species[ch.species]? = some e →
      let flags : ModuleStatus := ⟨st.getLsbD 0, st.getLsbD 1, st.getLsbD 2⟩
      let probes := readings.map (fun x => probeResult e.probe (probeTemp dry) (x % 4096))
      let fault := flags.heatFault || flags.fanFault || flags.ventFault
      let causes := { c.causes with line := false, module := fault }
      let c' : Chamber := { c with
        state := formedState c.state causes
        causes := causes
        lastScan := some ⟨dry, min wet dry, flags, readings.length⟩
        probes := probes, estMean := estimateMean probes, estWettest := estimateWettest probes }
      let taken := s.setChamber n c'
      let told := if fault && !c.causes.module then taken.raise .kilnFault (.chamber n) else taken
      let reached := c'.state = .running ∧ c.run.any (fun r => match r.step.kind with
        | .time => false
        | .meanBelow => c'.estMean.any (fun m => m ≤ r.step.threshold)
        | .wettestBelow => c'.estWettest.any (fun m => m ≤ r.step.threshold)) = true
      ∃ u, exec (.scanReply frames) s = .next { u with port := port } ∧
        (¬reached → u = told) ∧ (reached → AdvanceLeaves told n c' .moisture u))

/-- A complete reply that is bad, a window that closes without a complete reply, and one that closes
with nothing received are misses: the module counts one more, and at the limit the chamber takes LINE.
Characters outside a window are ignored, and those of an incomplete reply are kept (R84, R85, R87,
R88). The error mark of a character tells that its parity is wrong or its stop bit was not found (R183).
Characters after a complete reply and a window that closes when none is open change nothing (assumptions 4
and 10), and bits without a start bit are no character (assumption 16). -/
def Obligations.BadAndMissingRepliesAreMisses : Prop :=
  (∀ (s : State) tr k c m, s.resetAsserted = false → s.Settled → s.port.transaction = some tr →
    tr.phase = .listening → s.port.turn = some k → s.chamber? tr.chamber = some c →
    s.module tr.chamber = m →
    let miss (o : ReplyOutcome) : Host.Outcome State Fault Refusal :=
      .next { s.missed tr.chamber c (min 255 (m.misses + 1)) with
        port := s.port.served k tr.chamber ⟨min 255 (m.misses + 1), o⟩ }
    (∀ reply extra frames (q : RxChar), tr.received ++ kilnChars frames = reply ++ extra → reply[6]? = some q →
      q.value.toNat ≤ 8 → reply.length = 7 + 2 * q.value.toNat →
      let p := reply.map (·.value)
      let inRange (x : Int) : Prop := -400 ≤ x ∧ x ≤ 1500
      ((∃ ch ∈ reply, ch.error = true) → exec (.scanReply frames) s = miss .characterError) ∧
      ((∀ ch ∈ reply, ch.error = false) → field p 0 1 ≠ tr.chamber →
        exec (.scanReply frames) s = miss .wrongAddress) ∧
      ((∀ ch ∈ reply, ch.error = false) → field p 0 1 = tr.chamber →
        ¬(inRange (signedField p 1 2) ∧ inRange (signedField p 3 2)) →
        exec (.scanReply frames) s = miss .outOfRange)) ∧
    ∀ frames, IncompleteReply (tr.received ++ kilnChars frames) →
      (exec (.scanReply frames) s = .next { s with port := { s.port with
        transaction := some { tr with received := tr.received ++ kilnChars frames } } }) ∧
      (exec (.replyWindowClose frames) s = miss (
        if tr.received ++ kilnChars frames = [] then .noReply
        else if (tr.received ++ kilnChars frames).any (·.error) then .characterError
        else .badLength))) ∧
  (∀ (s : State) frames, s.Settled → (∀ tr, s.port.transaction = some tr → tr.phase = .sending) →
    exec (.scanReply frames) s = .next s ∧ exec (.replyWindowClose frames) s = .next s) ∧
  ∀ f : KilnFrame, (f.getLsbD 0 = true → kilnChar f = none) ∧
    (f.getLsbD 0 = false → ∃ c, kilnChar f = some c ∧ (∀ i < 8, c.value.getLsbD i = f.getLsbD (i + 1)) ∧
      (c.error = true ↔ f.getLsbD 10 = false ∨
        (List.range 9).countP (fun i => f.getLsbD (i + 1)) % 2 = 1))

/-! ## The outfeed (R93 to R113) -/

/-- LINE_SET and DIMENSION_SET replace their whole record while the transit queue is empty, are refused
BAD_FIELD for a value outside its range and BUSY while the queue holds an entry; TRANSIT_READ reports the
records and up to 8 entries from the start index (R108 to R111). -/
def Obligations.LineSettingsAndTransitRead : Prop :=
  ∀ s : State, s.linkReady = true →
    (∀ g : Geometry, g.pairing ≤ 65535 → g.offsets.length = 16 → (∀ o ∈ g.offsets, o ≤ 65535) →
      g.lead ≤ 255 → g.trail ≤ 255 → g.scale ≤ 255 →
      let payload := bytes 2 g.pairing ++ g.offsets.flatMap (bytes 2) ++ bytes 1 g.lead ++
        bytes 1 g.trail ++ bytes 1 g.scale
      let inRange := g.pairing ≠ 0 ∧ g.scale ≠ 0 ∧
        ∀ o ∈ g.offsets, o ≠ 0 ∧ (g.pairing : Int) < (o : Int) - (g.lead : Int)
      (¬inRange → Refused .lineSet 96 payload s .badField) ∧
      (inRange → s.tracker.queue ≠ [] → Refused .lineSet 96 payload s .busy) ∧
      (inRange → s.tracker.queue = [] → Answers .lineSet 96 payload s .ok []
        { s with tracker := { s.tracker with geometry := g } })) ∧
    (∀ d : Dimensions, d.thickness.length = 16 → d.width.length = 16 → d.length.length = 32 →
      (∀ x ∈ d.thickness, x ≤ 255) → (∀ x ∈ d.width, x ≤ 65535) → (∀ x ∈ d.length, x ≤ 255) →
      let payload := d.thickness.flatMap (bytes 1) ++ d.width.flatMap (bytes 2) ++ d.length.flatMap (bytes 1)
      let inRange := (∀ x ∈ d.thickness, 10 ≤ x ∧ x ≤ 200) ∧ (∀ x ∈ d.width, 25 ≤ x ∧ x ≤ 400) ∧
        ∀ x ∈ d.length, 6 ≤ x ∧ x ≤ 80
      (¬inRange → Refused .dimensionSet 97 payload s .badField) ∧
      (inRange → s.tracker.queue ≠ [] → Refused .dimensionSet 97 payload s .busy) ∧
      (inRange → s.tracker.queue = [] → Answers .dimensionSet 97 payload s .ok []
        { s with tracker := { s.tracker with dimensions := d } })) ∧
    ∀ start ≤ 255,
      (31 < start → Refused .transitRead 98 (bytes 1 start) s .badField) ∧
      (start ≤ 31 →
        let t := s.tracker
        let shown := (t.queue.drop start).take 8
        Answers .transitRead 98 (bytes 1 start) s .ok
          (bytes 3 t.position ++ bytes 1 t.edgeSequence ++ bytes 1 t.queue.length ++ bytes 1 start ++
            bytes 1 shown.length ++ bytes 2 t.edgesLost ++ bytes 2 t.orphans ++ bytes 2 t.discarded ++
            shown.flatMap (fun e => bytes 1 e.sequence ++ bytes 3 e.capture ++
              match e.decision with
              | none => ([1, 255, 255, 255, 255, 255, 255, 255, 0, 0, 255, 255, 255, 0, 0, 0, 0, 0, 0, 0] : List Byte)
              | some d => bytes 1 2 ++ bytes 1 (d.chargeSlot.getD 255) ++ bytes 1 (d.grade.getD 255) ++
                  bytes 1 (d.lengthClass.getD 255) ++ bytes 1 (d.widthClass.getD 255) ++
                  bytes 1 (d.thicknessClass.getD 255) ++ bytes 2 (d.mc.getD 65535) ++
                  bytes 1 (match d.moisture with
                    | .pass => 1 | .wet => 2 | .overdry => 3 | .unmeasured => 4) ++
                  bytes 1 (match d.reason with
                    | .data => 1 | .noData => 2 | .unknownCharge => 3 | .quarantine => 4 | .noRule => 5
                    | .packTableFull => 6) ++
                  bytes 1 d.bin ++ bytes 1 d.planSlot ++ bytes 1 (d.packSlot.getD 255) ++
                  bytes 3 d.openPos ++ bytes 3 d.closePos ++ bytes 1 (if d.gateOpen then 1 else 0))) s)

/-- LINE_RESTART removes every entry without delivery: the packs bound to them lose their bound boards and
close, are freed or stay, transit references fall, gates close, a drain ends without PLAN, and the edge
numbering restarts; nothing else changes (R112, R128, R149, R15). -/
def Obligations.LineRestartEmptiesTheLine : Prop :=
  ∀ s : State, s.linkReady = true →
    (∀ p, p ≠ [] → p.length ≤ 250 → Refused .lineRestart 99 p s .badLength) ∧
    (PacksOk s → ∃ t, Answers .lineRestart 99 [] s .ok (bytes 1 s.tracker.queue.length) t ∧
      let marked (p : Pack) : Bool := p.quarantine || p.quarantineMix
      let bound := (s.tracker.queue.filterMap (fun e => e.decision.bind (·.packSlot))).dedup
      let closing := bound.filterMap (fun k => (s.pack? k).bind (fun p =>
        if p.state = .closing ∧ 0 < p.pieces then some (k, p) else none))
      let restarted (p : PlanSlot) : PlanSlot :=
        if p.role = .draining then ⟨.shadow, none, 0⟩ else { p with decided := 0 }
      t = { s with
        tracker := { s.tracker with queue := [], edgeSequence := 0, receiver := none }
        sorter := ⟨restarted s.sorter.slot0, restarted s.sorter.slot1, List.replicate 16 0⟩
        charges := t.charges
        packs := { t.packs with nextNumber := s.packs.nextNumber }
        labels := { s.labels with
          queue := s.labels.queue ++ (closing.filter (fun x => !marked x.2)).map (·.1) }
        attention := ((closing.filter (fun x => marked x.2)).foldl
          (fun u x => u.raise .packHeld (.pack x.2.number)) s).attention } ∧
      t.charges.length = s.charges.length ∧ t.packs.records.length = 48 ∧ t.packs.current.length = 16 ∧
      (∀ i, t.charge? i = (s.charge? i).map (fun c =>
        { c with transitRef := c.transitRef - s.decidedCount (fun d => d.chargeSlot = some i) })) ∧
      (∀ b, t.currentPack b =
        (s.currentPack b).filter (fun k => (s.pack? k).any (fun p => 0 < p.pieces))) ∧
      ∀ k, t.pack? k = (s.pack? k).bind (fun p =>
        if p.bound = 0 then some p
        else if p.pieces = 0 then none
        else if p.state = .closing then
          some { p with bound := 0, state := if marked p then .held else .labelQueued }
        else some { p with bound := 0 }))

/-- An ENC pulse first takes what the chain has reached (assumption 3), which is what EXPIRY, OPEN_EVENT and
CLOSE_EVENT do for each entry in queue order and leaves nothing reached, and then counts one, modulo 2^24. An
eye edge takes the next sequence and joins the queue, or is lost when the queue is full or holds its
sequence; with the zero geometry of power-on it is decided, opened and closed at once (R93 to R96, R102,
R106). -/
def Obligations.EncoderPulsesAndEdges : Prop :=
  ∀ s : State, s.resetAsserted = false →
    (let u := s.settleChain;
      exec .encPulse s = .next { u with tracker := { u.tracker with
        position := (u.tracker.position + 1) % 16777216 } } ∧
      u.tracker.position = s.tracker.position ∧
      ((∀ e ∈ s.tracker.queue, ¬s.Reached (s.waitsOn e)) → u = s) ∧
      (QueueOk s → ∀ e ∈ u.tracker.queue, ¬u.Reached (u.waitsOn e)) ∧
      (QueueOk s → TransitOk s → Runs s (s.tracker.queue.map (fun e => match e.decision with
        | none => .expiry
        | some d => if d.gateOpen then .closeEvent e.sequence else .openEvent e.sequence)) u)) ∧
    let q := (s.tracker.edgeSequence + 1) % 256
    (32 ≤ s.tracker.queue.length → exec .edge s = .next (s.edgeLost q .queueFull)) ∧
    (s.tracker.queue.length < 32 → (∃ e ∈ s.tracker.queue, e.sequence = q) →
      exec .edge s = .next (s.edgeLost q .sequenceHeld)) ∧
    (s.tracker.queue.length < 32 → (∀ e ∈ s.tracker.queue, e.sequence ≠ q) →
      (1 ≤ s.tracker.geometry.pairing → s.tracker.geometry.pairing ≤ 65535 →
        exec .edge s = .next { s with tracker := { s.tracker with
          edgeSequence := q, queue := s.tracker.queue ++ [⟨q, s.tracker.position, none⟩] } }) ∧
      (s.tracker.geometry = ⟨0, List.replicate 16 0, 0, 0, 0⟩ →
        (s.sorter.slot (if s.sorter.slot0.role = .active then 0 else 1)).role = .active →
        exec .edge s = .next (({ s with tracker := { s.tracker with edgeSequence := q } } : State).raise
          .transit (.transit q .untracked))))

/-- At its expiry position the oldest waiting entry is decided as NO_DATA; at its open position an entry's
gate opens; at its close position an entry without a pack leaves the queue, its gate count, its charge's
reference and its plan slot's count falling; before its position nothing happens (R95, R101, R102, R106,
R118, R124, R126, R127; assumptions 3 and 4). While the
Sorter agrees with the transit queue, GATEg is active exactly while an entry's gate is open at the bin g
(R114, R126, R127). -/
def Obligations.ExpiryOpenAndCloseEvents : Prop :=
  ∀ s : State, s.resetAsserted = false →
    (∀ l e r n pl, s.QueueAt l e r → (∀ x ∈ l, x.decision.isSome = true) → e.decision = none →
      (s.Reached (e.capture + s.tracker.geometry.pairing) → s.ActivePlan n pl →
        ¬s.Reached (s.noDataDecision e n pl).openPos → exec .expiry s = .next (s.noData e n pl)) ∧
      (¬s.Reached (e.capture + s.tracker.geometry.pairing) → exec .expiry s = .next s)) ∧
    ((∀ e ∈ s.tracker.queue, e.decision.isSome = true) → exec .expiry s = .next s) ∧
    (∀ l e r d, s.QueueAt l e r → e.decision = some d → d.gateOpen = false →
      (s.Reached d.openPos → ¬s.Reached d.closePos → exec (.openEvent e.sequence) s =
        .next ((s.withQueue (l ++ { e with decision := some { d with gateOpen := true } } :: r)).withGate
          d.bin (· + 1))) ∧
      (¬s.Reached d.openPos → exec (.openEvent e.sequence) s = .next s) ∧
      exec (.closeEvent e.sequence) s = .next s) ∧
    (∀ l e r d, s.QueueAt l e r → e.decision = some d → d.gateOpen = true →
      (s.Reached d.closePos → d.packSlot = none → exec (.closeEvent e.sequence) s =
        .next ((((s.withGate d.bin (· - 1)).unreferenced d.chargeSlot).withQueue (l ++ r)).drained
          d.planSlot)) ∧
      (¬s.Reached d.closePos → exec (.closeEvent e.sequence) s = .next s) ∧
      exec (.openEvent e.sequence) s = .next s) ∧
    (∀ q, (∀ e ∈ s.tracker.queue, e.sequence = q → e.decision = none) →
      exec (.openEvent q) s = .next s ∧ exec (.closeEvent q) s = .next s) ∧
    (SorterOk s → ∀ g < 16, s.gateActive g = true ↔
      ∃ e ∈ s.tracker.queue, ∃ d, e.decision = some d ∧ d.gateOpen = true ∧ d.bin = g)

/-- The close event of a board that is bound to a pack delivers it: the pack takes the board, a charge new
to the pack is referenced, a CLOSING pack whose last board this is closes, and the event then ends as
that of a board without a pack (R106, R136, R138, R15, R16, R124). -/
def Obligations.CloseEventDeliversIntoThePack : Prop :=
  ∀ (s : State) l e r d slot p, s.resetAsserted = false → s.QueueAt l e r → e.decision = some d →
    d.gateOpen = true → s.Reached d.closePos → d.packSlot = some slot → s.pack? slot = some p →
    ∃ q : Pack,
      Pack.Delivered p s.tracker.dimensions d
        (d.chargeSlot.any (fun i => (s.charge? i).any (·.quarantined))) q ∧
      q.state = p.state ∧
      let fresh := d.chargeSlot.filter (fun i => !p.charges.contains i)
      let landed := (s.withGate d.bin (· - 1)).withPack slot q
      let counted : State := { landed with charges := match fresh with
        | none => s.charges
        | some i => s.charges.modify i (Option.map (fun c => { c with packRef := c.packRef + 1 })) }
      let closed := if p.state = .closing ∧ p.bound ≤ 1 then counted.packClosed slot q else counted
      exec (.closeEvent e.sequence) s =
        .next (((closed.unreferenced d.chargeSlot).withQueue (l ++ r)).drained d.planSlot)

/-- The board-message receiver: the 20 digits after a start character make a message, which is handed to
pairing when its fields are in range; a message with a character in error, a field out of range or a
start character inside it is discarded and counted; other characters outside a message are ignored. A
character carries a framing error when its stop bit was not found (R98, R184). How characters are grouped is
the model's (assumption 10), and bits without a start bit are no character (assumption 16). -/
def Obligations.BoardMessageCharacters : Prop :=
  ∀ s : State, s.resetAsserted = false →
    (∀ m : BoardMessage, m.Fits →
      let inRange := m.grade ≤ 15 ∧ m.lengthClass ≤ 31 ∧ m.widthClass ≤ 15 ∧ m.thicknessClass ≤ 15
      (s.tracker.receiver = none →
        ∀ frames, boardChars frames = ⟨35, false⟩ :: m.characters →
          (inRange → exec (.boardMessage frames) s = .next (s.pair m)) ∧
          (¬inRange → exec (.boardMessage frames) s = .next (s.messageLost none))) ∧
      (∀ got frames, s.tracker.receiver = some got → got ++ boardChars frames = m.characters →
        boardChars frames ≠ [] → inRange →
        exec (.boardMessage frames) s = .next ((s.setReceiver none).pair m))) ∧
    (∀ got frames, s.tracker.receiver = some got →
      let chars := boardChars frames
      (∀ c ∈ chars, c.value = 35 → c.error = true) →
      (got.length + chars.length < 20 →
        exec (.boardMessage frames) s = .next (s.setReceiver (some (got ++ chars)))) ∧
      (got.length < 20 → got.length + chars.length = 20 →
        (∃ c ∈ got ++ chars, c.error = true ∨
          ¬((48 ≤ c.value.toNat ∧ c.value.toNat ≤ 57) ∨ (65 ≤ c.value.toNat ∧ c.value.toNat ≤ 70))) →
        exec (.boardMessage frames) s = .next (s.messageLost none))) ∧
    (s.tracker.receiver = none →
      exec .startCharacter s = .next (s.setReceiver (some [])) ∧
      ∀ frames, (∀ c ∈ boardChars frames, c.value = 35 → c.error = true) →
        exec (.boardMessage frames) s = .next s) ∧
    (s.tracker.receiver.isSome = true → exec .startCharacter s = .next (s.messageLost (some []))) ∧
    ∀ f : BoardFrame, (f.getLsbD 0 = true → boardChar f = none) ∧
      (f.getLsbD 0 = false → ∃ c, boardChar f = some c ∧
        (∀ i < 8, c.value.getLsbD i = f.getLsbD (i + 1)) ∧ (c.error = true ↔ f.getLsbD 9 = false))

/-- Pairing by the difference of sequences: 0 pairs with the oldest waiting entry; up to 127 decides the
skipped entries as NO_DATA, oldest first, and then pairs with the entry of that sequence or is an orphan;
from 128, or with no entry waiting, the message is an orphan (R99, R100, R102). -/
def Obligations.MessagePairing : Prop :=
  ∀ (s : State) (m : BoardMessage), m.sequence ≤ 255 →
    ((∀ e ∈ s.tracker.queue, e.decision.isSome = true) → s.pair m = s.orphaned m.sequence) ∧
    ∀ l e r, s.tracker.queue = l ++ e :: r → (∀ x ∈ l, x.decision.isSome = true) → e.decision = none →
      e.sequence ≤ 255 →
      let diff := (m.sequence + 256 - e.sequence) % 256
      (diff = 0 → s.pair m = s.arrive e m) ∧
      (128 ≤ diff → s.pair m = s.orphaned m.sequence) ∧
      (1 ≤ diff → diff ≤ 127 → QueueOk s → ∀ n pl, s.ActivePlan n pl →
        let skipped := (e :: r).filter (fun x =>
          x.decision.isNone && decide ((x.sequence + 256 - e.sequence) % 256 < diff))
        (∀ x ∈ skipped, ¬s.Reached (s.noDataDecision x n pl).openPos) →
        let t := skipped.foldl (fun u x => u.noData x n pl) s
        (∀ x ∈ r, x.decision = none → x.sequence = m.sequence → s.pair m = t.arrive x m) ∧
        ((∀ x ∈ r, x.decision = none → x.sequence ≠ m.sequence) → s.pair m = t.orphaned m.sequence))

/-- The board-arrival operation, for a bin that does not build packs: an unknown charge goes to the reject
bin with TRANSIT; a found one is measured and counted, may enter quarantine, is decided by the ACTIVE
plan and given its gate positions (R13, R14, R31, R34, R36, R37, R103 to R105, R116 to R118). -/
def Obligations.BoardDecisionFollowsThePlan : Prop :=
  (∀ (s : State) l e r (m : BoardMessage) n pl, s.QueueAt l e r → e.decision = none → s.ActivePlan n pl →
    (∀ i c, s.charge? i = some c → c.number = m.number →
      c.state = .staged ∨ c.state = .kiln ∨ 16777215 ≤ c.seen) →
    let d := s.decisionFor e m none none .unmeasured .unknownCharge pl.reject n none
    ¬s.Reached d.openPos →
    s.arrive e m =
      ((s.decidedAs e d).decidedUnder n).raise .transit (.transit e.sequence .unknownCharge)) ∧
  ∀ (s : State) l e r (m : BoardMessage) slot c sp n pl, s.BoardFound l e r m slot c sp n pl →
    let mc := (computeReading sp.meter m.raw (meterTemp m.temp)).mc
    let cls := classify c.dry c.wet mc
    (4095 ≤ m.raw → mc = none ∧ cls = .unmeasured) ∧
    ∀ c', c.Counted mc cls c' → ∀ flagged : Bool, (flagged = true ↔ (c.quarantined = true ∨ c'.Trips mc)) →
      ∀ bin reason, pl.Decides flagged sp.group m.grade m.lengthClass m.thicknessClass cls bin reason →
      bin ∉ pl.building →
      let d := s.decisionFor e m (some slot) mc cls reason bin n none
      ¬s.Reached d.openPos →
      (c'.Trips mc → s.arrive e m =
        (((s.withCharge slot c').enterQuarantine slot c.number).decidedAs e d).decidedUnder n) ∧
      (¬c'.Trips mc → s.arrive e m = ((s.withCharge slot c').decidedAs e d).decidedUnder n)

/-- The board-arrival operation, for a bin that builds packs: the board is bound to the bin's current pack,
to a pack allocated in the lowest free record with the first number no live pack holds, or, in a full
table, redirected to the reject bin with TRANSIT; the board that reaches the target makes the pack
CLOSING (R103, R134, R135, R137). -/
def Obligations.BoardBindsToItsBinsPack : Prop :=
  ∀ (s : State) l e r (m : BoardMessage) slot c sp n pl, s.BoardFound l e r m slot c sp n pl → PacksOk s →
    let mc := (computeReading sp.meter m.raw (meterTemp m.temp)).mc
    let cls := classify c.dry c.wet mc
    ∀ c', c.Counted mc cls c' → ∀ flagged : Bool, (flagged = true ↔ (c.quarantined = true ∨ c'.Trips mc)) →
      ∀ u : State, (c'.Trips mc → u = (s.withCharge slot c').enterQuarantine slot c.number) →
      (¬c'.Trips mc → u = s.withCharge slot c') →
      ∀ bin reason, pl.Decides flagged sp.group m.grade m.lengthClass m.thicknessClass cls bin reason →
      bin ∈ pl.building →
      let decided (v : State) (why : Reason) (where_ : Nat) (k : Option Nat) : State :=
        (v.decidedAs e (s.decisionFor e m (some slot) mc cls why where_ n k)).decidedUnder n
      let binds (v : State) (k : Nat) (p : Pack) : State :=
        if p.pieces + p.bound + 1 < p.target then v.withPack k { p with bound := p.bound + 1 }
        else (v.withPack k { p with
          bound := p.bound + 1, state := .closing, closeReason := some .target }).setCurrent bin none
      ¬s.Reached (s.gatePositions e.capture bin 0).1 →
      ¬s.Reached (s.gatePositions e.capture pl.reject 0).1 →
      (∀ k p, u.currentPack bin = some k → u.pack? k = some p →
        s.arrive e m = decided (binds u k p) reason bin (some k)) ∧
      (∀ k, u.currentPack bin = none → LowestFree u.packs.records k →
        ∃ j ≤ 47, (∀ i < j, ¬u.NoPack ((u.packs.nextNumber - 1 + i) % 999999 + 1)) ∧
          let number := (u.packs.nextNumber - 1 + j) % 999999 + 1
          u.NoPack number ∧
          let p : Pack :=
            { number := number, bin := bin, state := .opened, target := (pl.targets[bin]?).getD 1
              template := (pl.templates[bin]?).getD 0, pieces := 0, bound := 0, tally := [], volume := 0
              dimension := none, mixedDim := false, grades := [], charges := [], measured := 0, mcSum := 0
              lowest := none, highest := none, quarantine := decide (bin = pl.quarantine)
              quarantineMix := false, closeReason := none, truncated := false }
          let v : State := { u with packs := {
            records := u.packs.records, current := u.packs.current.set bin (some k)
            nextNumber := number % 999999 + 1 } }
          s.arrive e m = decided (binds v k p) reason bin (some k)) ∧
      (u.currentPack bin = none → (∀ o ∈ u.packs.records, o ≠ none) →
        s.arrive e m = decided (u.raise .transit (.transit e.sequence .packTableFull))
          .packTableFull pl.reject none)

/-- A charge that enters quarantine is flagged and QUARANTINE raised; every pack that holds it is marked,
and those waiting for a frame or in a READY frame leave it and become HELD with PACK_HELD raised in
ascending slot order (R18, R140, R157, R159). -/
def Obligations.QuarantineEntryHoldsPacks : Prop :=
  ∀ (s : State) slot c, LabelsOk s → s.charge? slot = some c →
    let has (p : Pack) : Bool := p.charges.contains slot
    let pulled (p : Pack) : Bool := has p && (p.state = .labelQueued || p.state = .labelReady)
    let held := (List.range 48).filterMap (fun k => (s.pack? k).bind (fun p => if pulled p then some p else none))
    let free (f : Frame) : Frame :=
      if f.state = .ready ∧ (f.pack.bind s.pack?).any has = true then { f with state := .free, pack := none }
      else f
    let t := s.enterQuarantine slot c.number
    t = { s with
      charges := s.charges.set slot (some { c with quarantined := true })
      packs := { s.packs with records := t.packs.records }
      labels := { s.labels with
        queue := s.labels.queue.filter (fun k => !(s.pack? k).any has)
        frame0 := free s.labels.frame0
        frame1 := free s.labels.frame1
        ready := s.labels.ready.filter (fun n => (free (s.labels.frame n)).state = .ready) }
      attention := (held.foldl (fun u p => u.raise .packHeld (.pack p.number))
        (s.raise .quarantine (.charge c.number))).attention } ∧
    t.packs.records.length = s.packs.records.length ∧
    ∀ k, t.pack? k = (s.pack? k).map (fun p =>
      if has p then { p with quarantineMix := true, state := if pulled p then .held else p.state } else p)

/-! ## Sort plans (R114 to R130) -/

/-- PLAN_LOAD's header part starts the load of the SHADOW slot and its rule parts append rules until the
declared count is held; both are refused BUSY during a drain, and for a part out of order or a value out
of range (R119 to R121). -/
def Obligations.PlanLoadBuildsTheShadowPlan : Prop :=
  ∀ s : State, s.linkReady = true →
    let n := s.shadowSlot
    let draining := s.sorter.slot0.role = .draining ∨ s.sorter.slot1.role = .draining
    (∀ reject quarantine building count (bins : List (Nat × Nat)), reject ≤ 255 → quarantine ≤ 255 →
      building ≤ 65535 → count ≤ 255 → bins.length = 16 → (∀ b ∈ bins, b.1 ≤ 255 ∧ b.2 ≤ 65535) →
      let payload := [0] ++ bytes 1 reject ++ bytes 1 quarantine ++ bytes 2 building ++
        bins.flatMap (fun b => bytes 1 b.1 ++ bytes 2 b.2) ++ bytes 1 count
      let inRange := reject ≤ 15 ∧ quarantine ≤ 15 ∧ building.testBit reject = false ∧
        (quarantine = reject ∨ building.testBit quarantine = true) ∧
        (∀ b ∈ bins, b.1 ≤ 3 ∧ 1 ≤ b.2 ∧ b.2 ≤ 9999) ∧ count ≤ 48
      (draining → Refused .planLoadHeader 112 payload s .busy) ∧
      (¬draining → ¬inRange → Refused .planLoadHeader 112 payload s .badField) ∧
      (¬draining → inRange → Answers .planLoadHeader 112 payload s .ok (bytes 1 n ++ bytes 1 count)
        (s.setPlanSlot n { s.sorter.slot n with
          plan := some ⟨reject, quarantine, (List.range 16).filter building.testBit, bins.map (·.1),
            bins.map (·.2), count, []⟩ }))) ∧
    ∀ start (rules : List RuleFields), start ≤ 255 → 1 ≤ rules.length → rules.length ≤ 16 →
      (∀ f ∈ rules, f.Fits) →
      let payload := [1] ++ bytes 1 start ++ rules.flatMap RuleFields.bytes
      (draining → Refused .planLoadRules 112 payload s .busy) ∧
      (¬draining → (s.sorter.slot n).plan = none → Refused .planLoadRules 112 payload s .wrongState) ∧
      ∀ pl, ¬draining → (s.sorter.slot n).plan = some pl →
        let due := pl.rules.length < pl.ruleCount ∧ start = pl.rules.length ∧
          start + rules.length ≤ pl.ruleCount
        (¬due → Refused .planLoadRules 112 payload s .wrongState) ∧
        (due → (∃ f ∈ rules, ¬f.InRange pl) → Refused .planLoadRules 112 payload s .badField) ∧
        (due → (∀ f ∈ rules, f.InRange pl) →
          Answers .planLoadRules 112 payload s .ok
            (bytes 1 n ++ bytes 1 (pl.ruleCount - (start + rules.length)))
            (s.setPlanSlot n { s.sorter.slot n with
              plan := some { pl with rules := pl.rules ++ rules.map RuleFields.rule } }))

/-- PLAN_SWITCH makes the loaded SHADOW plan ACTIVE, the former slot DRAINING or empty, and close-requests
with reason PLAN the current pack of every bin that stops building, in bin order (R122, R123, R137,
R138). PACK_HELD for a marked pack that closes at once is raised, by R138 (assumption 17). -/
def Obligations.PlanSwitchActivatesTheShadowPlan : Prop :=
  ∀ s : State, s.linkReady = true →
    let n := s.shadowSlot
    let a := 1 - n
    let draining := s.sorter.slot0.role = .draining ∨ s.sorter.slot1.role = .draining
    (draining → Refused .planSwitch 113 [] s .busy) ∧
    (¬draining → (s.sorter.slot n).plan = none → Refused .planSwitch 113 [] s .noSuch) ∧
    (∀ new, ¬draining → (s.sorter.slot n).plan = some new → new.rules.length < new.ruleCount →
      Refused .planSwitch 113 [] s .wrongState) ∧
    ∀ former new, ¬draining → PacksOk s → s.ActivePlan a former → (s.sorter.slot n).plan = some new →
      new.ruleCount ≤ new.rules.length →
      let marked (p : Pack) : Bool := p.quarantine || p.quarantineMix
      let stops (b : Nat) : Bool := former.building.contains b && !new.building.contains b
      let closing := (List.range 16).filterMap (fun b => if stops b then s.currentPack b else none)
      let ended := closing.filterMap (fun k => (s.pack? k).bind (fun p =>
        if p.bound = 0 then some (k, p) else none))
      let drains := 0 < (s.sorter.slot a).decided
      ∃ t, Answers .planSwitch 113 [] s .ok
          (bytes 1 n ++ bytes 1 (if drains then 3 else 2) ++ bytes 1 closing.length) t ∧
        t = { s with
          sorter := (s.sorter.setSlot n { s.sorter.slot n with role := .active }).setSlot a
            (if drains then { s.sorter.slot a with role := .draining } else ⟨.shadow, none, 0⟩)
          packs := { t.packs with nextNumber := s.packs.nextNumber }
          labels := { s.labels with
            queue := s.labels.queue ++ (ended.filter (fun x => !marked x.2)).map (·.1) }
          attention := ((ended.filter (fun x => marked x.2)).foldl
            (fun u x => u.raise .packHeld (.pack x.2.number)) s).attention } ∧
        t.packs.records.length = 48 ∧ t.packs.current.length = 16 ∧
        (∀ b, t.currentPack b = if stops b then none else s.currentPack b) ∧
        ∀ k, t.pack? k = (s.pack? k).map (fun p =>
          if k ∈ closing then { p with
            closeReason := some .plan
            state := if 0 < p.bound then .closing else if marked p then .held else .labelQueued }
          else p)

/-- PLAN_READ reports a plan slot and up to 16 rules; PACK_READ reports every field of a pack; PACK_LIST
reports the first 24 matching packs in ascending number and the number of the 25th (R125, R142, R143). That
a PACK_LIST entry codes its state and marks as PACK_READ does is the model's reading (assumption 21). -/
def Obligations.PlanAndPackReports : Prop :=
  ∀ s : State, s.linkReady = true →
    let code (p : Pack) : Nat := match p.state with
      | .opened => 1 | .closing => 2 | .labelQueued => 3 | .labelReady => 4 | .printing => 5
      | .labelled => 6 | .held => 7 | .rejected => 8
    (∀ n start, n ≤ 255 → start ≤ 255 →
      let request := bytes 1 n ++ bytes 1 start
      let slot := s.sorter.slot n
      (1 < n → Refused .planRead 114 request s .badField) ∧
      (n ≤ 1 → slot.plan = none → Refused .planRead 114 request s .noSuch) ∧
      ∀ p, n ≤ 1 → slot.plan = some p →
        (47 < start → Refused .planRead 114 request s .badField) ∧
        (start ≤ 47 →
          let shown := (p.rules.drop start).take 16
          Answers .planRead 114 request s .ok
            (bytes 1 n ++ bytes 1 (match slot.role with | .active => 1 | .shadow => 2 | .draining => 3) ++
              bytes 1 (if p.rules.length < p.ruleCount then 1 else 2) ++ bytes 1 slot.decided ++
              bytes 1 p.reject ++ bytes 1 p.quarantine ++ bytes 2 (powerSum p.building) ++
              (p.templates.zip p.targets).flatMap (fun x => bytes 1 x.1 ++ bytes 2 x.2) ++
              bytes 1 p.ruleCount ++ bytes 1 p.rules.length ++ bytes 1 start ++ bytes 1 shown.length ++
              shown.flatMap (fun r => bytes 1 (powerSum r.groups) ++ bytes 2 (powerSum r.grades) ++
                bytes 1 r.lengthLo ++ bytes 1 r.lengthHi ++ bytes 2 (powerSum r.thickness) ++
                bytes 1 ((r.moisture.map (fun m => match m with
                  | .pass => 1 | .wet => 2 | .overdry => 4 | .unmeasured => 8)).sum) ++
                bytes 1 r.bin)) s)) ∧
    (∀ n slot p, 1 ≤ n → n ≤ 999999 → s.OnlyPack n slot p →
      Answers .packRead 128 (bytes 3 n) s .ok
        (bytes 3 n ++ bytes 1 slot ++ bytes 1 p.bin ++
          bytes 1 (code p) ++
          bytes 1 (if s.currentPack p.bin = some slot then 1 else 0) ++ bytes 2 p.target ++
          bytes 1 p.template ++ bytes 2 p.pieces ++ bytes 1 p.bound ++ bytes 5 p.volume ++
          (match p.dimension with
            | none => ([255, 255] : List Byte)
            | some (t, w) => bytes 1 t ++ bytes 1 w) ++
          bytes 1 ((if p.quarantine then 1 else 0) + (if p.quarantineMix then 2 else 0) +
            (if p.mixedDim then 4 else 0)) ++
          bytes 1 (match p.closeReason with
            | none => 0 | some .target => 1 | some .request => 2 | some .plan => 3) ++
          bytes 1 (if p.truncated then 1 else 0) ++ bytes 2 (powerSum p.grades) ++
          bytes 8 (powerSum p.charges) ++ bytes 2 p.measured ++ bytes 3 p.mcSum ++
          bytes 2 (p.lowest.getD 65535) ++ bytes 2 (p.highest.getD 65535) ++ bytes 1 p.tally.length ++
          p.tally.flatMap (fun x => bytes 1 x.1 ++ bytes 2 x.2)) s) ∧
    ∀ start states bin charge, start ≤ 16777215 → states ≤ 255 → bin ≤ 255 → charge ≤ 255 →
      let request := bytes 3 start ++ bytes 1 states ++ bytes 1 bin ++ bytes 1 charge
      let inRange := start ≤ 999999 ∧ states ≠ 0 ∧ (bin < 16 ∨ bin = 255) ∧ (charge < 64 ∨ charge = 255)
      (¬inRange → Refused .packList 129 request s .badField) ∧
      (inRange → ∃ shown rest : List (Nat × Pack), (shown ++ rest).Nodup ∧
        (∀ i p, (i, p) ∈ shown ++ rest ↔ s.pack? i = some p ∧ start ≤ p.number ∧
          states.testBit (code p - 1) = true ∧ (bin = 255 ∨ p.bin = bin) ∧
          (charge = 255 ∨ charge ∈ p.charges)) ∧
        (shown ++ rest).Pairwise (fun a b => a.2.number ≤ b.2.number) ∧
        shown.length = min 24 (shown ++ rest).length ∧
        Answers .packList 129 request s .ok
          (bytes 1 shown.length ++ bytes 3 (match rest with | [] => 0 | x :: _ => x.2.number) ++
            shown.flatMap (fun x => bytes 3 x.2.number ++ bytes 1 x.1 ++ bytes 1 x.2.bin ++
              bytes 1 (code x.2) ++ bytes 1 (x.2.quarantine.toNat + 2 * x.2.quarantineMix.toNat +
                4 * x.2.mixedDim.toNat) ++ bytes 2 x.2.pieces)) s)

/-! ## Packs (R131 to R150) -/

/-- PACK_CLOSE, PACK_RELEASE, PACK_REJECT and PACK_RETIRE change the pack named in the states that allow
it and are refused WRONG_STATE in the others; a number out of range is BAD_FIELD and one that no live pack
holds NO_SUCH; PACK_NUMBER_SET sets the next number (R137, R138, R141, R144 to R148). -/
def Obligations.PackRequestsChangeTheNamedPack : Prop :=
  ∀ (s : State) n, s.linkReady = true → n ≤ 16777215 →
    (n = 0 ∨ 999999 < n → Refused .packRead 128 (bytes 3 n) s .badField ∧
      Refused .packClose 130 (bytes 3 n) s .badField ∧ Refused .packRelease 131 (bytes 3 n) s .badField ∧
      Refused .packReject 132 (bytes 3 n) s .badField ∧ Refused .packRetire 133 (bytes 3 n) s .badField ∧
      Refused .packNumberSet 134 (bytes 3 n) s .badField ∧
      Refused .labelReprint 146 (bytes 3 n) s .badField) ∧
    (1 ≤ n → n ≤ 999999 →
      Answers .packNumberSet 134 (bytes 3 n) s .ok (bytes 3 n)
        { s with packs := { s.packs with nextNumber := n } } ∧
      (s.NoPack n → Refused .packRead 128 (bytes 3 n) s .noSuch ∧
        Refused .packClose 130 (bytes 3 n) s .noSuch ∧ Refused .packRelease 131 (bytes 3 n) s .noSuch ∧
        Refused .packReject 132 (bytes 3 n) s .noSuch ∧ Refused .packRetire 133 (bytes 3 n) s .noSuch ∧
        Refused .labelReprint 146 (bytes 3 n) s .noSuch) ∧
      ∀ slot p, s.OnlyPack n slot p →
        (p.state = .opened → 0 < p.bound → Answers .packClose 130 (bytes 3 n) s .ok ([2] ++ bytes 1 p.bound)
          ((s.withPack slot { p with state := .closing, closeReason := some .request }).setCurrent
            p.bin none)) ∧
        (p.state = .opened → p.bound = 0 → 0 < p.pieces → Answers .packClose 130 (bytes 3 n) s .ok
          [if p.quarantine || p.quarantineMix then 7 else 3, 0]
          ((s.setCurrent p.bin none).packClosed slot
            { p with state := .closing, closeReason := some .request })) ∧
        (p.state ≠ .opened → Refused .packClose 130 (bytes 3 n) s .wrongState) ∧
        (p.state = .held →
          Answers .packRelease 131 (bytes 3 n) s .ok []
            { s.withPack slot { p with state := .labelQueued } with
              labels := { s.labels with queue := s.labels.queue ++ [slot] } } ∧
          Answers .packReject 132 (bytes 3 n) s .ok [] (s.withPack slot { p with state := .rejected })) ∧
        (p.state ≠ .held → Refused .packRelease 131 (bytes 3 n) s .wrongState ∧
          Refused .packReject 132 (bytes 3 n) s .wrongState) ∧
        (p.state = .labelled ∨ p.state = .rejected → p.charges.Nodup → ∃ t : State,
          t.charges.length = s.charges.length ∧
          (∀ i, t.charge? i = (s.charge? i).map (fun c =>
            if i ∈ p.charges then { c with packRef := c.packRef - 1 } else c)) ∧
          Answers .packRetire 133 (bytes 3 n) s .ok (bytes 1 p.charges.length)
            { s with charges := t.charges
                     packs := { s.packs with records := s.packs.records.set slot none } }) ∧
        (p.state ≠ .labelled → p.state ≠ .rejected → Refused .packRetire 133 (bytes 3 n) s .wrongState))

/-! ## Labels (R151 to R165, R185) -/

/-- TEMPLATE_LOAD's header part starts a load and its placement parts complete it, at which the template
takes the loaded placements; parts out of order, out of range or of a wrong length are refused.
TEMPLATE_READ reports up to 4 placements (R152 to R154). -/
def Obligations.TemplatesLoadAndRead : Prop :=
  ∀ s : State, s.linkReady = true →
    let code (k : FieldKind) : Nat := match k with
      | .text => 1 | .packNumber => 2 | .pieces => 3 | .volume => 4 | .dimensions => 5 | .lengthTally => 6
      | .grades => 7 | .charges => 8 | .species => 9 | .mcMean => 10 | .mcRange => 11 | .marks => 12
    (∀ index count, index ≤ 255 → count ≤ 255 →
      let payload := [0] ++ bytes 1 index ++ bytes 1 count
      (index ≤ 3 → 1 ≤ count → count ≤ 16 →
        Answers .templateLoadHeader 144 payload s .ok (bytes 1 index ++ bytes 1 count)
          { s with labels := { s.labels with load := some ⟨index, count, []⟩ } }) ∧
      (3 < index ∨ count = 0 ∨ 16 < count → Refused .templateLoadHeader 144 payload s .badField)) ∧
    (∀ index i k n (pl : Placement), index ≤ 255 → i ≤ 255 → k ≤ 255 → n ≤ 255 → pl.colStart ≤ 255 →
      pl.colEnd ≤ 255 → pl.rowStart ≤ 255 → pl.rowEnd ≤ 255 → pl.literal.length ≤ 200 →
      let payload := [1] ++ bytes 1 index ++ bytes 1 i ++ bytes 1 k ++ bytes 1 pl.colStart ++
        bytes 1 pl.colEnd ++ bytes 1 pl.rowStart ++ bytes 1 pl.rowEnd ++ bytes 1 n ++ pl.literal
      let sized := n = pl.literal.length ∧ n ≤ 40
      let inRange := index ≤ 3 ∧ 1 ≤ k ∧ k ≤ 12 ∧ pl.OnCard ∧
        (∀ b ∈ pl.literal, 32 ≤ b.toNat ∧ b.toNat ≤ 126) ∧ (k ≠ 1 → pl.literal = [])
      (¬sized → Refused .templateLoadPlacement 144 payload s .badLength) ∧
      (sized → ¬inRange → Refused .templateLoadPlacement 144 payload s .badField) ∧
      (sized → inRange →
        (s.labels.load = none → Refused .templateLoadPlacement 144 payload s .wrongState) ∧
        ∀ t, s.labels.load = some t →
          (t.index ≠ index ∨ t.received.length ≠ i →
            Refused .templateLoadPlacement 144 payload s .wrongState) ∧
          (t.index = index → t.received.length = i → code pl.kind = k →
            Answers .templateLoadPlacement 144 payload s .ok
              (bytes 1 index ++ bytes 1 (t.count - (i + 1)))
              { s with labels :=
                if i + 1 < t.count then
                  { s.labels with load := some { t with received := t.received ++ [pl] } }
                else { s.labels with
                  load := none, templates := s.labels.templates.set index (t.received ++ [pl]) } }))) ∧
    ∀ index start, index ≤ 255 → start ≤ 255 →
      (3 < index ∨ 15 < start → Refused .templateRead 145 (bytes 1 index ++ bytes 1 start) s .badField) ∧
      (index ≤ 3 → start ≤ 15 → ∀ l, s.labels.templates[index]? = some l →
        let shown := (l.drop start).take 4
        Answers .templateRead 145 (bytes 1 index ++ bytes 1 start) s .ok
          (bytes 1 index ++ bytes 1 l.length ++ bytes 1 start ++ bytes 1 shown.length ++
            shown.zipIdx.flatMap (fun x => bytes 1 (start + x.2) ++ bytes 1 (code x.1.kind) ++
              bytes 1 x.1.colStart ++ bytes 1 x.1.colEnd ++ bytes 1 x.1.rowStart ++ bytes 1 x.1.rowEnd ++
              bytes 1 x.1.literal.length ++ x.1.literal)) s)

/-- LABEL_REPRINT queues a LABELLED pack at the tail and answers its place; LABEL_READ reports the port and
up to 6 rows of a frame; LABEL_PORT_SET stores the timeout and LABEL_PORT_CLEAR returns the port to IDLE
unless a pass is in progress (R163 to R165, R185). -/
def Obligations.LabelRequests : Prop :=
  ∀ s : State, s.linkReady = true →
    let portCode : Nat := match s.labels.port with | .idle => 0 | .printing => 1 | .done => 2 | .fault => 3
    (∀ n slot p, 1 ≤ n → n ≤ 999999 → s.OnlyPack n slot p →
      (p.state = .labelled → Answers .labelReprint 146 (bytes 3 n) s .ok (bytes 1 s.labels.queue.length)
        { s.withPack slot { p with state := .labelQueued } with
          labels := { s.labels with queue := s.labels.queue ++ [slot] } }) ∧
      (p.state ≠ .labelled → Refused .labelReprint 146 (bytes 3 n) s .wrongState)) ∧
    (∀ n start, n ≤ 255 → start ≤ 255 →
      (1 < n ∨ 11 < start → Refused .labelRead 147 (bytes 1 n ++ bytes 1 start) s .badField) ∧
      (n ≤ 1 → start ≤ 11 →
        let f := if n = 0 then s.labels.frame0 else s.labels.frame1
        let shown := (f.cells.drop start).take 6
        Answers .labelRead 147 (bytes 1 n ++ bytes 1 start) s .ok
          (bytes 1 n ++ bytes 1 (match f.state with | .free => 0 | .ready => 1 | .printing => 2) ++
            bytes 3 (match f.pack.bind s.pack? with | none => 0 | some p => p.number) ++
            bytes 1 portCode ++ bytes 1 s.labels.timeout ++ bytes 1 s.labels.queue.length ++
            bytes 1 start ++ bytes 1 shown.length ++ shown.flatten) s)) ∧
    (∀ t ≤ 255,
      (1 ≤ t → t ≤ 60 → Answers .labelPortSet 148 (bytes 1 t) s .ok []
        { s with labels := { s.labels with timeout := t } }) ∧
      (t = 0 ∨ 60 < t → Refused .labelPortSet 148 (bytes 1 t) s .badField)) ∧
    (s.labels.port ≠ .printing → Answers .labelPortClear 149 [] s .ok
      (bytes 1 portCode)
      { s with labels := { s.labels with port := .idle, bitCount := 0 } }) ∧
    (s.labels.port = .printing → Refused .labelPortClear 149 [] s .busy)

/-- Composition writes the head pack's label into the first FREE frame: each cell holds what the last
placement to write there wrote, or a space, and TRUNCATED tells whether a text did not fit; without a FREE
frame or a waiting pack nothing happens (R156, R158; assumption 4). -/
def Obligations.CompositionWritesTheLabel : Prop :=
  ∀ s : State, s.resetAsserted = false →
    (∀ f slot rest p, s.labels.queue = slot :: rest → s.pack? slot = some p →
      ((f = 0 ∧ s.labels.frame0.state = .free) ∨
        (f = 1 ∧ s.labels.frame0.state ≠ .free ∧ s.labels.frame1.state = .free)) →
      let template := (s.labels.templates[p.template]?).getD []
      (∀ pl ∈ template, pl.OnCard) →
      ∃ cells : List (List Byte),
        exec .composition s = .next { s.withPack slot { p with
            state := .labelReady
            truncated := template.any (fun pl =>
              (pl.rowEnd + 1 - pl.rowStart) * (pl.colEnd + 1 - pl.colStart) < (s.fieldText p pl).length) } with
          labels := { s.labels.setFrame f ⟨.ready, some slot, cells⟩ with
            queue := rest, ready := s.labels.ready ++ [f] } } ∧
        cells.length = 12 ∧ ∀ row < 12, ∃ content, cells[row]? = some content ∧ content.length = 40 ∧
          ∀ col < 40, content[col]? = some (((template.reverse.findSome? (fun pl =>
            pl.cellAt (s.fieldText p pl) row col)) : Option Byte).getD 32)) ∧
    (s.labels.queue = [] ∨ (s.labels.frame0.state ≠ .free ∧ s.labels.frame1.state ≠ .free) →
      exec .composition s = .next s)

/-- The text of each field kind (R155). -/
def Obligations.LabelTextsFollowTheRecord : Prop :=
  ∀ (s : State) (p : Pack) (pl : Placement),
    let text := s.fieldText p pl
    let tenths (m : Nat) : List Byte := decimalCodes (m / 10) ++ [46] ++ decimalCodes (m % 10)
    let dims := s.tracker.dimensions
    let padded (width n : Nat) : List Byte :=
      List.replicate (width - (decimalCodes n).length) 48 ++ decimalCodes n
    let charges := p.charges.filterMap s.charge?
    (pl.kind = .text → text = pl.literal) ∧
    (pl.kind = .packNumber → text = padded 6 p.number) ∧
    (pl.kind = .pieces → text = decimalCodes p.pieces) ∧
    (pl.kind = .volume → let litres := (p.volume + 5000) / 10000
      text = decimalCodes (litres / 1000) ++ [46] ++ padded 3 (litres % 1000)) ∧
    (pl.kind = .dimensions → p.mixedDim = true → text = textCodes "MIXED") ∧
    (pl.kind = .dimensions → p.mixedDim = false → ∀ t w, p.dimension = some (t, w) →
      text = decimalCodes ((dims.thickness[t]?).getD 0) ++ textCodes "x" ++
        decimalCodes ((dims.width[w]?).getD 0)) ∧
    (pl.kind = .lengthTally → text = List.intercalate [32] (p.tally.map (fun x =>
      decimalCodes ((dims.length[x.1]?).getD 0) ++ textCodes ":" ++ decimalCodes x.2))) ∧
    (pl.kind = .grades → text = List.intercalate [32] (p.grades.map decimalCodes)) ∧
    (pl.kind = .charges → ∀ numbers : List Nat, numbers.Perm (charges.map (·.number)) → numbers.Pairwise (· ≤ ·) →
      text = List.intercalate [32] (numbers.map decimalCodes)) ∧
    (pl.kind = .species → ∃ codes : List Nat, codes.Pairwise (· < ·) ∧
      (∀ k, k ∈ codes ↔ k < 16 ∧ ∃ c ∈ charges, c.species = k) ∧
      let names := codes.map (fun k => ((s.species[k]?).elim (List.replicate 8 32) (·.name)).rdropWhile (· = 32))
      text = List.intercalate [32] (names.filter (fun n => !n.isEmpty)).reverse.dedup.reverse) ∧
    (pl.kind = .mcMean → text = if p.measured = 0 then textCodes "--"
      else tenths ((2 * p.mcSum + p.measured) / (2 * p.measured))) ∧
    (pl.kind = .mcRange → p.measured = 0 → text = textCodes "--") ∧
    (pl.kind = .mcRange → p.measured ≠ 0 → ∀ a b, p.lowest = some a → p.highest = some b →
      text = tenths a ++ textCodes "-" ++ tenths b) ∧
    (pl.kind = .marks → text = textCodes (
      if p.quarantine || p.quarantineMix then (if p.mixedDim then "QUARANTINE MIXED DIM" else "QUARANTINE")
      else if p.mixedDim then "MIXED DIM" else ""))

/-- A print pass: LBL_START takes the first READY frame, LBL_CLK serves its rows bit by bit and raises the
cursor at each whole row, and LBL_END or the timeout ends the pass; each is ignored where its rule ignores
it (R160 to R162, R185). The bit count moves outside a pass too (assumption 11), and a timeout outside a pass
is no event (assumption 4). LBL_DATA is the bit that the printer samples at the next rising edge of LBL_CLK
(assumption 22). -/
def Obligations.PrintPassServesTheOldestFrame : Prop :=
  ∀ s : State, s.resetAsserted = false →
    (s.lblReady = true ↔ s.labels.ready ≠ [] ∧ s.labels.port ≠ .fault) ∧
    (∀ f rest slot p, s.labels.port = .idle ∨ s.labels.port = .done → s.labels.ready = f :: rest →
      (s.labels.frame f).pack = some slot → s.pack? slot = some p →
      exec .lblStart s = .next { s.withPack slot { p with state := .printing } with
        labels := { s.labels.setFrame f { s.labels.frame f with state := .printing } with
          ready := rest, port := .printing, cursor := 0, bitCount := 0
          passTimeout := some s.labels.timeout } }) ∧
    (s.labels.port = .printing ∨ s.labels.port = .fault ∨ s.labels.ready = [] →
      exec .lblStart s = .next s) ∧
    (∀ clocks, s.labels.bitCount < 320 → s.labels.cursor ≤ 12 →
      let total := s.labels.bitCount + clocks
      ∃ row, exec (.rowRead clocks) s = .next { s with labels := { s.labels with
          bitCount := total % 320
          cursor := if s.labels.port = .printing then min 12 (s.labels.cursor + total / 320)
            else s.labels.cursor
          servedRow := row } } ∧
        (total < 320 → row = s.labels.servedRow) ∧
        (320 ≤ total → (s.labels.port ≠ .printing ∨ 12 ≤ s.labels.cursor + (total / 320 - 1)) →
          row = List.replicate 40 32) ∧
        ∀ f slot p content, s.labels.port = .printing → s.Printing f slot p → 320 ≤ total →
          (s.labels.frame f).cells[s.labels.cursor + (total / 320 - 1)]? = some content →
          s.labels.cursor + (total / 320 - 1) < 12 → row = content) ∧
    (∀ f slot p content cell, s.labels.port = .printing → s.Printing f slot p → s.labels.cursor < 12 →
      (s.labels.frame f).cells[s.labels.cursor]? = some content →
      content[s.labels.bitCount / 8]? = some cell →
      s.lblData = cell.getLsbD (7 - s.labels.bitCount % 8)) ∧
    (s.labels.port ≠ .printing ∨ 12 ≤ s.labels.cursor →
      s.lblData = decide (s.labels.bitCount % 8 = 2)) ∧
    (∀ f slot p, s.labels.port = .printing → s.Printing f slot p →
      let freed := s.labels.setFrame f { s.labels.frame f with state := .free, pack := none }
      exec .lblEnd s = .next { s.withPack slot { p with state := .labelled } with
        labels := { freed with port := .done, passTimeout := none, bitCount := 0 } } ∧
      exec .passTimeoutExpiry s = .next (({ s.withPack slot { p with state := .labelQueued } with
        labels := { freed with
          port := .fault, passTimeout := none, bitCount := 0
          queue := slot :: s.labels.queue } } : State).raise .label (.pack p.number))) ∧
    (s.labels.port ≠ .printing → exec .lblEnd s = .next s ∧ exec .passTimeoutExpiry s = .next s)

/-! ## Attention (R166 to R172) -/

/-- An occurrence makes a clear class pending with its object and sets more in a pending one; ATTN_N is low
while an unmasked class is pending; ATTN_READ reports every class, ATTN_ACK clears and reports the pending
classes it names, ATTN_MASK changes the masks it names (R166 to R171). -/
def Obligations.AttentionOccurrencesAndRequests : Prop :=
  (∀ (s : State) k o,
    s.raise k o = { s with attention := (s.raise k o).attention } ∧
    (∀ j, j ≠ k → (s.raise k o).attention.get j = s.attention.get j) ∧
    ((s.attention.get k).pending = false →
      (s.raise k o).attention.get k = ⟨true, some o, false, (s.attention.get k).mask⟩) ∧
    ((s.attention.get k).pending = true →
      (s.raise k o).attention.get k = { s.attention.get k with more := true })) ∧
  (∀ s : State, s.attnLow = true ↔
    ∃ k, (s.attention.get k).pending = true ∧ (s.attention.get k).mask = false) ∧
  ∀ s : State, s.linkReady = true →
    let all : List AttnClass :=
      [.step, .kilnDone, .kilnFault, .quarantine, .packHeld, .label, .transit, .plan]
    Answers .attnRead 160 [] s .ok
      (bytes 1 (classSet (fun k => (s.attention.get k).pending)) ++
        bytes 1 (classSet (fun k => (s.attention.get k).mask)) ++ bytes 1 (if s.attnLow then 1 else 0) ++
        all.flatMap (fun k => (s.attention.get k).shown)) s ∧
    (∀ set ≤ 255,
      let cleared (k : AttnClass) : Bool := k.inSet set && (s.attention.get k).pending
      ∃ a : Attention,
        (∀ k, a.get k = if cleared k then ⟨false, none, false, (s.attention.get k).mask⟩
          else s.attention.get k) ∧
        Answers .attnAck 161 (bytes 1 set) s .ok
          (bytes 1 (classSet cleared) ++ (all.filter cleared).flatMap (fun k => (s.attention.get k).shown))
          { s with attention := a }) ∧
    ∀ set clear, set ≤ 255 → clear ≤ 255 →
      ((∃ k : AttnClass, k.inSet set = true ∧ k.inSet clear = true) →
        Refused .attnMask 162 (bytes 1 set ++ bytes 1 clear) s .badField) ∧
      ((∀ k : AttnClass, ¬(k.inSet set = true ∧ k.inSet clear = true)) → ∃ a : Attention,
        (∀ k, a.get k = { s.attention.get k with
          mask := k.inSet set || ((s.attention.get k).mask && !k.inSet clear) }) ∧
        Answers .attnMask 162 (bytes 1 set ++ bytes 1 clear) s .ok
          (bytes 1 (classSet (fun k => (a.get k).mask))) { s with attention := a })

/-! ## What every step keeps -/

/-- The state after reset has every property that the steps are shown to keep. -/
def Obligations.ResetMeetsEveryInvariant : Prop :=
  ChargesOk State.reset ∧ QueueOk State.reset ∧ TransitOk State.reset ∧ AwaitingAtTail State.reset ∧
    WaitingSequencesRise State.reset ∧ SorterOk State.reset ∧ KilnSideOk State.reset ∧
    ScansOk State.reset ∧ ReferencesOk State.reset ∧ PacksOk State.reset ∧ LabelsOk State.reset ∧
    TemplatesOk State.reset ∧ AttentionOk State.reset

/-- Tier 3. Every step keeps the relations of every live charge's counts, the ranges that follow, and the
charge numbers apart (R2, R35). -/
def Obligations.EveryStepKeepsTheChargeCounts : Prop :=
  ∀ s t, ChargesOk s → step s = .next t → ChargesOk t

/-- Tier 3. Every step keeps the transit queue within 32 entries of different sequences and in the order of
the edges, no entry beyond its expiry or close position, one plan slot ACTIVE and whole, each plan slot's
count equal to the entries decided under it, and each gate's count equal to the entries whose gate is open
at it (R94, R97, R101, R106, R110, R114, R115, R118, R124, R127). It keeps the entries in AWAITING_DATA an
unbroken run at the tail while their sequences rise (R97, R99; assumption 18). -/
def Obligations.EveryStepKeepsQueueAndSorterInAgreement : Prop :=
  ∀ s t, QueueOk s ∧ TransitOk s ∧ SorterOk s → step s = .next t →
    (QueueOk t ∧ TransitOk t ∧ SorterOk t) ∧ QueueOrderKept s t ∧
      (WaitingSequencesRise s → AwaitingAtTail s → AwaitingAtTail t)

/-- Tier 3. Every step keeps chambers, schedules and kiln charges in agreement: reference counts, working
copies, scans and probe results within range, and a chamber in progress RUNNING exactly when it has no hold
cause (R1, R40, R41, R50, R55, R57, R60, R62). -/
def Obligations.EveryStepKeepsTheKilnSideInAgreement : Prop :=
  ∀ s t, step s = .next t → (KilnSideOk s → KilnSideOk t) ∧ (ScansOk s → ScansOk t)

/-- Tier 3. Every step keeps each charge's transit and pack references equal to the numbers of entries and
packs that name it, and no entry or pack names a free charge slot (R15 to R17). -/
def Obligations.EveryStepKeepsTheChargeReferences : Prop :=
  ∀ s t, ReferencesOk s → step s = .next t → ReferencesOk t

/-- Tier 3. Every step keeps packs, templates, label queue, frames and label port in agreement: bound counts, tallies
and grade sets in ascending order, current packs, pack numbers, and each waiting or printing pack in exactly
one place, and each placement on the card (R131, R132, R133, R135, R136, R139, R151, R152, R157, R159, R185). -/
def Obligations.EveryStepKeepsPacksAndLabelsInAgreement : Prop :=
  ∀ s t, step s = .next t →
    (PacksOk s ∧ LabelsOk s → PacksOk t ∧ LabelsOk t) ∧ (TemplatesOk s → TemplatesOk t)

/-- Tier 3. Every step keeps a clear class without an object and a pending class with an object of its
own kind (R166). -/
def Obligations.EveryStepKeepsAttentionObjects : Prop :=
  ∀ s t, AttentionOk s → step s = .next t → AttentionOk t
end

