-- ==== Sys2Proof/Laws/Coding.lean ====
section
/-! SUPPORT. What the payload coding of R181 does: the fields of a payload, and the sets. -/

namespace Sys2Proof.Machine

/-! ## Numbers in bytes -/

@[simp] theorem length_bytes (w n : Nat) : (bytes w n).length = w := by
  induction w with
  | zero => rfl
  | succ w ih => simp [bytes, ih]

@[simp] theorem length_signedBytes (w : Nat) (x : Int) : (signedBytes w x).length = w := by
  simp [signedBytes]

@[simp] theorem length_optBytes (w a : Nat) (x : Option Nat) : (optBytes w a x).length = w := by
  simp [optBytes]

@[simp] theorem bytes_zero_width (n : Nat) : bytes 0 n = [] := rfl

theorem bytes_one (n : Nat) : bytes 1 n = [BitVec.ofNat 8 n] := by simp [bytes]

/-- Reading on from a number already read. -/
theorem foldl_beNat (l : List Byte) (acc : Nat) :
    l.foldl (fun a b => a * 256 + b.toNat) acc = acc * 256 ^ l.length + beNat l := by
  induction l generalizing acc with
  | nil => simp [beNat]
  | cons b l ih =>
    have h : beNat (b :: l) = b.toNat * 256 ^ l.length + beNat l := by
      rw [beNat, List.foldl_cons, ih]
      simp
    rw [List.foldl_cons, ih, h, List.length_cons, pow_succ]
    ring

theorem beNat_cons (b : Byte) (l : List Byte) : beNat (b :: l) = b.toNat * 256 ^ l.length + beNat l := by
  rw [beNat, List.foldl_cons, foldl_beNat]
  simp

/-- A number read back from its bytes is the number modulo the width (R181). -/
theorem beNat_bytes (w n : Nat) : beNat (bytes w n) = n % 256 ^ w := by
  induction w with
  | zero => simp [beNat, bytes, Nat.mod_one]
  | succ w ih =>
    rw [bytes, beNat_cons, ih, length_bytes, BitVec.toNat_ofNat]
    have h : n % 256 ^ (w + 1) = n % 256 ^ w + 256 ^ w * (n / 256 ^ w % 256) := by
      rw [pow_succ, Nat.mod_mul]
    rw [h]
    norm_num
    ring

/-- The field that stands between other bytes. -/
theorem field_between (pre l post : List Byte) (w : Nat) (h : l.length = w) :
    field (pre ++ l ++ post) pre.length w = beNat l := by
  subst h
  simp [field]

/-- A number read back from a payload (R181). -/
theorem field_bytes (pre post : List Byte) (w n : Nat) (h : n < 256 ^ w) :
    field (pre ++ bytes w n ++ post) pre.length w = n := by
  rw [field_between pre _ post w (length_bytes w n), beNat_bytes, Nat.mod_eq_of_lt h]

/-- A signed number read back from its bytes (R181). -/
theorem twosComplement_signed (w : Nat) (x : Int) (hw : 0 < w) (hl : -(2 ^ (8 * w - 1)) ≤ x)
    (hu : x < 2 ^ (8 * w - 1)) : twosComplement w (x % 2 ^ (8 * w)).toNat = x := by
  obtain ⟨k, hk⟩ : ∃ k, 8 * w = k + 1 := ⟨8 * w - 1, by omega⟩
  have hs : 8 * w - 1 = k := by omega
  have hq : (2 : Int) ^ k = ((2 ^ k : Nat) : Int) := by push_cast; rfl
  unfold twosComplement
  rw [hs, hq] at hl hu
  rw [hk, Nat.add_sub_cancel, pow_succ, hq]
  have hpos : 0 < (2 : Nat) ^ k := Nat.two_pow_pos _
  generalize (2 : Nat) ^ k = m at *
  rcases lt_or_ge x 0 with hx | hx
  · have : x % ((m : Int) * 2) = x + m * 2 := by
      rw [← Int.add_mul_emod_self_left x (m * 2) 1, Int.emod_eq_of_lt] <;> omega
    rw [this]
    split <;> omega
  · have : x % ((m : Int) * 2) = x := Int.emod_eq_of_lt hx (by omega)
    rw [this]
    split <;> omega

/-! ## Sets -/

theorem mem_members (size sum n : Nat) : n ∈ members size sum ↔ n < size ∧ sum.testBit n = true := by
  simp [members]

theorem hasCode_two_pow (sum k : Nat) : hasCode sum (2 ^ k) = sum.testBit k := by
  rw [hasCode, Nat.testBit_eq_decide_div_mod_eq]

/-- A set is sent as the sum of its members' codes (R181). -/
theorem setSum_eq_powerSum (l : List Nat) : setSum l = powerSum l := by
  have h : ∀ acc, l.foldl (fun acc n => acc + 2 ^ n) acc = acc + powerSum l := by
    induction l with
    | nil => intro acc; simp [powerSum]
    | cons n l ih => intro acc; rw [List.foldl_cons, ih]; simp [powerSum]; ring
  simpa [setSum] using h 0

theorem mem_insertAsc (n m : Nat) (l : List Nat) : m ∈ insertAsc n l ↔ m = n ∨ m ∈ l := by
  induction l with
  | nil => simp [insertAsc]
  | cons k l ih =>
    unfold insertAsc
    split
    · simp
    · split
      · subst_vars; simp
      · simp [ih]; tauto

/-- A number put into an ascending list leaves it ascending. -/
theorem pairwise_insertAsc (n : Nat) (l : List Nat) (h : l.Pairwise (· < ·)) :
    (insertAsc n l).Pairwise (· < ·) := by
  induction l with
  | nil => simp [insertAsc]
  | cons k l ih =>
    rw [List.pairwise_cons] at h
    unfold insertAsc
    split
    · rename_i hn
      refine List.pairwise_cons.mpr ⟨?_, List.pairwise_cons.mpr h⟩
      intro m hm
      rcases List.mem_cons.mp hm with rfl | hm
      · exact hn
      · exact lt_trans hn (h.1 m hm)
    · split
      · exact List.pairwise_cons.mpr h
      · refine List.pairwise_cons.mpr ⟨?_, ih h.2⟩
        intro m hm
        rcases (mem_insertAsc n m l).mp hm with rfl | hm
        · omega
        · exact h.1 m hm

end Sys2Proof.Machine
end

