-- ==== Sys2Proof/Laws/State.lean ====
section
/-! SUPPORT. One lemma for each record and each update of the state that leaves it alone, so that no
later proof unfolds an update. -/

namespace Sys2Proof.Machine

variable (s : State)

/-! ## modifyCharge -/

@[simp] theorem State.modifyCharge_resetAsserted (i : Nat) (f : Charge → Charge) :
    (s.modifyCharge i f).resetAsserted = s.resetAsserted := rfl
@[simp] theorem State.modifyCharge_link (i : Nat) (f : Charge → Charge) :
    (s.modifyCharge i f).link = s.link := rfl
@[simp] theorem State.modifyCharge_species (i : Nat) (f : Charge → Charge) :
    (s.modifyCharge i f).species = s.species := rfl
@[simp] theorem State.modifyCharge_schedules (i : Nat) (f : Charge → Charge) :
    (s.modifyCharge i f).schedules = s.schedules := rfl
@[simp] theorem State.modifyCharge_chambers (i : Nat) (f : Charge → Charge) :
    (s.modifyCharge i f).chambers = s.chambers := rfl
@[simp] theorem State.modifyCharge_port (i : Nat) (f : Charge → Charge) :
    (s.modifyCharge i f).port = s.port := rfl
@[simp] theorem State.modifyCharge_tracker (i : Nat) (f : Charge → Charge) :
    (s.modifyCharge i f).tracker = s.tracker := rfl
@[simp] theorem State.modifyCharge_sorter (i : Nat) (f : Charge → Charge) :
    (s.modifyCharge i f).sorter = s.sorter := rfl
@[simp] theorem State.modifyCharge_packs (i : Nat) (f : Charge → Charge) :
    (s.modifyCharge i f).packs = s.packs := rfl
@[simp] theorem State.modifyCharge_labels (i : Nat) (f : Charge → Charge) :
    (s.modifyCharge i f).labels = s.labels := rfl
@[simp] theorem State.modifyCharge_attention (i : Nat) (f : Charge → Charge) :
    (s.modifyCharge i f).attention = s.attention := rfl
@[simp] theorem State.modifyCharge_pending (i : Nat) (f : Charge → Charge) :
    (s.modifyCharge i f).pending = s.pending := rfl

/-! ## setSchedule -/

@[simp] theorem State.setSchedule_resetAsserted (n : Nat) (x : Option Schedule) :
    (s.setSchedule n x).resetAsserted = s.resetAsserted := rfl
@[simp] theorem State.setSchedule_link (n : Nat) (x : Option Schedule) :
    (s.setSchedule n x).link = s.link := rfl
@[simp] theorem State.setSchedule_charges (n : Nat) (x : Option Schedule) :
    (s.setSchedule n x).charges = s.charges := rfl
@[simp] theorem State.setSchedule_species (n : Nat) (x : Option Schedule) :
    (s.setSchedule n x).species = s.species := rfl
@[simp] theorem State.setSchedule_chambers (n : Nat) (x : Option Schedule) :
    (s.setSchedule n x).chambers = s.chambers := rfl
@[simp] theorem State.setSchedule_port (n : Nat) (x : Option Schedule) :
    (s.setSchedule n x).port = s.port := rfl
@[simp] theorem State.setSchedule_tracker (n : Nat) (x : Option Schedule) :
    (s.setSchedule n x).tracker = s.tracker := rfl
@[simp] theorem State.setSchedule_sorter (n : Nat) (x : Option Schedule) :
    (s.setSchedule n x).sorter = s.sorter := rfl
@[simp] theorem State.setSchedule_packs (n : Nat) (x : Option Schedule) :
    (s.setSchedule n x).packs = s.packs := rfl
@[simp] theorem State.setSchedule_labels (n : Nat) (x : Option Schedule) :
    (s.setSchedule n x).labels = s.labels := rfl
@[simp] theorem State.setSchedule_attention (n : Nat) (x : Option Schedule) :
    (s.setSchedule n x).attention = s.attention := rfl
@[simp] theorem State.setSchedule_pending (n : Nat) (x : Option Schedule) :
    (s.setSchedule n x).pending = s.pending := rfl

/-! ## setChamber -/

@[simp] theorem State.setChamber_resetAsserted (n : Nat) (c : Chamber) :
    (s.setChamber n c).resetAsserted = s.resetAsserted := rfl
@[simp] theorem State.setChamber_link (n : Nat) (c : Chamber) :
    (s.setChamber n c).link = s.link := rfl
@[simp] theorem State.setChamber_charges (n : Nat) (c : Chamber) :
    (s.setChamber n c).charges = s.charges := rfl
@[simp] theorem State.setChamber_species (n : Nat) (c : Chamber) :
    (s.setChamber n c).species = s.species := rfl
@[simp] theorem State.setChamber_schedules (n : Nat) (c : Chamber) :
    (s.setChamber n c).schedules = s.schedules := rfl
@[simp] theorem State.setChamber_port (n : Nat) (c : Chamber) :
    (s.setChamber n c).port = s.port := rfl
@[simp] theorem State.setChamber_tracker (n : Nat) (c : Chamber) :
    (s.setChamber n c).tracker = s.tracker := rfl
@[simp] theorem State.setChamber_sorter (n : Nat) (c : Chamber) :
    (s.setChamber n c).sorter = s.sorter := rfl
@[simp] theorem State.setChamber_packs (n : Nat) (c : Chamber) :
    (s.setChamber n c).packs = s.packs := rfl
@[simp] theorem State.setChamber_labels (n : Nat) (c : Chamber) :
    (s.setChamber n c).labels = s.labels := rfl
@[simp] theorem State.setChamber_attention (n : Nat) (c : Chamber) :
    (s.setChamber n c).attention = s.attention := rfl
@[simp] theorem State.setChamber_pending (n : Nat) (c : Chamber) :
    (s.setChamber n c).pending = s.pending := rfl

/-! ## modifyPack -/

@[simp] theorem State.modifyPack_resetAsserted (i : Nat) (f : Pack → Pack) :
    (s.modifyPack i f).resetAsserted = s.resetAsserted := rfl
@[simp] theorem State.modifyPack_link (i : Nat) (f : Pack → Pack) :
    (s.modifyPack i f).link = s.link := rfl
@[simp] theorem State.modifyPack_charges (i : Nat) (f : Pack → Pack) :
    (s.modifyPack i f).charges = s.charges := rfl
@[simp] theorem State.modifyPack_species (i : Nat) (f : Pack → Pack) :
    (s.modifyPack i f).species = s.species := rfl
@[simp] theorem State.modifyPack_schedules (i : Nat) (f : Pack → Pack) :
    (s.modifyPack i f).schedules = s.schedules := rfl
@[simp] theorem State.modifyPack_chambers (i : Nat) (f : Pack → Pack) :
    (s.modifyPack i f).chambers = s.chambers := rfl
@[simp] theorem State.modifyPack_port (i : Nat) (f : Pack → Pack) :
    (s.modifyPack i f).port = s.port := rfl
@[simp] theorem State.modifyPack_tracker (i : Nat) (f : Pack → Pack) :
    (s.modifyPack i f).tracker = s.tracker := rfl
@[simp] theorem State.modifyPack_sorter (i : Nat) (f : Pack → Pack) :
    (s.modifyPack i f).sorter = s.sorter := rfl
@[simp] theorem State.modifyPack_labels (i : Nat) (f : Pack → Pack) :
    (s.modifyPack i f).labels = s.labels := rfl
@[simp] theorem State.modifyPack_attention (i : Nat) (f : Pack → Pack) :
    (s.modifyPack i f).attention = s.attention := rfl
@[simp] theorem State.modifyPack_pending (i : Nat) (f : Pack → Pack) :
    (s.modifyPack i f).pending = s.pending := rfl

/-! ## freePack -/

@[simp] theorem State.freePack_resetAsserted (i : Nat) :
    (s.freePack i).resetAsserted = s.resetAsserted := rfl
@[simp] theorem State.freePack_link (i : Nat) :
    (s.freePack i).link = s.link := rfl
@[simp] theorem State.freePack_charges (i : Nat) :
    (s.freePack i).charges = s.charges := rfl
@[simp] theorem State.freePack_species (i : Nat) :
    (s.freePack i).species = s.species := rfl
@[simp] theorem State.freePack_schedules (i : Nat) :
    (s.freePack i).schedules = s.schedules := rfl
@[simp] theorem State.freePack_chambers (i : Nat) :
    (s.freePack i).chambers = s.chambers := rfl
@[simp] theorem State.freePack_port (i : Nat) :
    (s.freePack i).port = s.port := rfl
@[simp] theorem State.freePack_tracker (i : Nat) :
    (s.freePack i).tracker = s.tracker := rfl
@[simp] theorem State.freePack_sorter (i : Nat) :
    (s.freePack i).sorter = s.sorter := rfl
@[simp] theorem State.freePack_labels (i : Nat) :
    (s.freePack i).labels = s.labels := rfl
@[simp] theorem State.freePack_attention (i : Nat) :
    (s.freePack i).attention = s.attention := rfl
@[simp] theorem State.freePack_pending (i : Nat) :
    (s.freePack i).pending = s.pending := rfl

/-! ## setCurrent -/

@[simp] theorem State.setCurrent_resetAsserted (b : Nat) (p : Option Nat) :
    (s.setCurrent b p).resetAsserted = s.resetAsserted := rfl
@[simp] theorem State.setCurrent_link (b : Nat) (p : Option Nat) :
    (s.setCurrent b p).link = s.link := rfl
@[simp] theorem State.setCurrent_charges (b : Nat) (p : Option Nat) :
    (s.setCurrent b p).charges = s.charges := rfl
@[simp] theorem State.setCurrent_species (b : Nat) (p : Option Nat) :
    (s.setCurrent b p).species = s.species := rfl
@[simp] theorem State.setCurrent_schedules (b : Nat) (p : Option Nat) :
    (s.setCurrent b p).schedules = s.schedules := rfl
@[simp] theorem State.setCurrent_chambers (b : Nat) (p : Option Nat) :
    (s.setCurrent b p).chambers = s.chambers := rfl
@[simp] theorem State.setCurrent_port (b : Nat) (p : Option Nat) :
    (s.setCurrent b p).port = s.port := rfl
@[simp] theorem State.setCurrent_tracker (b : Nat) (p : Option Nat) :
    (s.setCurrent b p).tracker = s.tracker := rfl
@[simp] theorem State.setCurrent_sorter (b : Nat) (p : Option Nat) :
    (s.setCurrent b p).sorter = s.sorter := rfl
@[simp] theorem State.setCurrent_labels (b : Nat) (p : Option Nat) :
    (s.setCurrent b p).labels = s.labels := rfl
@[simp] theorem State.setCurrent_attention (b : Nat) (p : Option Nat) :
    (s.setCurrent b p).attention = s.attention := rfl
@[simp] theorem State.setCurrent_pending (b : Nat) (p : Option Nat) :
    (s.setCurrent b p).pending = s.pending := rfl

/-! ## setDecision -/

@[simp] theorem State.setDecision_resetAsserted (q : Nat) (d : Decision) :
    (s.setDecision q d).resetAsserted = s.resetAsserted := rfl
@[simp] theorem State.setDecision_link (q : Nat) (d : Decision) :
    (s.setDecision q d).link = s.link := rfl
@[simp] theorem State.setDecision_charges (q : Nat) (d : Decision) :
    (s.setDecision q d).charges = s.charges := rfl
@[simp] theorem State.setDecision_species (q : Nat) (d : Decision) :
    (s.setDecision q d).species = s.species := rfl
@[simp] theorem State.setDecision_schedules (q : Nat) (d : Decision) :
    (s.setDecision q d).schedules = s.schedules := rfl
@[simp] theorem State.setDecision_chambers (q : Nat) (d : Decision) :
    (s.setDecision q d).chambers = s.chambers := rfl
@[simp] theorem State.setDecision_port (q : Nat) (d : Decision) :
    (s.setDecision q d).port = s.port := rfl
@[simp] theorem State.setDecision_sorter (q : Nat) (d : Decision) :
    (s.setDecision q d).sorter = s.sorter := rfl
@[simp] theorem State.setDecision_packs (q : Nat) (d : Decision) :
    (s.setDecision q d).packs = s.packs := rfl
@[simp] theorem State.setDecision_labels (q : Nat) (d : Decision) :
    (s.setDecision q d).labels = s.labels := rfl
@[simp] theorem State.setDecision_attention (q : Nat) (d : Decision) :
    (s.setDecision q d).attention = s.attention := rfl
@[simp] theorem State.setDecision_pending (q : Nat) (d : Decision) :
    (s.setDecision q d).pending = s.pending := rfl

/-! ## removeEntry -/

@[simp] theorem State.removeEntry_resetAsserted (q : Nat) :
    (s.removeEntry q).resetAsserted = s.resetAsserted := rfl
@[simp] theorem State.removeEntry_link (q : Nat) :
    (s.removeEntry q).link = s.link := rfl
@[simp] theorem State.removeEntry_charges (q : Nat) :
    (s.removeEntry q).charges = s.charges := rfl
@[simp] theorem State.removeEntry_species (q : Nat) :
    (s.removeEntry q).species = s.species := rfl
@[simp] theorem State.removeEntry_schedules (q : Nat) :
    (s.removeEntry q).schedules = s.schedules := rfl
@[simp] theorem State.removeEntry_chambers (q : Nat) :
    (s.removeEntry q).chambers = s.chambers := rfl
@[simp] theorem State.removeEntry_port (q : Nat) :
    (s.removeEntry q).port = s.port := rfl
@[simp] theorem State.removeEntry_sorter (q : Nat) :
    (s.removeEntry q).sorter = s.sorter := rfl
@[simp] theorem State.removeEntry_packs (q : Nat) :
    (s.removeEntry q).packs = s.packs := rfl
@[simp] theorem State.removeEntry_labels (q : Nat) :
    (s.removeEntry q).labels = s.labels := rfl
@[simp] theorem State.removeEntry_attention (q : Nat) :
    (s.removeEntry q).attention = s.attention := rfl
@[simp] theorem State.removeEntry_pending (q : Nat) :
    (s.removeEntry q).pending = s.pending := rfl

/-! ## setReceiver -/

@[simp] theorem State.setReceiver_resetAsserted (r : Option (List RxChar)) :
    (s.setReceiver r).resetAsserted = s.resetAsserted := rfl
@[simp] theorem State.setReceiver_link (r : Option (List RxChar)) :
    (s.setReceiver r).link = s.link := rfl
@[simp] theorem State.setReceiver_charges (r : Option (List RxChar)) :
    (s.setReceiver r).charges = s.charges := rfl
@[simp] theorem State.setReceiver_species (r : Option (List RxChar)) :
    (s.setReceiver r).species = s.species := rfl
@[simp] theorem State.setReceiver_schedules (r : Option (List RxChar)) :
    (s.setReceiver r).schedules = s.schedules := rfl
@[simp] theorem State.setReceiver_chambers (r : Option (List RxChar)) :
    (s.setReceiver r).chambers = s.chambers := rfl
@[simp] theorem State.setReceiver_port (r : Option (List RxChar)) :
    (s.setReceiver r).port = s.port := rfl
@[simp] theorem State.setReceiver_sorter (r : Option (List RxChar)) :
    (s.setReceiver r).sorter = s.sorter := rfl
@[simp] theorem State.setReceiver_packs (r : Option (List RxChar)) :
    (s.setReceiver r).packs = s.packs := rfl
@[simp] theorem State.setReceiver_labels (r : Option (List RxChar)) :
    (s.setReceiver r).labels = s.labels := rfl
@[simp] theorem State.setReceiver_attention (r : Option (List RxChar)) :
    (s.setReceiver r).attention = s.attention := rfl
@[simp] theorem State.setReceiver_pending (r : Option (List RxChar)) :
    (s.setReceiver r).pending = s.pending := rfl

/-! ## setPlanSlot -/

@[simp] theorem State.setPlanSlot_resetAsserted (n : Nat) (p : PlanSlot) :
    (s.setPlanSlot n p).resetAsserted = s.resetAsserted := rfl
@[simp] theorem State.setPlanSlot_link (n : Nat) (p : PlanSlot) :
    (s.setPlanSlot n p).link = s.link := rfl
@[simp] theorem State.setPlanSlot_charges (n : Nat) (p : PlanSlot) :
    (s.setPlanSlot n p).charges = s.charges := rfl
@[simp] theorem State.setPlanSlot_species (n : Nat) (p : PlanSlot) :
    (s.setPlanSlot n p).species = s.species := rfl
@[simp] theorem State.setPlanSlot_schedules (n : Nat) (p : PlanSlot) :
    (s.setPlanSlot n p).schedules = s.schedules := rfl
@[simp] theorem State.setPlanSlot_chambers (n : Nat) (p : PlanSlot) :
    (s.setPlanSlot n p).chambers = s.chambers := rfl
@[simp] theorem State.setPlanSlot_port (n : Nat) (p : PlanSlot) :
    (s.setPlanSlot n p).port = s.port := rfl
@[simp] theorem State.setPlanSlot_tracker (n : Nat) (p : PlanSlot) :
    (s.setPlanSlot n p).tracker = s.tracker := rfl
@[simp] theorem State.setPlanSlot_packs (n : Nat) (p : PlanSlot) :
    (s.setPlanSlot n p).packs = s.packs := rfl
@[simp] theorem State.setPlanSlot_labels (n : Nat) (p : PlanSlot) :
    (s.setPlanSlot n p).labels = s.labels := rfl
@[simp] theorem State.setPlanSlot_attention (n : Nat) (p : PlanSlot) :
    (s.setPlanSlot n p).attention = s.attention := rfl
@[simp] theorem State.setPlanSlot_pending (n : Nat) (p : PlanSlot) :
    (s.setPlanSlot n p).pending = s.pending := rfl

/-! ## modifyGate -/

@[simp] theorem State.modifyGate_resetAsserted (b : Nat) (f : Nat → Nat) :
    (s.modifyGate b f).resetAsserted = s.resetAsserted := rfl
@[simp] theorem State.modifyGate_link (b : Nat) (f : Nat → Nat) :
    (s.modifyGate b f).link = s.link := rfl
@[simp] theorem State.modifyGate_charges (b : Nat) (f : Nat → Nat) :
    (s.modifyGate b f).charges = s.charges := rfl
@[simp] theorem State.modifyGate_species (b : Nat) (f : Nat → Nat) :
    (s.modifyGate b f).species = s.species := rfl
@[simp] theorem State.modifyGate_schedules (b : Nat) (f : Nat → Nat) :
    (s.modifyGate b f).schedules = s.schedules := rfl
@[simp] theorem State.modifyGate_chambers (b : Nat) (f : Nat → Nat) :
    (s.modifyGate b f).chambers = s.chambers := rfl
@[simp] theorem State.modifyGate_port (b : Nat) (f : Nat → Nat) :
    (s.modifyGate b f).port = s.port := rfl
@[simp] theorem State.modifyGate_tracker (b : Nat) (f : Nat → Nat) :
    (s.modifyGate b f).tracker = s.tracker := rfl
@[simp] theorem State.modifyGate_packs (b : Nat) (f : Nat → Nat) :
    (s.modifyGate b f).packs = s.packs := rfl
@[simp] theorem State.modifyGate_labels (b : Nat) (f : Nat → Nat) :
    (s.modifyGate b f).labels = s.labels := rfl
@[simp] theorem State.modifyGate_attention (b : Nat) (f : Nat → Nat) :
    (s.modifyGate b f).attention = s.attention := rfl
@[simp] theorem State.modifyGate_pending (b : Nat) (f : Nat → Nat) :
    (s.modifyGate b f).pending = s.pending := rfl

/-! ## unqueue -/

@[simp] theorem State.unqueue_resetAsserted (i : Nat) :
    (s.unqueue i).resetAsserted = s.resetAsserted := rfl
@[simp] theorem State.unqueue_link (i : Nat) :
    (s.unqueue i).link = s.link := rfl
@[simp] theorem State.unqueue_charges (i : Nat) :
    (s.unqueue i).charges = s.charges := rfl
@[simp] theorem State.unqueue_species (i : Nat) :
    (s.unqueue i).species = s.species := rfl
@[simp] theorem State.unqueue_schedules (i : Nat) :
    (s.unqueue i).schedules = s.schedules := rfl
@[simp] theorem State.unqueue_chambers (i : Nat) :
    (s.unqueue i).chambers = s.chambers := rfl
@[simp] theorem State.unqueue_port (i : Nat) :
    (s.unqueue i).port = s.port := rfl
@[simp] theorem State.unqueue_tracker (i : Nat) :
    (s.unqueue i).tracker = s.tracker := rfl
@[simp] theorem State.unqueue_sorter (i : Nat) :
    (s.unqueue i).sorter = s.sorter := rfl
@[simp] theorem State.unqueue_packs (i : Nat) :
    (s.unqueue i).packs = s.packs := rfl
@[simp] theorem State.unqueue_attention (i : Nat) :
    (s.unqueue i).attention = s.attention := rfl
@[simp] theorem State.unqueue_pending (i : Nat) :
    (s.unqueue i).pending = s.pending := rfl

/-! ## queueTail -/

@[simp] theorem State.queueTail_resetAsserted (i : Nat) :
    (s.queueTail i).resetAsserted = s.resetAsserted := rfl
@[simp] theorem State.queueTail_link (i : Nat) :
    (s.queueTail i).link = s.link := rfl
@[simp] theorem State.queueTail_charges (i : Nat) :
    (s.queueTail i).charges = s.charges := rfl
@[simp] theorem State.queueTail_species (i : Nat) :
    (s.queueTail i).species = s.species := rfl
@[simp] theorem State.queueTail_schedules (i : Nat) :
    (s.queueTail i).schedules = s.schedules := rfl
@[simp] theorem State.queueTail_chambers (i : Nat) :
    (s.queueTail i).chambers = s.chambers := rfl
@[simp] theorem State.queueTail_port (i : Nat) :
    (s.queueTail i).port = s.port := rfl
@[simp] theorem State.queueTail_tracker (i : Nat) :
    (s.queueTail i).tracker = s.tracker := rfl
@[simp] theorem State.queueTail_sorter (i : Nat) :
    (s.queueTail i).sorter = s.sorter := rfl
@[simp] theorem State.queueTail_attention (i : Nat) :
    (s.queueTail i).attention = s.attention := rfl
@[simp] theorem State.queueTail_pending (i : Nat) :
    (s.queueTail i).pending = s.pending := rfl

/-! ## queueHead -/

@[simp] theorem State.queueHead_resetAsserted (i : Nat) :
    (s.queueHead i).resetAsserted = s.resetAsserted := rfl
@[simp] theorem State.queueHead_link (i : Nat) :
    (s.queueHead i).link = s.link := rfl
@[simp] theorem State.queueHead_charges (i : Nat) :
    (s.queueHead i).charges = s.charges := rfl
@[simp] theorem State.queueHead_species (i : Nat) :
    (s.queueHead i).species = s.species := rfl
@[simp] theorem State.queueHead_schedules (i : Nat) :
    (s.queueHead i).schedules = s.schedules := rfl
@[simp] theorem State.queueHead_chambers (i : Nat) :
    (s.queueHead i).chambers = s.chambers := rfl
@[simp] theorem State.queueHead_port (i : Nat) :
    (s.queueHead i).port = s.port := rfl
@[simp] theorem State.queueHead_tracker (i : Nat) :
    (s.queueHead i).tracker = s.tracker := rfl
@[simp] theorem State.queueHead_sorter (i : Nat) :
    (s.queueHead i).sorter = s.sorter := rfl
@[simp] theorem State.queueHead_attention (i : Nat) :
    (s.queueHead i).attention = s.attention := rfl
@[simp] theorem State.queueHead_pending (i : Nat) :
    (s.queueHead i).pending = s.pending := rfl

/-! ## raise -/

@[simp] theorem State.raise_resetAsserted (k : AttnClass) (o : AttnObject) :
    (s.raise k o).resetAsserted = s.resetAsserted := rfl
@[simp] theorem State.raise_link (k : AttnClass) (o : AttnObject) :
    (s.raise k o).link = s.link := rfl
@[simp] theorem State.raise_charges (k : AttnClass) (o : AttnObject) :
    (s.raise k o).charges = s.charges := rfl
@[simp] theorem State.raise_species (k : AttnClass) (o : AttnObject) :
    (s.raise k o).species = s.species := rfl
@[simp] theorem State.raise_schedules (k : AttnClass) (o : AttnObject) :
    (s.raise k o).schedules = s.schedules := rfl
@[simp] theorem State.raise_chambers (k : AttnClass) (o : AttnObject) :
    (s.raise k o).chambers = s.chambers := rfl
@[simp] theorem State.raise_port (k : AttnClass) (o : AttnObject) :
    (s.raise k o).port = s.port := rfl
@[simp] theorem State.raise_tracker (k : AttnClass) (o : AttnObject) :
    (s.raise k o).tracker = s.tracker := rfl
@[simp] theorem State.raise_sorter (k : AttnClass) (o : AttnObject) :
    (s.raise k o).sorter = s.sorter := rfl
@[simp] theorem State.raise_packs (k : AttnClass) (o : AttnObject) :
    (s.raise k o).packs = s.packs := rfl
@[simp] theorem State.raise_labels (k : AttnClass) (o : AttnObject) :
    (s.raise k o).labels = s.labels := rfl
@[simp] theorem State.raise_pending (k : AttnClass) (o : AttnObject) :
    (s.raise k o).pending = s.pending := rfl

/-! ## holdPack -/

@[simp] theorem State.holdPack_resetAsserted (i n : Nat) :
    (s.holdPack i n).resetAsserted = s.resetAsserted := rfl
@[simp] theorem State.holdPack_link (i n : Nat) :
    (s.holdPack i n).link = s.link := rfl
@[simp] theorem State.holdPack_charges (i n : Nat) :
    (s.holdPack i n).charges = s.charges := rfl
@[simp] theorem State.holdPack_species (i n : Nat) :
    (s.holdPack i n).species = s.species := rfl
@[simp] theorem State.holdPack_schedules (i n : Nat) :
    (s.holdPack i n).schedules = s.schedules := rfl
@[simp] theorem State.holdPack_chambers (i n : Nat) :
    (s.holdPack i n).chambers = s.chambers := rfl
@[simp] theorem State.holdPack_port (i n : Nat) :
    (s.holdPack i n).port = s.port := rfl
@[simp] theorem State.holdPack_tracker (i n : Nat) :
    (s.holdPack i n).tracker = s.tracker := rfl
@[simp] theorem State.holdPack_sorter (i n : Nat) :
    (s.holdPack i n).sorter = s.sorter := rfl
@[simp] theorem State.holdPack_labels (i n : Nat) :
    (s.holdPack i n).labels = s.labels := rfl
@[simp] theorem State.holdPack_pending (i n : Nat) :
    (s.holdPack i n).pending = s.pending := rfl

/-! ## answered -/

@[simp] theorem State.answered_resetAsserted (l : List Byte) (n : Nat) (a : Answer) :
    (s.answered l n a).resetAsserted = s.resetAsserted := rfl
@[simp] theorem State.answered_charges (l : List Byte) (n : Nat) (a : Answer) :
    (s.answered l n a).charges = s.charges := rfl
@[simp] theorem State.answered_species (l : List Byte) (n : Nat) (a : Answer) :
    (s.answered l n a).species = s.species := rfl
@[simp] theorem State.answered_schedules (l : List Byte) (n : Nat) (a : Answer) :
    (s.answered l n a).schedules = s.schedules := rfl
@[simp] theorem State.answered_chambers (l : List Byte) (n : Nat) (a : Answer) :
    (s.answered l n a).chambers = s.chambers := rfl
@[simp] theorem State.answered_port (l : List Byte) (n : Nat) (a : Answer) :
    (s.answered l n a).port = s.port := rfl
@[simp] theorem State.answered_tracker (l : List Byte) (n : Nat) (a : Answer) :
    (s.answered l n a).tracker = s.tracker := rfl
@[simp] theorem State.answered_sorter (l : List Byte) (n : Nat) (a : Answer) :
    (s.answered l n a).sorter = s.sorter := rfl
@[simp] theorem State.answered_packs (l : List Byte) (n : Nat) (a : Answer) :
    (s.answered l n a).packs = s.packs := rfl
@[simp] theorem State.answered_labels (l : List Byte) (n : Nat) (a : Answer) :
    (s.answered l n a).labels = s.labels := rfl
@[simp] theorem State.answered_attention (l : List Byte) (n : Nat) (a : Answer) :
    (s.answered l n a).attention = s.attention := rfl
@[simp] theorem State.answered_pending (l : List Byte) (n : Nat) (a : Answer) :
    (s.answered l n a).pending = s.pending := rfl

/-! ## withCharge -/

@[simp] theorem State.withCharge_resetAsserted (i : Nat) (c : Charge) :
    (s.withCharge i c).resetAsserted = s.resetAsserted := rfl
@[simp] theorem State.withCharge_link (i : Nat) (c : Charge) :
    (s.withCharge i c).link = s.link := rfl
@[simp] theorem State.withCharge_species (i : Nat) (c : Charge) :
    (s.withCharge i c).species = s.species := rfl
@[simp] theorem State.withCharge_schedules (i : Nat) (c : Charge) :
    (s.withCharge i c).schedules = s.schedules := rfl
@[simp] theorem State.withCharge_chambers (i : Nat) (c : Charge) :
    (s.withCharge i c).chambers = s.chambers := rfl
@[simp] theorem State.withCharge_port (i : Nat) (c : Charge) :
    (s.withCharge i c).port = s.port := rfl
@[simp] theorem State.withCharge_tracker (i : Nat) (c : Charge) :
    (s.withCharge i c).tracker = s.tracker := rfl
@[simp] theorem State.withCharge_sorter (i : Nat) (c : Charge) :
    (s.withCharge i c).sorter = s.sorter := rfl
@[simp] theorem State.withCharge_packs (i : Nat) (c : Charge) :
    (s.withCharge i c).packs = s.packs := rfl
@[simp] theorem State.withCharge_labels (i : Nat) (c : Charge) :
    (s.withCharge i c).labels = s.labels := rfl
@[simp] theorem State.withCharge_attention (i : Nat) (c : Charge) :
    (s.withCharge i c).attention = s.attention := rfl
@[simp] theorem State.withCharge_pending (i : Nat) (c : Charge) :
    (s.withCharge i c).pending = s.pending := rfl

/-! ## withPack -/

@[simp] theorem State.withPack_resetAsserted (i : Nat) (p : Pack) :
    (s.withPack i p).resetAsserted = s.resetAsserted := rfl
@[simp] theorem State.withPack_link (i : Nat) (p : Pack) :
    (s.withPack i p).link = s.link := rfl
@[simp] theorem State.withPack_charges (i : Nat) (p : Pack) :
    (s.withPack i p).charges = s.charges := rfl
@[simp] theorem State.withPack_species (i : Nat) (p : Pack) :
    (s.withPack i p).species = s.species := rfl
@[simp] theorem State.withPack_schedules (i : Nat) (p : Pack) :
    (s.withPack i p).schedules = s.schedules := rfl
@[simp] theorem State.withPack_chambers (i : Nat) (p : Pack) :
    (s.withPack i p).chambers = s.chambers := rfl
@[simp] theorem State.withPack_port (i : Nat) (p : Pack) :
    (s.withPack i p).port = s.port := rfl
@[simp] theorem State.withPack_tracker (i : Nat) (p : Pack) :
    (s.withPack i p).tracker = s.tracker := rfl
@[simp] theorem State.withPack_sorter (i : Nat) (p : Pack) :
    (s.withPack i p).sorter = s.sorter := rfl
@[simp] theorem State.withPack_labels (i : Nat) (p : Pack) :
    (s.withPack i p).labels = s.labels := rfl
@[simp] theorem State.withPack_attention (i : Nat) (p : Pack) :
    (s.withPack i p).attention = s.attention := rfl
@[simp] theorem State.withPack_pending (i : Nat) (p : Pack) :
    (s.withPack i p).pending = s.pending := rfl

/-! ## withQueue -/

@[simp] theorem State.withQueue_resetAsserted (l : List Entry) :
    (s.withQueue l).resetAsserted = s.resetAsserted := rfl
@[simp] theorem State.withQueue_link (l : List Entry) :
    (s.withQueue l).link = s.link := rfl
@[simp] theorem State.withQueue_charges (l : List Entry) :
    (s.withQueue l).charges = s.charges := rfl
@[simp] theorem State.withQueue_species (l : List Entry) :
    (s.withQueue l).species = s.species := rfl
@[simp] theorem State.withQueue_schedules (l : List Entry) :
    (s.withQueue l).schedules = s.schedules := rfl
@[simp] theorem State.withQueue_chambers (l : List Entry) :
    (s.withQueue l).chambers = s.chambers := rfl
@[simp] theorem State.withQueue_port (l : List Entry) :
    (s.withQueue l).port = s.port := rfl
@[simp] theorem State.withQueue_sorter (l : List Entry) :
    (s.withQueue l).sorter = s.sorter := rfl
@[simp] theorem State.withQueue_packs (l : List Entry) :
    (s.withQueue l).packs = s.packs := rfl
@[simp] theorem State.withQueue_labels (l : List Entry) :
    (s.withQueue l).labels = s.labels := rfl
@[simp] theorem State.withQueue_attention (l : List Entry) :
    (s.withQueue l).attention = s.attention := rfl
@[simp] theorem State.withQueue_pending (l : List Entry) :
    (s.withQueue l).pending = s.pending := rfl

end Sys2Proof.Machine
end

