-- ==== Sys2Proof/Laws/Ops.lean ====
section
/-! SUPPORT. What each shared operation over the records does, once and whole. -/

namespace Sys2Proof.Machine

/-! ## Reaching a record -/

theorem nth1_set1 {α : Type} (l : List α) (n m : Nat) (a : α) :
    nth1 (set1 l n a) m = if n = m then (nth1 l m).map (fun _ => a) else nth1 l m := by
  match n, m with
  | 0, 0 => simp [nth1]
  | 0, m + 1 => simp [set1]
  | n + 1, 0 => simp [nth1]
  | n + 1, m + 1 =>
    simp only [nth1, set1, List.getElem?_set, Nat.succ.injEq]
    split
    · subst_vars
      split
      · rename_i h; simp [List.getElem?_eq_getElem h]
      · rename_i h; simp [List.getElem?_eq_none (Nat.le_of_not_lt h)]
    · rfl

@[simp] theorem length_set1 {α : Type} (l : List α) (n : Nat) (a : α) : (set1 l n a).length = l.length := by
  cases n <;> simp [set1]

/-- A chamber record replaced is the only one that changes. -/
theorem State.chamber?_setChamber (s : State) (n m : Nat) (c : Chamber) :
    (s.setChamber n c).chamber? m = if n = m then (s.chamber? m).map (fun _ => c) else s.chamber? m :=
  nth1_set1 s.chambers n m c

/-- A schedule slot replaced is the only one that changes. -/
theorem State.schedule?_setSchedule (s : State) (n m : Nat) (x : Option Schedule) (h1 : 1 ≤ n)
    (h2 : n ≤ s.schedules.length) :
    (s.setSchedule n x).schedule? m = if n = m then x else s.schedule? m := by
  simp only [State.schedule?, State.setSchedule, nth1_set1]
  split
  · rename_i h
    obtain ⟨k, rfl⟩ : ∃ k, n = k + 1 := ⟨n - 1, by omega⟩
    rw [← h, nth1, List.getElem?_eq_getElem (by omega)]
    simp
  · rfl

/-- A list entry changed through its option is the only one that changes. -/
theorem join_modify {α : Type} (l : List (Option α)) (i j : Nat) (f : α → α) :
    ((l.modify i (Option.map f))[j]?).join = if i = j then ((l[j]?).join).map f else (l[j]?).join := by
  rw [List.getElem?_modify]
  split
  · rcases l[j]? with _ | _ | _ <;> simp
  · simp

/-- A list entry replaced is the only one that changes. -/
theorem join_set {α : Type} (l : List (Option α)) (i j : Nat) (o : Option α) (h : i < l.length) :
    ((l.set i o)[j]?).join = if i = j then o else (l[j]?).join := by
  rw [List.getElem?_set]
  split
  · subst_vars; simp
  · rfl

theorem State.charge?_modifyCharge (s : State) (i j : Nat) (f : Charge → Charge) :
    (s.modifyCharge i f).charge? j = if i = j then (s.charge? j).map f else s.charge? j :=
  join_modify s.charges i j f

theorem State.pack?_modifyPack (s : State) (i j : Nat) (f : Pack → Pack) :
    (s.modifyPack i f).pack? j = if i = j then (s.pack? j).map f else s.pack? j :=
  join_modify s.packs.records i j f

theorem State.charge?_withCharge (s : State) (i j : Nat) (c : Charge) (h : i < s.charges.length) :
    (s.withCharge i c).charge? j = if i = j then some c else s.charge? j :=
  join_set s.charges i j (some c) h

theorem State.pack?_withPack (s : State) (i j : Nat) (p : Pack) (h : i < s.packs.records.length) :
    (s.withPack i p).pack? j = if i = j then some p else s.pack? j :=
  join_set s.packs.records i j (some p) h

theorem State.pack?_freePack (s : State) (i j : Nat) (h : i < s.packs.records.length) :
    (s.freePack i).pack? j = if i = j then none else s.pack? j :=
  join_set s.packs.records i j none h

theorem State.currentPack_setCurrent (s : State) (b c : Nat) (p : Option Nat)
    (h : b < s.packs.current.length) :
    (s.setCurrent b p).currentPack c = if b = c then p else s.currentPack c :=
  join_set s.packs.current b c p h

/-- A live charge stands in a slot that exists. -/
theorem State.lt_of_charge? {s : State} {i : Nat} {c : Charge} (h : s.charge? i = some c) :
    i < s.charges.length := by
  rcases Nat.lt_or_ge i s.charges.length with hl | hl
  · exact hl
  · simp [State.charge?, List.getElem?_eq_none hl] at h

/-- A live pack stands in a slot that exists. -/
theorem State.lt_of_pack? {s : State} {i : Nat} {p : Pack} (h : s.pack? i = some p) :
    i < s.packs.records.length := by
  rcases Nat.lt_or_ge i s.packs.records.length with hl | hl
  · exact hl
  · simp [State.pack?, List.getElem?_eq_none hl] at h

/-- A live charge changed is the record of its slot replaced. -/
theorem State.modifyCharge_eq_withCharge {s : State} {i : Nat} {c : Charge} (h : s.charge? i = some c)
    (f : Charge → Charge) : s.modifyCharge i f = s.withCharge i (f c) := by
  have hl := State.lt_of_charge? h
  have hg : s.charges[i]? = some (some c) := by
    rcases hx : s.charges[i]? with _ | _ | x <;> simp_all [State.charge?]
  simp only [State.modifyCharge, State.withCharge, List.modify_eq_set_getElem?, hg]
  rfl

/-- A live pack changed is the record of its slot replaced. -/
theorem State.modifyPack_eq_withPack {s : State} {i : Nat} {p : Pack} (h : s.pack? i = some p)
    (f : Pack → Pack) : s.modifyPack i f = s.withPack i (f p) := by
  have hl := State.lt_of_pack? h
  have hg : s.packs.records[i]? = some (some p) := by
    rcases hx : s.packs.records[i]? with _ | _ | x <;> simp_all [State.pack?]
  simp only [State.modifyPack, State.withPack, List.modify_eq_set_getElem?, hg]
  rfl

/-- An absent slot changes nothing. -/
@[simp] theorem State.modifyChargeOf_none (s : State) (f : Charge → Charge) : s.modifyChargeOf none f = s := rfl

@[simp] theorem State.modifyChargeOf_some (s : State) (i : Nat) (f : Charge → Charge) :
    s.modifyChargeOf (some i) f = s.modifyCharge i f := rfl

/-- A plan slot replaced is the only one that changes. -/
theorem Sorter.slot_setSlot (t : Sorter) (n m : Nat) (p : PlanSlot) :
    (t.setSlot n p).slot m = if (n = 0 ↔ m = 0) then p else t.slot m := by
  by_cases hn : n = 0 <;> by_cases hm : m = 0 <;> simp [Sorter.slot, Sorter.setSlot, hn, hm]

@[simp] theorem Sorter.gates_setSlot (t : Sorter) (n : Nat) (p : PlanSlot) : (t.setSlot n p).gates = t.gates := by
  unfold Sorter.setSlot; split <;> rfl

/-- A frame replaced is the only one that changes. -/
theorem Labels.frame_setFrame (l : Labels) (n m : Nat) (f : Frame) :
    (l.setFrame n f).frame m = if (n = 0 ↔ m = 0) then f else l.frame m := by
  by_cases hn : n = 0 <;> by_cases hm : m = 0 <;> simp [Labels.frame, Labels.setFrame, hn, hm]

/-! ## Attention -/

theorem Attention.get_set (a : Attention) (j k : AttnClass) (r : AttnRecord) :
    (a.set k r).get j = if k = j then r else a.get j := by
  cases k <;> cases j <;> rfl

/-- An occurrence reaches the record of its class alone. -/
theorem State.get_raise (s : State) (j k : AttnClass) (o : AttnObject) :
    (s.raise k o).attention.get j =
      if k = j then (s.attention.get j).occur o else s.attention.get j := by
  simp only [State.raise, Attention.get_set]
  split
  · subst_vars; rfl
  · rfl

/-! ## Requests -/

/-- The link takes a transfer exactly while RESET_N is released and no transfer straddles its release. -/
theorem State.linkReady_iff (s : State) :
    s.linkReady = true ↔ s.resetAsserted = false ∧ s.link.transfer = .idle := by
  simp [State.linkReady]

/-- A request with a whole payload and any padding reaches its owner (R174, R176). -/
theorem State.request_ready {s : State} (h : s.linkReady = true) (code : Byte)
    (owner : List Byte → State → Reply) (p pad : List Byte) (hp : p.length ≤ 250) :
    s.request code owner (BitVec.ofNat 8 p.length) (p ++ pad) =
      match owner p s with
      | .ok payload t => t.afterRequest code p pad .ok payload
      | .refuse st => s.afterRequest code p pad st [] := by
  have hl : (BitVec.ofNat 8 p.length).toNat = p.length := by simp; omega
  have h1 : ¬ Config.maxPayload < p.length := by simpa [Config.maxPayload] using hp
  have h2 : ¬ p.length + pad.length < p.length := by omega
  simp only [State.request, h, hl, Bool.not_true, Bool.false_eq_true, if_false, h1, List.length_append, h2,
    List.take_left']
  cases owner p s <;> rfl

/-- A request that the link does not take leaves the records alone. -/
theorem State.request_not_ready {s : State} (h : s.linkReady = false) (code : Byte)
    (owner : List Byte → State → Reply) (d : Byte) (bs : List Byte) :
    s.request code owner d bs = s.skipTransfer (2 + bs.length) := by
  simp [State.request, h]

theorem State.skipTransfer_records (s : State) (n : Nat) :
    s.skipTransfer n = { s with link := (s.skipTransfer n).link } := by
  unfold State.skipTransfer; split <;> rfl

/-! ## The end of a pack (R137, R138) -/

/-- The label queue takes a live pack at its tail. -/
theorem State.queueTail_eq {s : State} {i : Nat} {p : Pack} (h : s.pack? i = some p) :
    s.queueTail i = { s.withPack i { p with state := .labelQueued } with
      labels := { s.labels with queue := s.labels.queue ++ [i] } } := by
  simp only [State.queueTail, State.modifyPack_eq_withPack h]
  rfl

/-- A live pack becomes HELD with PACK_HELD raised. -/
theorem State.holdPack_eq {s : State} {i : Nat} {p : Pack} (h : s.pack? i = some p) (n : Nat) :
    s.holdPack i n = (s.withPack i { p with state := .held }).raise .packHeld (.pack n) := by
  rw [State.holdPack, State.modifyPack_eq_withPack h]

/-- The close of a pack, in its three cases (R138). -/
theorem State.closePack_eq {s : State} {i : Nat} {p : Pack} (h : s.pack? i = some p) :
    s.closePack i =
      if p.pieces = 0 then s.freePack i
      else if (p.quarantine || p.quarantineMix) = true then
        (s.withPack i { p with state := .held }).raise .packHeld (.pack p.number)
      else { s.withPack i { p with state := .labelQueued } with
        labels := { s.labels with queue := s.labels.queue ++ [i] } } := by
  simp only [State.closePack, h]
  split
  · rfl
  · split
    · exact State.holdPack_eq h _
    · exact State.queueTail_eq h

/-! ## Hold causes -/

/-- The state of a chamber is re-formed by its hold causes (R57). -/
theorem Chamber.reform_eq (c : Chamber) : c.reform = { c with state := formedState c.state c.causes } := by
  have h : (c.causes.isEmpty = true) = (c.causes = ⟨false, false, false, false⟩) := by
    rcases c.causes with ⟨a, b, d, e⟩
    cases a <;> cases b <;> cases d <;> cases e <;> simp [Causes.isEmpty]
  unfold Chamber.reform formedState
  split <;> simp_all

/-- Nothing is due on a chamber whose second action is not. -/
theorem State.limitAction_not_due {s : State} {n : Nat} (h : ∀ c, s.chamber? n = some c → c.limitDue = false) :
    s.limitAction n = s := by
  unfold State.limitAction
  split
  · rfl
  · rename_i c hc
    simp [h c hc]

/-! ## The chain -/

/-- A position is reached when the difference modulo 2^24 is below 2^23 (R94). -/
theorem positionReached_iff (s : State) (x : Nat) :
    positionReached s.tracker.position x = true ↔ s.Reached x := by
  simp [positionReached, State.Reached, Config.chainModulus, Config.chainHalf]

end Sys2Proof.Machine
end

