-- ==== Sys2Proof/Laws/Blocks.lean ====
section
/-! SUPPORT. What the operations that several commands share inside one block do: the step advance, the
step records of a payload, the decision of a board, the drain check and the events of an entry. -/

namespace Sys2Proof.Machine

/-! ## Kiln side -/

/-- A step advance leaves what R66 gives. -/
theorem State.advanceStep_leaves (s : State) (n : Nat) (c : Chamber) (how : LastAdvance) :
    AdvanceLeaves s n c how (s.advanceStep n c how) := by
  intro k sc r slot ch hk hs hr hc hch
  have hsc : s.scheduleOf c = sc := by simp [State.scheduleOf, hk, hs]
  constructor
  · intro u hu
    have hl : r.index + 1 < sc.steps.length := (List.getElem?_eq_some_iff.mp hu).1
    simp only [State.advanceStep, hr, hsc, hl, if_true, Run.load, Schedule.stepAt, hu, Option.getD_some]
  · intro hl
    have hn : ¬ r.index + 1 < sc.steps.length := by omega
    simp only [State.advanceStep, hr, hsc, hn, if_false, State.completeChamber, hc,
      State.modifyChargeOf_some]
    exact congrArg (fun u => State.raise u .kilnDone (.chamber n))
      (State.modifyCharge_eq_withCharge (s := s.setChamber n _) hch _)

/-- The 11 bytes that send a step are read as that step, whatever follows (R41). -/
theorem readStep_of_sends {t : Step} {p : List Byte} (h : SendsStep t p) (rest : List Byte) :
    readStep (p ++ rest) = some t := by
  obtain ⟨⟨h1, h2, h3, h4, h5, h6, h7⟩, x, a, rfl, hk⟩ := h
  cases hkd : t.kind with
  | time =>
    rw [if_pos hkd] at hk
    rcases t with ⟨dt, dp, rp, kd, th, du, ol⟩
    simp only at *
    subst hkd
    obtain ⟨rfl, rfl⟩ := hk
    simp [readStep, field, beNat, bytes]
    omega
  | meanBelow | wettestBelow =>
    rw [if_neg (by rw [hkd]; decide)] at hk
    obtain ⟨rfl, rfl⟩ := hk
    rcases t with ⟨dt, dp, rp, kd, th, du, ol⟩
    simp only at *
    subst hkd
    cases ol <;> simp [readStep, field, beNat, bytes, AdvanceKind.ofCode, OnLimit.ofCode] <;> omega

/-- A sequence of sent steps is read as those steps (R44). -/
theorem readSteps_of_sends {steps : List Step} {parts : List (List Byte)}
    (h : List.Forall₂ SendsStep steps parts) (rest : List Byte) :
    readSteps steps.length (parts.flatten ++ rest) = some steps := by
  induction h with
  | nil => rfl
  | @cons t p ts ps ht hts ih =>
    have hp : p.length = 11 := by
      obtain ⟨-, x, a, rfl, -⟩ := ht
      simp
    have hd : (p ++ (ps.flatten ++ rest)).drop 11 = ps.flatten ++ rest := by
      rw [← hp]; simp
    simp only [List.flatten_cons, List.append_assoc, List.length_cons, readSteps,
      readStep_of_sends ht, hd, ih]

/-! ## Outfeed -/

/-- The entry found by the edge sequence of a queue place. -/
theorem State.entry?_of_queueAt {s : State} {l r : List Entry} {e : Entry} (h : s.QueueAt l e r) :
    s.entry? e.sequence = some e := by
  obtain ⟨hq, hne⟩ := h
  rw [State.entry?, hq, List.find?_append]
  have : l.find? (fun x => decide (x.sequence = e.sequence)) = none := by
    rw [List.find?_eq_none]
    intro x hx
    simpa using hne x (by simp [hx])
  simp [this]

/-- A removed entry leaves the others in their order. -/
theorem State.removeEntry_of_queueAt {s : State} {l r : List Entry} {e : Entry} (h : s.QueueAt l e r) :
    s.removeEntry e.sequence = s.withQueue (l ++ r) := by
  obtain ⟨hq, hne⟩ := h
  have key : ∀ m : List Entry, (∀ x ∈ m, x.sequence ≠ e.sequence) →
      m.filter (fun x => decide (x.sequence ≠ e.sequence)) = m := by
    intro m hm
    rw [List.filter_eq_self]
    intro x hx
    simpa using hm x hx
  simp only [State.removeEntry, State.withQueue, hq, List.filter_append, List.filter_cons]
  rw [key l (fun x hx => hne x (by simp [hx])), key r (fun x hx => hne x (by simp [hx]))]
  simp

/-- Writing a decision, counting it and changing a gate, in the words of the obligations. -/
theorem State.setDecision_eq (s : State) (e : Entry) (d : Decision) : s.setDecision e.sequence d = s.decidedAs e d :=
  rfl

theorem State.countDecision_eq (s : State) (n : Nat) : s.countDecision n = s.decidedUnder n := rfl

theorem State.modifyGate_eq (s : State) (b : Nat) (f : Nat → Nat) : s.modifyGate b f = s.withGate b f := rfl

/-- The drain check (R124). -/
theorem State.drainCheck_eq (s : State) (n : Nat) : s.drainCheck n = s.drained n := by
  have h : ((s.sorter.slot n).decided - 1 = 0) = ((s.sorter.slot n).decided ≤ 1) := by
    apply propext; omega
  simp only [State.drainCheck, State.drained, h]

/-- An entry whose target is not reached is left alone (R95). -/
theorem State.takeReached_of_not_due {s : State} {q : Nat} (h : s.dueEvent q = none) (fuel : Nat) :
    s.takeReached fuel q = s := by
  cases fuel <;> simp [State.takeReached, h]

/-- A close-request on a pack (R137). -/
theorem State.closeRequest_eq {s : State} {i : Nat} {p : Pack} (h : s.pack? i = some p) (why : CloseReason) :
    s.closeRequest i why =
      let t := (s.withPack i { p with state := .closing, closeReason := some why }).setCurrent p.bin none
      if p.bound = 0 then t.closePack i else t := by
  simp only [State.closeRequest, h, State.modifyPack_eq_withPack h]

end Sys2Proof.Machine
end

