-- ==== Sys2Proof/Laws/PerInstr.lean ====
section
/-! SUPPORT. One lemma per command about the bytes of its transfer (R173, R174, R182). -/

open Sys2Proof

namespace Sys2Proof.Laws.RequestCode

/-- A command has a request code exactly when it has a declared length and a payload. Its transfer is
then its code, the declared length and the bytes after it, and if the command is well formed its code is
not that of an answer transfer and the transfer is not broken. -/
def Statement (c : Instr) : Prop :=
  (requestCode c).isSome = (requestBody c).isSome ∧
    ∀ code d bs, requestCode c = some code → requestBody c = some (d, bs) →
      encodeTransfer c = some (code :: d :: bs) ∧
        (c.wellFormed = true → code ≠ 0 ∧ isBroken d bs = false)

/-- A command that is no request. -/
theorem of_no_code {c : Instr} (h : requestCode c = none) (h' : requestBody c = none) : Statement c :=
  ⟨by rw [h, h']; rfl, fun _ _ _ e => by simp [h] at e⟩

/-- A request with a fixed code. -/
theorem of_code {c : Instr} {code d : Byte} {bs : List Byte} (h : requestCode c = some code)
    (h' : requestBody c = some (d, bs)) (he : encodeTransfer c = some (code :: d :: bs)) (hz : code ≠ 0)
    (hw : c.wellFormed = true → requestOk d bs = true) : Statement c := by
  refine ⟨by rw [h, h']; rfl, ?_⟩
  intro k e l hk hl
  rw [h, Option.some.injEq] at hk
  rw [h', Option.some.injEq, Prod.mk.injEq] at hl
  obtain ⟨rfl, rfl⟩ := hl
  subst hk
  exact ⟨he, fun w => ⟨hz, by simpa [requestOk] using hw w⟩⟩

theorem powerOn : Statement (.powerOn) := of_no_code rfl rfl

theorem resetNAssert : Statement (.resetNAssert) := of_no_code rfl rfl

theorem resetNRelease (selLow : Bool) : Statement (.resetNRelease selLow) := of_no_code rfl rfl

theorem readAnswer (mosi : List Byte) : Statement (.readAnswer mosi) := of_no_code rfl rfl

theorem brokenRequestTransfer (received : List Byte) : Statement (.brokenRequestTransfer received) := of_no_code rfl rfl

theorem emptyTransfer : Statement (.emptyTransfer) := of_no_code rfl rfl

theorem unknownRequest (code declared : Byte) (bytes : List Byte) :
    Statement (.unknownRequest code declared bytes) := by
  refine ⟨rfl, ?_⟩
  rintro k e l hk hl
  simp only [requestCode, Option.some.injEq] at hk
  simp only [requestBody, Option.some.injEq, Prod.mk.injEq] at hl
  obtain ⟨rfl, rfl⟩ := hl
  subst hk
  refine ⟨rfl, fun w => ?_⟩
  simp only [Instr.wellFormed, requestOk, Bool.and_eq_true, Bool.not_eq_true', bne_iff_ne] at w
  exact ⟨w.1.2, w.1.1⟩

theorem partIdent (declared : Byte) (bytes : List Byte) : Statement (.partIdent declared bytes) :=
  of_code rfl rfl rfl (by decide) (fun w => w)

theorem chargeCreate (declared : Byte) (bytes : List Byte) : Statement (.chargeCreate declared bytes) :=
  of_code rfl rfl rfl (by decide) (fun w => w)

theorem chargeRead (declared : Byte) (bytes : List Byte) : Statement (.chargeRead declared bytes) :=
  of_code rfl rfl rfl (by decide) (fun w => w)

theorem chargeList (declared : Byte) (bytes : List Byte) : Statement (.chargeList declared bytes) :=
  of_code rfl rfl rfl (by decide) (fun w => w)

theorem chargeLimits (declared : Byte) (bytes : List Byte) : Statement (.chargeLimits declared bytes) :=
  of_code rfl rfl rfl (by decide) (fun w => w)

theorem chargeRelease (declared : Byte) (bytes : List Byte) : Statement (.chargeRelease declared bytes) :=
  of_code rfl rfl rfl (by decide) (fun w => w)

theorem chargeFeedEnd (declared : Byte) (bytes : List Byte) : Statement (.chargeFeedEnd declared bytes) :=
  of_code rfl rfl rfl (by decide) (fun w => w)

theorem chargeRetire (declared : Byte) (bytes : List Byte) : Statement (.chargeRetire declared bytes) :=
  of_code rfl rfl rfl (by decide) (fun w => w)

theorem speciesSet (declared : Byte) (bytes : List Byte) : Statement (.speciesSet declared bytes) :=
  of_code rfl rfl rfl (by decide) (fun w => w)

theorem speciesRead (declared : Byte) (bytes : List Byte) : Statement (.speciesRead declared bytes) :=
  of_code rfl rfl rfl (by decide) (fun w => w)

theorem mcTest (declared : Byte) (bytes : List Byte) : Statement (.mcTest declared bytes) :=
  of_code rfl rfl rfl (by decide) (fun w => w)

theorem schedDefine (declared : Byte) (bytes : List Byte) : Statement (.schedDefine declared bytes) :=
  of_code rfl rfl rfl (by decide) (fun w => w)

theorem schedAmend (declared : Byte) (bytes : List Byte) : Statement (.schedAmend declared bytes) :=
  of_code rfl rfl rfl (by decide) (fun w => w)

theorem schedRead (declared : Byte) (bytes : List Byte) : Statement (.schedRead declared bytes) :=
  of_code rfl rfl rfl (by decide) (fun w => w)

theorem schedDelete (declared : Byte) (bytes : List Byte) : Statement (.schedDelete declared bytes) :=
  of_code rfl rfl rfl (by decide) (fun w => w)

theorem chamberLoad (declared : Byte) (bytes : List Byte) : Statement (.chamberLoad declared bytes) :=
  of_code rfl rfl rfl (by decide) (fun w => w)

theorem chamberStart (declared : Byte) (bytes : List Byte) : Statement (.chamberStart declared bytes) :=
  of_code rfl rfl rfl (by decide) (fun w => w)

theorem chamberHold (declared : Byte) (bytes : List Byte) : Statement (.chamberHold declared bytes) :=
  of_code rfl rfl rfl (by decide) (fun w => w)

theorem chamberResume (declared : Byte) (bytes : List Byte) : Statement (.chamberResume declared bytes) :=
  of_code rfl rfl rfl (by decide) (fun w => w)

theorem chamberSkip (declared : Byte) (bytes : List Byte) : Statement (.chamberSkip declared bytes) :=
  of_code rfl rfl rfl (by decide) (fun w => w)

theorem chamberReload (declared : Byte) (bytes : List Byte) : Statement (.chamberReload declared bytes) :=
  of_code rfl rfl rfl (by decide) (fun w => w)

theorem chamberAbort (declared : Byte) (bytes : List Byte) : Statement (.chamberAbort declared bytes) :=
  of_code rfl rfl rfl (by decide) (fun w => w)

theorem chamberUnload (declared : Byte) (bytes : List Byte) : Statement (.chamberUnload declared bytes) :=
  of_code rfl rfl rfl (by decide) (fun w => w)

theorem chamberRead (declared : Byte) (bytes : List Byte) : Statement (.chamberRead declared bytes) :=
  of_code rfl rfl rfl (by decide) (fun w => w)

theorem kilnPortSet (declared : Byte) (bytes : List Byte) : Statement (.kilnPortSet declared bytes) :=
  of_code rfl rfl rfl (by decide) (fun w => w)

theorem kilnPortRead (declared : Byte) (bytes : List Byte) : Statement (.kilnPortRead declared bytes) :=
  of_code rfl rfl rfl (by decide) (fun w => w)

theorem lineSet (declared : Byte) (bytes : List Byte) : Statement (.lineSet declared bytes) :=
  of_code rfl rfl rfl (by decide) (fun w => w)

theorem dimensionSet (declared : Byte) (bytes : List Byte) : Statement (.dimensionSet declared bytes) :=
  of_code rfl rfl rfl (by decide) (fun w => w)

theorem transitRead (declared : Byte) (bytes : List Byte) : Statement (.transitRead declared bytes) :=
  of_code rfl rfl rfl (by decide) (fun w => w)

theorem lineRestart (declared : Byte) (bytes : List Byte) : Statement (.lineRestart declared bytes) :=
  of_code rfl rfl rfl (by decide) (fun w => w)

theorem planLoadHeader (declared : Byte) (bytes : List Byte) : Statement (.planLoadHeader declared bytes) :=
  of_code rfl rfl rfl (by decide) (fun w => ((Bool.and_eq_true _ _).mp w).1)

theorem planLoadRules (declared : Byte) (bytes : List Byte) : Statement (.planLoadRules declared bytes) :=
  of_code rfl rfl rfl (by decide) (fun w => ((Bool.and_eq_true _ _).mp w).1)

theorem planSwitch (declared : Byte) (bytes : List Byte) : Statement (.planSwitch declared bytes) :=
  of_code rfl rfl rfl (by decide) (fun w => w)

theorem planRead (declared : Byte) (bytes : List Byte) : Statement (.planRead declared bytes) :=
  of_code rfl rfl rfl (by decide) (fun w => w)

theorem packRead (declared : Byte) (bytes : List Byte) : Statement (.packRead declared bytes) :=
  of_code rfl rfl rfl (by decide) (fun w => w)

theorem packList (declared : Byte) (bytes : List Byte) : Statement (.packList declared bytes) :=
  of_code rfl rfl rfl (by decide) (fun w => w)

theorem packClose (declared : Byte) (bytes : List Byte) : Statement (.packClose declared bytes) :=
  of_code rfl rfl rfl (by decide) (fun w => w)

theorem packRelease (declared : Byte) (bytes : List Byte) : Statement (.packRelease declared bytes) :=
  of_code rfl rfl rfl (by decide) (fun w => w)

theorem packReject (declared : Byte) (bytes : List Byte) : Statement (.packReject declared bytes) :=
  of_code rfl rfl rfl (by decide) (fun w => w)

theorem packRetire (declared : Byte) (bytes : List Byte) : Statement (.packRetire declared bytes) :=
  of_code rfl rfl rfl (by decide) (fun w => w)

theorem packNumberSet (declared : Byte) (bytes : List Byte) : Statement (.packNumberSet declared bytes) :=
  of_code rfl rfl rfl (by decide) (fun w => w)

theorem templateLoadHeader (declared : Byte) (bytes : List Byte) : Statement (.templateLoadHeader declared bytes) :=
  of_code rfl rfl rfl (by decide) (fun w => ((Bool.and_eq_true _ _).mp w).1)

theorem templateLoadPlacement (declared : Byte) (bytes : List Byte) :
    Statement (.templateLoadPlacement declared bytes) :=
  of_code rfl rfl rfl (by decide) (fun w => ((Bool.and_eq_true _ _).mp w).1)

theorem templateRead (declared : Byte) (bytes : List Byte) : Statement (.templateRead declared bytes) :=
  of_code rfl rfl rfl (by decide) (fun w => w)

theorem labelReprint (declared : Byte) (bytes : List Byte) : Statement (.labelReprint declared bytes) :=
  of_code rfl rfl rfl (by decide) (fun w => w)

theorem labelRead (declared : Byte) (bytes : List Byte) : Statement (.labelRead declared bytes) :=
  of_code rfl rfl rfl (by decide) (fun w => w)

theorem labelPortSet (declared : Byte) (bytes : List Byte) : Statement (.labelPortSet declared bytes) :=
  of_code rfl rfl rfl (by decide) (fun w => w)

theorem labelPortClear (declared : Byte) (bytes : List Byte) : Statement (.labelPortClear declared bytes) :=
  of_code rfl rfl rfl (by decide) (fun w => w)

theorem attnRead (declared : Byte) (bytes : List Byte) : Statement (.attnRead declared bytes) :=
  of_code rfl rfl rfl (by decide) (fun w => w)

theorem attnAck (declared : Byte) (bytes : List Byte) : Statement (.attnAck declared bytes) :=
  of_code rfl rfl rfl (by decide) (fun w => w)

theorem attnMask (declared : Byte) (bytes : List Byte) : Statement (.attnMask declared bytes) :=
  of_code rfl rfl rfl (by decide) (fun w => w)

theorem minuteTick : Statement (.minuteTick) := of_no_code rfl rfl

theorem workingLimitReached (chamber : Nat) : Statement (.workingLimitReached chamber) := of_no_code rfl rfl

theorem roundTimerExpiry : Statement (.roundTimerExpiry) := of_no_code rfl rfl

theorem deferredRoundStart : Statement (.deferredRoundStart) := of_no_code rfl rfl

theorem transaction : Statement (.transaction) := of_no_code rfl rfl

theorem setpointSent : Statement (.setpointSent) := of_no_code rfl rfl

theorem scanReply (frames : List KilnFrame) : Statement (.scanReply frames) := of_no_code rfl rfl

theorem replyWindowClose (frames : List KilnFrame) : Statement (.replyWindowClose frames) := of_no_code rfl rfl

theorem encPulse : Statement (.encPulse) := of_no_code rfl rfl

theorem edge : Statement (.edge) := of_no_code rfl rfl

theorem expiry : Statement (.expiry) := of_no_code rfl rfl

theorem boardMessage (frames : List BoardFrame) : Statement (.boardMessage frames) := of_no_code rfl rfl

theorem openEvent (sequence : Nat) : Statement (.openEvent sequence) := of_no_code rfl rfl

theorem closeEvent (sequence : Nat) : Statement (.closeEvent sequence) := of_no_code rfl rfl

theorem composition : Statement (.composition) := of_no_code rfl rfl

theorem lblStart : Statement (.lblStart) := of_no_code rfl rfl

theorem rowRead (clocks : Nat) : Statement (.rowRead clocks) := of_no_code rfl rfl

theorem lblEnd : Statement (.lblEnd) := of_no_code rfl rfl

theorem passTimeoutExpiry : Statement (.passTimeoutExpiry) := of_no_code rfl rfl

theorem startCharacter : Statement (.startCharacter) := of_no_code rfl rfl

end Sys2Proof.Laws.RequestCode
end

