-- ==== Sys2Proof/Laws/Serial.lean ====
section
/-! SUPPORT. What the frames of the serial lines bring, and what the two sides of a line do to each
other. -/

namespace Sys2Proof.Machine

@[simp] theorem kilnChars_nil : kilnChars [] = [] := rfl

@[simp] theorem boardChars_nil : boardChars [] = [] := rfl

@[simp] theorem kilnChars_append (k l : List KilnFrame) : kilnChars (k ++ l) = kilnChars k ++ kilnChars l :=
  List.filterMap_append

@[simp] theorem boardChars_append (k l : List BoardFrame) : boardChars (k ++ l) = boardChars k ++ boardChars l :=
  List.filterMap_append

/-- The data bits of a frame follow its start bit. -/
@[simp] theorem frameData_getLsbD {w : Nat} (f : BitVec w) (i : Nat) :
    (frameData f).getLsbD i = (decide (i < 8) && f.getLsbD (i + 1)) := by
  simp [frameData, Nat.add_comm]

/-- Frames that all begin with a start bit bring one character each. -/
theorem length_kilnChars {l : List KilnFrame} (h : ∀ f ∈ l, frameStarts f = true) :
    (kilnChars l).length = l.length := by
  induction l with
  | nil => rfl
  | cons f l ih =>
    have hf := h f (by simp)
    have ih := ih (fun g hg => h g (by simp [hg]))
    simp only [kilnChars] at ih
    simp [kilnChars, kilnChar, hf, ih]

theorem length_boardChars {l : List BoardFrame} (h : ∀ f ∈ l, frameStarts f = true) :
    (boardChars l).length = l.length := by
  induction l with
  | nil => rfl
  | cons f l ih =>
    have hf := h f (by simp)
    have ih := ih (fun g hg => h g (by simp [hg]))
    simp only [boardChars] at ih
    simp [boardChars, boardChar, hf, ih]

/-- A character sent on the board-message input is received as it was sent. -/
@[simp] theorem boardChar_boardFrame (b : Byte) : boardChar (boardFrame b) = some ⟨b, false⟩ := by
  revert b
  decide

end Sys2Proof.Machine
end

