-- ==== Sys2Proof/Laws/Tables.lean ====
section
/-! SUPPORT. What the searches of a table find, and what a list sorted by a key holds. -/

namespace Sys2Proof.Machine

variable {α : Type}

/-- A found record stands in its slot and satisfies the test, and no earlier one does. -/
theorem findLive_some {q : α → Bool} {i : Nat} {l : List (Option α)} {j : Nat} {a : α}
    (h : findLive q i l = some (j, a)) :
    i ≤ j ∧ l[j - i]? = some (some a) ∧ q a = true ∧ ∀ k < j - i, ∀ b, l[k]? = some (some b) → q b = false := by
  induction l generalizing i with
  | nil => simp [findLive] at h
  | cons o l ih =>
    have step (h : findLive q (i + 1) l = some (j, a)) (ho : ∀ b, o = some b → q b = false) :
        i ≤ j ∧ (o :: l)[j - i]? = some (some a) ∧ q a = true ∧
          ∀ k < j - i, ∀ b, (o :: l)[k]? = some (some b) → q b = false := by
      obtain ⟨h1, h2, h3, h4⟩ := ih h
      have e : j - i = (j - (i + 1)) + 1 := by omega
      refine ⟨by omega, by rw [e]; simpa using h2, h3, ?_⟩
      intro k hk b hb
      match k with
      | 0 => exact ho b (by simpa using hb)
      | k + 1 => exact h4 k (by omega) b (by simpa using hb)
    match o with
    | none => exact step (by simpa [findLive] using h) (by simp)
    | some b =>
      rw [findLive] at h
      split at h
      · simp only [Option.some.injEq, Prod.mk.injEq] at h
        obtain ⟨rfl, rfl⟩ := h
        simp_all
      · exact step h (by simp_all)

/-- Nothing is found exactly when no live record satisfies the test. -/
theorem findLive_none {q : α → Bool} {i : Nat} {l : List (Option α)} :
    findLive q i l = none ↔ ∀ a, some a ∈ l → q a = false := by
  induction l generalizing i with
  | nil => simp [findLive]
  | cons o l ih =>
    match o with
    | none => simp [findLive, ih]
    | some b =>
      rw [findLive]
      split
      · rename_i h
        simp only [reduceCtorEq, false_iff]
        intro hh
        simpa [h] using hh b (by simp)
      · rename_i h
        rw [ih]
        simp [Bool.not_eq_true] at h
        simp [h]

/-- The free slot that is found is the lowest. -/
theorem freeSlot_some {i : Nat} {l : List (Option α)} {j : Nat} (h : freeSlot i l = some j) :
    i ≤ j ∧ LowestFree l (j - i) := by
  induction l generalizing i with
  | nil => simp [freeSlot] at h
  | cons o l ih =>
    match o with
    | none =>
      simp only [freeSlot, Option.some.injEq] at h
      subst h
      simp [LowestFree]
    | some b =>
      obtain ⟨h1, h2, h3⟩ := ih (by simpa [freeSlot] using h)
      have e : j - i = (j - (i + 1)) + 1 := by omega
      refine ⟨by omega, by rw [e]; simpa using h2, ?_⟩
      intro k hk
      match k with
      | 0 => exact ⟨b, by simp⟩
      | k + 1 => simpa using h3 k (by omega)

/-- No free slot is found exactly when every slot is taken. -/
theorem freeSlot_none {i : Nat} {l : List (Option α)} : freeSlot i l = none ↔ ∀ o ∈ l, o ≠ none := by
  induction l generalizing i with
  | nil => simp [freeSlot]
  | cons o l ih => match o with
    | none => simp [freeSlot]
    | some b => simp [freeSlot, ih]

theorem mem_liveSlots {i : Nat} {l : List (Option α)} {j : Nat} {a : α} :
    (j, a) ∈ liveSlots i l ↔ i ≤ j ∧ l[j - i]? = some (some a) := by
  induction l generalizing i with
  | nil => simp [liveSlots]
  | cons o l ih =>
    have key : (i + 1 ≤ j ∧ l[j - (i + 1)]? = some (some a)) ↔
        (i < j ∧ (o :: l)[j - i]? = some (some a)) := by
      constructor
      · rintro ⟨h1, h2⟩
        refine ⟨h1, ?_⟩
        rw [show j - i = (j - (i + 1)) + 1 by omega]
        simpa using h2
      · rintro ⟨h1, h2⟩
        refine ⟨h1, ?_⟩
        rw [show j - i = (j - (i + 1)) + 1 by omega] at h2
        simpa using h2
    match o with
    | none =>
      rw [liveSlots, ih, key]
      constructor
      · rintro ⟨h1, h2⟩; exact ⟨by omega, h2⟩
      · rintro ⟨h1, h2⟩
        refine ⟨?_, h2⟩
        rcases Nat.lt_or_ge i j with h | h
        · exact h
        · rw [show j - i = 0 by omega] at h2; simp at h2
    | some b =>
      rw [liveSlots, List.mem_cons, ih, key]
      constructor
      · rintro (h | ⟨h1, h2⟩)
        · simp only [Prod.mk.injEq] at h
          obtain ⟨rfl, rfl⟩ := h
          simp
        · exact ⟨by omega, h2⟩
      · rintro ⟨h1, h2⟩
        rcases Nat.lt_or_ge i j with h | h
        · exact .inr ⟨h, h2⟩
        · have e : j = i := by omega
          subst e
          simp only [Nat.sub_self, List.getElem?_cons_zero, Option.some.injEq] at h2
          exact .inl (by rw [h2])

/-- A list put in order has the same members. -/
theorem perm_insertBy (key : α → Nat) (x : α) (l : List α) : (insertBy key x l).Perm (x :: l) := by
  induction l with
  | nil => simp [insertBy]
  | cons y l ih =>
    unfold insertBy
    split
    · exact List.Perm.refl _
    · exact (List.Perm.cons y ih).trans (List.Perm.swap x y l)

theorem sorted_insertBy (key : α → Nat) (x : α) (l : List α)
    (h : l.Pairwise (fun a b => key a ≤ key b)) :
    (insertBy key x l).Pairwise (fun a b => key a ≤ key b) := by
  induction l with
  | nil => simp [insertBy]
  | cons y l ih =>
    rw [List.pairwise_cons] at h
    unfold insertBy
    split
    · rename_i hk
      refine List.pairwise_cons.mpr ⟨?_, List.pairwise_cons.mpr h⟩
      intro z hz
      rcases List.mem_cons.mp hz with rfl | hz
      · exact Nat.le_of_lt hk
      · exact le_trans (Nat.le_of_lt hk) (h.1 z hz)
    · refine List.pairwise_cons.mpr ⟨?_, ih h.2⟩
      intro z hz
      rcases List.mem_cons.mp ((perm_insertBy key x l).mem_iff.mp hz) with rfl | hz
      · omega
      · exact h.1 z hz

theorem perm_sortBy (key : α → Nat) (l : List α) : (sortBy key l).Perm l := by
  have h : ∀ acc, (l.foldl (fun acc x => insertBy key x acc) acc).Perm (l ++ acc) := by
    induction l with
    | nil => intro acc; exact List.Perm.refl _
    | cons x l ih =>
      intro acc
      rw [List.foldl_cons]
      refine (ih _).trans ?_
      refine ((perm_insertBy key x acc).append_left l).trans ?_
      simp
  simpa [sortBy] using h []

theorem sorted_sortBy (key : α → Nat) (l : List α) :
    (sortBy key l).Pairwise (fun a b => key a ≤ key b) := by
  have h : ∀ acc, acc.Pairwise (fun a b => key a ≤ key b) →
      (l.foldl (fun acc x => insertBy key x acc) acc).Pairwise (fun a b => key a ≤ key b) := by
    induction l with
    | nil => intro acc h; exact h
    | cons x l ih => intro acc h; exact ih _ (sorted_insertBy key x acc h)
  exact h [] List.Pairwise.nil

end Sys2Proof.Machine
end

