-- ==== Sys2Proof/Tests/Slice0.lean ====
section
/-! SUPPORT. Tests: ill-formed commands, the worked examples of the specification (expected values
copied from its tables), and for every obligation with hypotheses a witness that meets them. -/

set_option Elab.async false

open Sys2Proof Sys2Proof.Machine

namespace Sys2Proof.Tests

/-! ## Well-formed commands: one ill-formed command for each check -/

theorem test_wf_request_too_few_bytes : (Instr.chargeRead 2 [0]).wellFormed = false := by decide
theorem test_wf_request_with_padding : (Instr.chargeRead 2 [0, 1, 9]).wellFormed = true := by decide
theorem test_wf_unknown_code_known : (Instr.unknownRequest 16 0 []).wellFormed = false := by decide
theorem test_wf_unknown_code_zero : (Instr.unknownRequest 0 0 []).wellFormed = false := by decide
theorem test_wf_unknown_too_few_bytes : (Instr.unknownRequest 200 1 []).wellFormed = false := by decide
theorem test_wf_broken_empty : (Instr.brokenRequestTransfer []).wellFormed = false := by decide
theorem test_wf_broken_answer_code : (Instr.brokenRequestTransfer [0]).wellFormed = false := by decide
theorem test_wf_broken_whole : (Instr.brokenRequestTransfer [21, 2, 16, 31]).wellFormed = false := by decide
theorem test_wf_plan_header_kind : (Instr.planLoadHeader 1 [1]).wellFormed = false := by decide
theorem test_wf_plan_rules_kind : (Instr.planLoadRules 1 [0]).wellFormed = false := by decide
theorem test_wf_template_header_kind : (Instr.templateLoadHeader 1 [1]).wellFormed = false := by decide
theorem test_wf_template_placement_kind : (Instr.templateLoadPlacement 1 [0]).wellFormed = false := by decide
theorem test_wf_chamber_zero : (Instr.workingLimitReached 0).wellFormed = false := by decide
theorem test_wf_chamber_thirteen : (Instr.workingLimitReached 13).wellFormed = false := by decide
theorem test_wf_open_sequence : (Instr.openEvent 256).wellFormed = false := by decide
theorem test_wf_close_sequence : (Instr.closeEvent 256).wellFormed = false := by decide
theorem test_wf_row_no_clock : (Instr.rowRead 0).wellFormed = false := by decide
theorem test_wf_row_too_many_clocks : (Instr.rowRead 321).wellFormed = false := by decide
theorem test_wf_message_empty : (Instr.boardMessage []).wellFormed = false := by decide
theorem test_wf_message_too_long :
    (Instr.boardMessage (List.replicate 22 (boardFrame 48))).wellFormed = false := by decide
theorem test_wf_reply_empty : (Instr.scanReply []).wellFormed = false := by decide
theorem test_wf_reply_no_start_bit : (Instr.scanReply [0b10000000101#11]).wellFormed = false := by decide
theorem test_wf_window_no_start_bit : (Instr.replyWindowClose [1#11]).wellFormed = false := by decide
theorem test_wf_message_no_start_bit : (Instr.boardMessage [0b1001000111#10]).wellFormed = false := by decide

/-! ## Small states -/

/-- The state that a command leaves. -/
def after (c : Instr) (s : State) : State :=
  match exec c s with
  | .next t => t
  | _ => s

/-- A request with exactly its declared payload. -/
def send (r : Byte → List Byte → Instr) (p : List Byte) : Instr := r (BitVec.ofNat 8 p.length) p

/-- The answer buffer that a request leaves. -/
def answer (r : Byte → List Byte → Instr) (p : List Byte) (s : State) : Answer := (after (send r p) s).link.answer

/-- A charge of species 3 with limits 60, 100 and 150, Qmin 50 and Qp 80. -/
def charge (number : Nat) (st : ChargeState) : Charge :=
  { Charge.created number 3 60 100 150 1200 50 80 with state := st }

/-- One live charge, in slot 5. -/
def withOne (c : Charge) : State := State.reset.withCharge 5 c

/-- The species of section 2.5: meter 70, -5, 24 and probe 64, 12, 16. -/
def redoak : Species := ⟨1, [82, 69, 68, 79, 65, 75, 32, 32], ⟨70, -5, 24⟩, ⟨64, 12, 16⟩⟩

/-- Schedule 20 of the drying run in chapter 4. -/
def schedule20 : Schedule :=
  ⟨1, [⟨450, 40, 25, .time, 0, 3, .advance⟩, ⟨520, 60, 30, .meanBelow, 180, 4, .hold⟩,
    ⟨600, 120, 0, .time, 0, 2, .advance⟩], 1⟩

/-- A chamber in step `i` of schedule 20 with active setpoints. -/
def chamberIn (st : ChamberState) (i elapsed limit dry wet : Nat) : Chamber :=
  { Chamber.reset with
    state := st, chargeSlot := some 11, schedule := some 20
    run := some ⟨i, 1, schedule20.stepAt i, elapsed, limit, dry, wet⟩ }

/-- A LOADED chamber on schedule 20. -/
def loaded : Chamber := { Chamber.reset with state := .loaded, chargeSlot := some 11, schedule := some 20 }

/-- Chamber 5 holds charge 3088, in slot 11 and of species 3, on schedule 20. -/
def kiln (c : Chamber) : State :=
  { ((State.reset.withCharge 11 { charge 3088 .kiln with chamber := some 5 }).setSchedule 20
      (some schedule20)).setChamber 5 c with
    species := List.replicate 16 redoak }

/-- Chamber 5 in the reply window of its transaction. -/
def listening (c : Chamber) : State :=
  { kiln c with port := { Port.reset with
      round := .polling, snapshot := [5], turn := some 0
      transaction := some ⟨5, .listening, ⟨.run, 0, 0⟩, []⟩ } }

/-- Characters without error. -/
def chars (l : List Nat) : List RxChar := l.map (fun n => ⟨BitVec.ofNat 8 n, false⟩)

/-- Characters as they are sent on the kiln line. -/
def kilnLine (l : List Nat) : List KilnFrame := l.map (fun n => kilnFrame (BitVec.ofNat 8 n))

/-- The geometry of the worked sequence of chapter 6. -/
def line6 : Geometry :=
  { pairing := 4000
    offsets := (List.replicate 16 20000).set 15 22000
    lead := 50, trail := 80, scale := 10 }

/-- The dimension classes of the life of pack 2050. -/
def dims8 : Dimensions :=
  { thickness := [10, 10, 10, 45, 10, 10, 10, 10, 10, 10, 10, 10, 10, 10, 10, 10]
    width := [25, 25, 25, 25, 25, 25, 145, 195, 25, 25, 25, 25, 25, 25, 25, 25]
    length := ((List.replicate 32 6).set 9 48).set 11 54 }

/-- An outfeed with a queue and a chain position. -/
def outfeed (position counter : Nat) (queue : List Entry) (s : State) : State :=
  { s with tracker := { Tracker.reset with
      position := position, edgeSequence := counter, queue := queue, geometry := line6, dimensions := dims8 } }

/-- A decision for a bin under plan slot 0. -/
def decided (bin : Nat) (pack : Option Nat) (openPos closePos : Nat) (isOpen : Bool) : Decision :=
  { chargeSlot := some 5, grade := some 2, lengthClass := some 9, widthClass := some 6
    thicknessClass := some 3, mc := some 104, moisture := .pass, reason := .data, bin := bin, planSlot := 0
    packSlot := pack, openPos := openPos, closePos := closePos, gateOpen := isOpen }

/-- A plan: bin 5 builds packs of 6 boards with template 2, and one rule sends everything there. -/
def plan5 : Plan :=
  { reject := 15, quarantine := 15, building := [5]
    templates := (List.replicate 16 0).set 5 2, targets := (List.replicate 16 1).set 5 6, ruleCount := 1
    rules := [⟨[0, 1, 2, 3, 4, 5, 6, 7], List.range 16, 0, 31, List.range 16, [.pass, .wet, .overdry, .unmeasured], 5⟩] }

/-- The Sorter with plan slot 0 ACTIVE and a plan. -/
def sortBy5 (decided : Nat) : Sorter := { Sorter.reset with slot0 := ⟨.active, some plan5, decided⟩ }

/-- The pack of chapter 8, event 12, in a state. -/
def pack2050 (st : PackState) (pieces bound : Nat) : Pack :=
  { Pack.allocated 2050 5 6 2 false with
    state := st, pieces := pieces, bound := bound, tally := [(9, 3), (11, 2)], volume := 1752300
    dimension := some (3, 6), mixedDim := true, grades := [1, 2], charges := [5, 8], measured := 4, mcSum := 433
    lowest := some 96, highest := some 121, quarantineMix := true, closeReason := some .target }

/-- A board message as it is sent on the board-message input. -/
def message (m : BoardMessage) : List BoardFrame := boardFrame 35 :: m.characters.map (fun c => boardFrame c.value)

/-! ## Characters on the lines (R183, R184), the bits written out: stop, parity, data, start -/

theorem test_kiln_start_character : kilnFrame 165 = 0b1_0_10100101_0#11 := by decide
theorem test_kiln_odd_data : kilnChar 0b1_1_00000001_0#11 = some ⟨1, false⟩ := by decide
theorem test_kiln_wrong_parity : kilnChar 0b1_0_00000001_0#11 = some ⟨1, true⟩ := by decide
theorem test_kiln_no_stop_bit : kilnChar 0b0_0_10100101_0#11 = some ⟨165, true⟩ := by decide
theorem test_board_number_sign : boardChar 0b1_00100011_0#10 = some ⟨35, false⟩ := by decide
theorem test_board_framing_error : boardChar 0b0_00100011_0#10 = some ⟨35, true⟩ := by decide
theorem test_board_no_start_bit : boardChar 0b1_00100011_1#10 = none := by decide

/-! ## The link (R173 to R180) -/

theorem test_power_on : (after .powerOn (withOne (charge 4127 .fed))).charges = State.reset.charges := by
  decide +kernel

theorem test_reset_stops_round_timer : (after .resetNAssert State.reset).port.roundTimer = none := by decide +kernel

theorem test_release_starts_round_timer :
    (after (.resetNRelease false) (after .resetNAssert State.reset)).port.roundTimer = some 60 := by decide +kernel

theorem test_straddling_transfer_not_taken :
    (after (send .partIdent []) (after (.resetNRelease true) (after .resetNAssert State.reset))).link =
      Link.reset := by decide +kernel

/-- Transfer 1 of the session in chapter 11. -/
theorem test_read_no_answer : (after (.readAnswer [0, 0, 0]) State.reset).link.miso = [0, 1, 0, 0] := by decide +kernel

/-- Transfer 9 of the session in chapter 11. -/
theorem test_read_in_use :
    (after (.readAnswer [0, 0]) { State.reset with link := { Link.reset with answer := ⟨.inUse, []⟩ } }).link.miso =
      [0, 7, 0] := by decide +kernel

/-- Transfer 5 of the session in chapter 11. -/
theorem test_broken_transfer :
    (after (.brokenRequestTransfer [21, 2, 16])
      { State.reset with link := { Link.reset with answer := ⟨.ok, [1]⟩ } }).link.answer = ⟨.noAnswer, []⟩ := by
  decide +kernel

theorem test_empty_transfer_keeps_answer :
    (after .emptyTransfer { State.reset with link := { Link.reset with answer := ⟨.ok, [1]⟩ } }).link.answer =
      ⟨.ok, [1]⟩ := by decide +kernel

/-- Transfer 10 of the session in chapter 11. -/
theorem test_unknown_request : (after (.unknownRequest 200 0 []) State.reset).link.answer = ⟨.unknownRequest, []⟩ := by
  decide +kernel

theorem test_part_ident_length : (answer .partIdent [] State.reset).payload.length = 24 := by decide +kernel

/-- Transfer 4 of the session in chapter 11: padding is ignored. -/
theorem test_padding_ignored :
    (after (.chargeRead 2 [16, 31, 1, 2, 3, 4, 5, 6]) (withOne (charge 4127 .inFeed))).link.answer.payload.length =
      58 := by decide +kernel

/-- The bytes of CHARGE_FEED_END for charge 4127 (R9, R182). -/
theorem test_decode_feed_end : decodeTransfer [21, 2, 0x10, 0x1F] = .chargeFeedEnd 2 [0x10, 0x1F] := by decide

/-! ## Charges (chapter 1) -/

/-- Event 1 of the life of charge 4127, on an empty table. -/
theorem test_charge_create :
    answer .chargeCreate [0x10, 0x1F, 3, 0, 60, 0, 100, 0, 150, 0x04, 0xB0, 0, 50, 0, 80] State.reset = ⟨.ok, [0]⟩ := by
  decide +kernel

theorem test_charge_duplicate :
    answer .chargeCreate [0x10, 0x1F, 3, 0, 60, 0, 100, 0, 150, 0, 0] (withOne (charge 4127 .fed)) =
      ⟨.duplicate, []⟩ := by decide +kernel

theorem test_charge_read_remaining :
    (answer .chargeRead [0x10, 0x1F] (withOne { charge 4127 .inFeed with seen := 57 })).payload.drop 55 =
      [0, 0x04, 0x77] := by decide +kernel

theorem test_charge_list :
    answer .chargeList [0, 0, 8, 0] (withOne (charge 4127 .inFeed)) = ⟨.ok, [1, 0, 0, 0x10, 0x1F, 5, 4, 0]⟩ := by
  decide +kernel

theorem test_charge_limits :
    ((after (send .chargeLimits [0x10, 0x1F, 0, 70, 0, 110, 0, 160, 0, 20, 0, 150]) (withOne (charge 4127 .fed))).charge? 5).map
      (fun c => (c.dry, c.target, c.wet, c.qmin, c.qp)) = some (70, 110, 160, 20, 150) := by decide +kernel

/-- Event 9 of the life of charge 4127. -/
theorem test_charge_release :
    ((after (send .chargeRelease [0x10, 0x1F, 0, 120])
      (withOne { charge 4127 .inFeed with
        seen := 57, measured := 55, wetCount := 5, winMeasured := 55, winWet := 5, quarantined := true })).charge? 5).map
      (fun c => (c.measured, c.winMeasured, c.winWet, c.quarantined, c.qp)) = some (55, 0, 0, false, 120) := by
  decide +kernel

/-- Event 10 of the life of charge 4127. -/
theorem test_charge_feed_end :
    ((after (send .chargeFeedEnd [0x10, 0x1F]) (withOne (charge 4127 .inFeed))).charge? 5).map (·.state) =
      some .fed := by decide +kernel

/-- Event 11 of the life of charge 4127. -/
theorem test_charge_retire_in_use :
    answer .chargeRetire [0x10, 0x1F] (withOne { charge 4127 .fed with packRef := 3 }) = ⟨.inUse, []⟩ := by
  decide +kernel

/-- Event 13 of the life of charge 4127. -/
theorem test_charge_retire : (after (send .chargeRetire [0x10, 0x1F]) (withOne (charge 4127 .fed))).charge? 5 = none := by
  decide +kernel

/-! ## Moisture (chapter 2) -/

theorem test_species_set :
    (after (send .speciesSet [3, 1, 82, 69, 68, 79, 65, 75, 32, 32, 0, 70, 0xFF, 0xFB, 24, 0, 64, 0, 12, 16])
      State.reset).species[3]? = some redoak := by decide +kernel

theorem test_species_read :
    answer .speciesRead [3] { State.reset with species := List.replicate 16 redoak } =
      ⟨.ok, [3, 1, 82, 69, 68, 79, 65, 75, 32, 32, 0, 70, 0xFF, 0xFB, 24, 0, 64, 0, 12, 16]⟩ := by decide +kernel

/-- The first worked request of section 2.5 (case A). -/
theorem test_mc_test_meter :
    answer .mcTest [3, 1, 0x07, 0x08, 0, 31, 0, 60, 0, 100, 0, 150]
      { State.reset with species := List.replicate 16 redoak } =
      ⟨.ok, [31, 0, 118, 0, 17, 0, 101, 0, 101, 0, 1]⟩ := by decide +kernel

/-- The fifth worked request of section 2.5: PROBE, R 0, T 585. -/
theorem test_mc_test_probe :
    answer .mcTest [3, 2, 0, 0, 0x02, 0x49] { State.reset with species := List.replicate 16 redoak } =
      ⟨.ok, [59, 0, 12, 0, 39, 0xFF, 0xE5, 0, 0, 1, 0]⟩ := by decide +kernel

/-! ## Schedules (chapter 3) -/

/-- Event 1 of the example of chapter 3, with its step 0 alone. -/
theorem test_sched_define :
    (after (send .schedDefine [9, 1, 0x01, 0xF4, 0, 30, 20, 1, 0, 0, 0x02, 0xD0, 1]) State.reset).schedule? 9 =
      some ⟨1, [⟨500, 30, 20, .time, 0, 720, .advance⟩], 0⟩ := by decide +kernel

/-- Event 5 of the example of chapter 3, on schedule 20. -/
theorem test_sched_define_in_use :
    answer .schedDefine [20, 1, 0x01, 0xF4, 0, 30, 20, 1, 0, 0, 0x02, 0xD0, 1] (kiln loaded) = ⟨.inUse, []⟩ := by
  decide +kernel

/-- Event 4 of the example of chapter 3, on schedule 20. -/
theorem test_sched_amend :
    answer .schedAmend [20, 1, 0x02, 0x08, 0, 60, 30, 2, 0, 230, 0, 4, 2] (kiln loaded) = ⟨.ok, [0, 2]⟩ := by
  decide +kernel

/-- Event 6 of the example of chapter 3, on schedule 20. -/
theorem test_sched_amend_no_such :
    answer .schedAmend [20, 4, 0x02, 0x08, 0, 60, 30, 2, 0, 230, 0, 4, 2] (kiln loaded) = ⟨.noSuch, []⟩ := by
  decide +kernel

theorem test_sched_read :
    (answer .schedRead [20] (kiln loaded)).payload.take 16 = [20, 0, 1, 3, 1, 0x01, 0xC2, 0, 40, 25, 1, 0, 0, 0, 3, 1] := by
  decide +kernel

theorem test_sched_delete_in_use : answer .schedDelete [20] (kiln loaded) = ⟨.inUse, []⟩ := by decide +kernel

/-! ## Chambers (chapter 4, the drying run) -/

theorem test_chamber_load :
    let s := (State.reset.withCharge 11 (charge 3088 .staged)).setSchedule 20 (some { schedule20 with refCount := 0 })
    (after (send .chamberLoad [5, 0x0C, 0x10, 20]) s).chamber? 5 = some loaded := by decide +kernel

/-- The start takes the scanned 312 as the dry-bulb setpoint, and the wet-bulb setpoint is 272. -/
theorem test_chamber_start :
    ((after (send .chamberStart [5]) (kiln { loaded with lastScan := some ⟨312, 290, ⟨false, false, false⟩, 0⟩ })).chamber? 5).bind
      (·.run) = some ⟨0, 1, schedule20.stepAt 0, 0, 3, 312, 272⟩ := by decide +kernel

theorem test_chamber_hold :
    ((after (send .chamberHold [5]) (kiln (chamberIn .running 0 0 3 312 272))).chamber? 5).map (·.state) =
      some .hold := by decide +kernel

/-- The resume after the step limit adds the duration of 4 to the limit, making 8. -/
theorem test_chamber_resume :
    ((after (send .chamberResume [5])
      (kiln { chamberIn .hold 1 4 4 507 447 with causes := ⟨false, false, false, true⟩ })).chamber? 5).map
      (fun c => (c.state, c.run.map (·.limit), c.run.map (·.elapsed))) = some (.running, some 8, some 4) := by
  decide +kernel

/-- Assumption 19: a TIME step of duration 3 that was reloaded while STEP_LIMIT was set is extended. -/
theorem test_chamber_resume_time_step :
    ((after (send .chamberResume [5])
      (kiln { chamberIn .hold 0 3 3 337 297 with causes := ⟨false, false, false, true⟩ })).chamber? 5).map
      (fun c => (c.state, c.run.map (·.limit))) = some (.running, some 6) := by decide +kernel

theorem test_chamber_skip : answer .chamberSkip [5] (kiln (chamberIn .running 0 1 3 337 297)) = ⟨.ok, [2, 1]⟩ := by
  decide +kernel

theorem test_chamber_reload :
    ((after (send .chamberReload [5]) (kiln (chamberIn .running 1 4 8 507 447))).chamber? 5).bind
      (fun c => c.run.map (fun r => (r.elapsed, r.limit))) = some (4, 4) := by decide +kernel

theorem test_chamber_abort :
    ((after (send .chamberAbort [5]) (kiln { loaded with causes := ⟨false, true, false, false⟩ })).chamber? 5).map
      (fun c => (c.state, c.causes)) = some (.aborted, ⟨false, true, false, false⟩) := by decide +kernel

theorem test_chamber_unload :
    ((after (send .chamberUnload [5]) (kiln (chamberIn .complete 2 2 2 600 480))).charge? 11).map (·.state) =
      some .dried := by decide +kernel

theorem test_chamber_read_length :
    (answer .chamberRead [5] (kiln (chamberIn .running 1 0 4 387 347))).payload.length = 67 := by decide +kernel

/-- The tick that reaches the limit of 4: the chamber holds with STEP_LIMIT and raises KILN_FAULT. -/
theorem test_step_limit :
    let s := after (.workingLimitReached 5) (after .minuteTick (kiln (chamberIn .running 1 3 4 507 447)))
    (s.chamber? 5).map (fun c => (c.state, c.causes)) = some (.hold, ⟨false, false, false, true⟩) ∧
      s.attention.kilnFault.first = some (.chamber 5) := by decide +kernel

/-- The third counted minute ends the TIME step. -/
theorem test_time_step_ends :
    ((after (.workingLimitReached 5) (after .minuteTick (kiln (chamberIn .running 0 2 3 387 347)))).chamber? 5).map
      (fun c => (c.run.map (fun r => (r.index, r.elapsed, r.limit, r.dry)), c.lastAdvance)) =
      some (some (1, 0, 4, 387), .time) := by decide +kernel

/-! ## The kiln port (chapter 5) -/

theorem test_kiln_port_set :
    (after (send .kilnPortSet [0, 60, 0, 150, 3]) State.reset).port.requested = ⟨60, 150, 3⟩ := by decide +kernel

theorem test_kiln_port_read_length : (answer .kilnPortRead [] State.reset).payload.length = 39 := by decide +kernel

theorem test_round_starts :
    (after .roundTimerExpiry (kiln loaded)).port.snapshot = [5] ∧
      (after .roundTimerExpiry State.reset).port.round = .idle := by decide +kernel

theorem test_deferred_round :
    (after .deferredRoundStart { kiln loaded with port := { Port.reset with startPending := true } }).port.round =
      .polling := by decide +kernel

/-- Round 2 of the drying run: RUN 337 / 297. -/
theorem test_transaction_ramps :
    ((after .transaction { kiln (chamberIn .running 0 0 3 312 272) with
      port := { Port.reset with round := .polling, snapshot := [5], turn := some 0 } }).port.transaction).map (·.message) =
      some ⟨.run, 337, 297⟩ := by decide +kernel

theorem test_setpoint_sent :
    ((after .setpointSent { kiln loaded with port := { Port.reset with
      round := .polling, snapshot := [5], turn := some 0
      transaction := some ⟨5, .sending, ⟨.off, 0, 0⟩, []⟩ } }).port.transaction).map (·.phase) = some .listening := by
  decide +kernel

/-- The scan of section 2.3: mean 165, wettest 186, and the MEAN_BELOW step with threshold 180 advances. -/
theorem test_accepted_scan :
    ((after (.scanReply (kilnLine [5, 0x02, 0x49, 0x02, 0x00, 0, 5, 0x0B, 0xB8, 0x0A, 0xF0, 0x0F, 0xFF, 0x0D, 0x48, 0, 0]))
      (listening (chamberIn .running 1 1 4 447 387))).chamber? 5).map
      (fun c => (c.estMean, c.estWettest, c.lastAdvance, c.run.map (·.index))) =
      some (some 165, some 186, .moisture, some 2) := by decide +kernel

/-- Event 12 of the example of chapter 5: a window closes with no character. -/
theorem test_window_closes :
    (after (.replyWindowClose []) (listening loaded)).port.modules[4]? = some ⟨1, .noReply⟩ := by decide +kernel

/-! ## The outfeed (chapter 6) -/

/-- The worked case across the wrap. -/
theorem test_position_across_the_wrap :
    positionReached 16777200 1654 = false ∧ positionReached 1654 1654 = true := by decide

theorem test_line_set :
    (after (send .lineSet ([0x0F, 0xA0] ++ List.flatten (List.replicate 16 [0x4E, 0x20]) ++ [50, 80, 10]))
      State.reset).tracker.geometry = ⟨4000, List.replicate 16 20000, 50, 80, 10⟩ := by decide +kernel

theorem test_dimension_set :
    (after (send .dimensionSet (List.replicate 16 45 ++ List.flatten (List.replicate 16 [0, 145]) ++ List.replicate 32 48))
      State.reset).tracker.dimensions = ⟨List.replicate 16 45, List.replicate 16 145, List.replicate 32 48⟩ := by
  decide +kernel

theorem test_transit_read :
    answer .transitRead [0] (outfeed 100350 5 [⟨5, 100300, none⟩] State.reset) =
      ⟨.ok, [1, 0x87, 0xFE, 5, 1, 0, 1, 0, 0, 0, 0, 0, 0, 5, 1, 0x87, 0xCC, 1, 255, 255, 255, 255, 255, 255, 255, 0, 0,
        255, 255, 255, 0, 0, 0, 0, 0, 0, 0]⟩ := by decide +kernel

theorem test_line_restart :
    answer .lineRestart [] (outfeed 100350 5 [⟨5, 100300, none⟩] State.reset) = ⟨.ok, [1]⟩ := by decide +kernel

theorem test_enc_pulse_wraps : (after .encPulse (outfeed 16777215 0 [] State.reset)).tracker.position = 0 := by
  decide +kernel

/-- Event 2 of the worked sequence: an edge that finds 32 entries. -/
theorem test_edge_lost :
    let s := after .edge (outfeed 100900 5 ((List.range 32).map (fun k => ⟨k + 100, 100300, none⟩)) State.reset)
    s.tracker.edgesLost = 1 ∧ s.tracker.edgeSequence = 6 ∧
      s.attention.transit.first = some (.transit 6 .queueFull) := by decide +kernel

/-- Event 7 of the worked sequence: the next edge is entry 7, captured at 102,400. -/
theorem test_edge_entry : (after .edge (outfeed 102400 6 [] State.reset)).tracker.queue = [⟨7, 102400, none⟩] := by
  decide +kernel

/-- Entry 5 expires at 104,300 as NO_DATA for the reject bin, with the distances of event 3. -/
theorem test_expiry :
    (after .expiry (outfeed 104300 5 [⟨5, 100300, none⟩] State.reset)).tracker.queue.map
      (fun e => e.decision.map (fun d => (d.reason, d.bin, d.openPos, d.closePos))) =
      [some (.noData, 15, 122250, 123180)] := by decide +kernel

/-- Event 1 of the worked sequence: message 255 pairs, and its board is decided for bin 3. -/
theorem test_message_pairs :
    let plan3 : Plan := { plan5 with building := [], rules := plan5.rules.map (fun r => { r with bin := 3 }) }
    let s : State := { withOne (charge 4127 .dried) with
      sorter := { Sorter.reset with slot0 := ⟨.active, some plan3, 0⟩ } }
    (after (.boardMessage (message ⟨255, 4127, 2, 9, 6, 3, 1800, 31⟩))
      (outfeed 100500 5 [⟨255, 96700, none⟩] s)).tracker.queue.map
      (fun e => e.decision.map (fun d => (d.bin, d.openPos, d.closePos))) = [some (3, 116650, 117260)] := by
  decide +kernel

/-- Event 9 of the worked sequence: message 6 finds entry 7 waiting and is an orphan. -/
theorem test_message_orphan :
    (after (.boardMessage (message ⟨6, 4127, 2, 9, 6, 3, 1800, 31⟩))
      (outfeed 103000 7 [⟨7, 102400, none⟩] State.reset)).tracker.orphans = 1 := by decide +kernel

/-- Assumption 18: after the edges 1 to 199 and 201 to 256 were lost (R96), entries 0, 200 and 1 wait; the message of entry 1 skips entry 0 alone. -/
theorem test_lost_edges_break_the_run :
    (after (.boardMessage (message ⟨1, 0, 2, 9, 6, 3, 1800, 31⟩))
      (outfeed 100500 1 [⟨0, 100000, none⟩, ⟨200, 100200, none⟩, ⟨1, 100400, none⟩] State.reset)).tracker.queue.map
      (·.decision.isNone) = [false, true, false] := by decide +kernel

/-- Event 5 of the worked sequence: the gate of entry 230 opens at 101,650. -/
theorem test_open_event :
    (after (.openEvent 230) (outfeed 101650 6 [⟨230, 81700, some (decided 3 none 101650 102260 false)⟩]
      State.reset)).sorter.gates[3]? = some 1 := by decide +kernel

/-- Event 6 of the worked sequence: entry 230 closes at 102,260. -/
theorem test_close_event :
    (after (.closeEvent 230) (outfeed 102260 6 [⟨230, 81700, some (decided 3 none 101650 102260 true)⟩]
      State.reset)).tracker.queue = [] := by decide +kernel

theorem test_start_character : (after .startCharacter State.reset).tracker.receiver = some [] := by decide +kernel

theorem test_start_character_inside_message :
    (after .startCharacter { State.reset with tracker := { Tracker.reset with receiver := some (chars [48]) } }).tracker.discarded =
      1 := by decide +kernel

/-! ## Sort plans (chapter 7) -/

theorem test_plan_header :
    answer .planLoadHeader ([0, 15, 15, 0, 32] ++ List.flatten (List.replicate 16 [0, 0, 1]) ++ [1]) State.reset =
      ⟨.ok, [1, 1]⟩ := by decide +kernel

theorem test_plan_rules :
    let s : State := { State.reset with sorter := { Sorter.reset with slot1 := ⟨.shadow, some { plan5 with rules := [] }, 0⟩ } }
    ((after (send .planLoadRules [1, 0, 255, 255, 255, 0, 31, 255, 255, 15, 5]) s).sorter.slot1.plan) = some plan5 := by
  decide +kernel

/-- Event 1 of the switch in chapter 7: slot 1 ACTIVE, the former slot DRAINING, one pack close-requested. -/
theorem test_plan_switch :
    let s : State := { State.reset.withPack 3 { pack2050 .opened 2 1 with target := 6 } with
      sorter := { sortBy5 3 with slot1 := ⟨.shadow, some { plan5 with building := [], rules := [], ruleCount := 0 }, 0⟩ } }
    answer .planSwitch [] (s.setCurrent 5 (some 3)) = ⟨.ok, [1, 3, 1]⟩ := by decide +kernel

theorem test_plan_read :
    (answer .planRead [0, 0] { State.reset with sorter := sortBy5 3 }).payload.drop 56 =
      [1, 1, 0, 1, 255, 255, 255, 0, 31, 255, 255, 15, 5] := by decide +kernel

/-! ## Packs (chapter 8, the life of pack 2050) -/

/-- Event 1: board A allocates pack 2050 in bin 5. -/
theorem test_pack_allocated :
    let s : State := { withOne (charge 4127 .inFeed) with
      sorter := sortBy5 0, packs := { PackTable.reset with nextNumber := 2050 } }
    let t := after (.boardMessage (message ⟨20, 4127, 2, 9, 6, 3, 1800, 31⟩)) (outfeed 100500 20 [⟨20, 100000, none⟩] s)
    (t.pack? 0).map (fun p => (p.number, p.bound, p.target, p.template)) = some (2050, 1, 6, 2) ∧
      t.packs.nextNumber = 2051 ∧ t.currentPack 5 = some 0 := by decide +kernel

/-- Event 13: board F is delivered, and the marked pack becomes HELD with volume 2,065,500 and tally 9:4 11:2. -/
theorem test_pack_delivered :
    let s : State := { (withOne (charge 4127 .inFeed)).withPack 3 (pack2050 .closing 5 1) with sorter := sortBy5 1 }
    let d : Decision := { decided 5 (some 3) 120000 120560 true with grade := some 3, mc := some 99 }
    let t := after (.closeEvent 25) (outfeed 120560 25 [⟨25, 100050, some d⟩] s)
    (t.pack? 3).map (fun p => (p.state, p.pieces, p.bound, p.tally)) = some (.held, 6, 0, [(9, 4), (11, 2)]) ∧
      (t.pack? 3).map (fun p => (p.volume, p.measured, p.mcSum, p.grades)) = some (2065500, 5, 532, [1, 2, 3]) ∧
      t.attention.packHeld.first = some (.pack 2050) := by decide +kernel

theorem test_pack_read_volume :
    ((answer .packRead [0, 0x08, 0x02] (State.reset.withPack 3 (pack2050 .held 6 0))).payload.drop 13).take 5 =
      [0, 0, 0x1A, 0xBC, 0xEC] := by decide +kernel

theorem test_pack_list :
    answer .packList [0, 0, 0, 64, 255, 5] (State.reset.withPack 3 (pack2050 .held 6 0)) =
      ⟨.ok, [1, 0, 0, 0, 0, 0x08, 0x02, 3, 5, 7, 6, 0, 6]⟩ := by decide +kernel

theorem test_pack_close :
    answer .packClose [0, 0x08, 0x02] (State.reset.withPack 3 (pack2050 .opened 2 1)) = ⟨.ok, [2, 1]⟩ := by
  decide +kernel

/-- Event 15. -/
theorem test_pack_release :
    (after (send .packRelease [0, 0x08, 0x02]) (State.reset.withPack 3 (pack2050 .held 6 0))).labels.queue = [3] := by
  decide +kernel

theorem test_pack_reject :
    ((after (send .packReject [0, 0x08, 0x02]) (State.reset.withPack 3 (pack2050 .held 6 0))).pack? 3).map (·.state) =
      some .rejected := by decide +kernel

/-- Event 14. -/
theorem test_pack_retire_held :
    answer .packRetire [0, 0x08, 0x02] (State.reset.withPack 3 (pack2050 .held 6 0)) = ⟨.wrongState, []⟩ := by
  decide +kernel

/-- Event 17. -/
theorem test_pack_retire :
    answer .packRetire [0, 0x08, 0x02] (State.reset.withPack 3 (pack2050 .labelled 6 0)) = ⟨.ok, [2]⟩ := by
  decide +kernel

theorem test_pack_number_set :
    (after (send .packNumberSet [0x0F, 0x42, 0x3F]) State.reset).packs.nextNumber = 999999 := by decide +kernel

/-! ## Labels (chapter 9) -/

theorem test_template_header :
    answer .templateLoadHeader [0, 2, 14] State.reset = ⟨.ok, [2, 14]⟩ := by decide +kernel

theorem test_template_placement :
    (after (send .templateLoadPlacement [1, 2, 0, 2, 5, 10, 0, 0, 0])
      { State.reset with labels := { Labels.reset with load := some ⟨2, 1, []⟩ } }).labels.templates[2]? =
      some [⟨.packNumber, 5, 10, 0, 0, []⟩] := by decide +kernel

theorem test_template_read :
    answer .templateRead [2, 0] { State.reset with labels := { Labels.reset with
      templates := [[], [], [⟨.text, 0, 4, 0, 0, [80, 65]⟩], []] } } = ⟨.ok, [2, 1, 0, 1, 0, 1, 0, 4, 0, 0, 2, 80, 65]⟩ := by
  decide +kernel

/-- The finished record of pack 2050 for its label. -/
def labelPack : Pack :=
  { pack2050 .labelQueued 6 0 with
    tally := [(9, 4), (11, 2)], volume := 2065500, grades := [1, 2, 3], measured := 5, mcSum := 532 }

/-- The state of the worked composition, with placements 4 to 13 in its template 2. -/
def composing : State :=
  let ash : Species := ⟨2, [65, 83, 72, 32, 32, 32, 32, 32], ⟨0, 0, 0⟩, ⟨0, 0, 0⟩⟩
  let at_ (k : FieldKind) (c1 c2 r1 r2 : Nat) : Placement := ⟨k, c1, c2, r1, r2, []⟩
  let records := State.reset.withCharge 5 (charge 4127 .fed)
  { (records.withCharge 8 { charge 6310 .fed with species := 5 }).withPack 3 labelPack with
    species := ((List.replicate 16 Species.reset).set 3 redoak).set 5 ash
    tracker := { Tracker.reset with dimensions := dims8 }
    labels := { Labels.reset with
      queue := [3]
      templates := [[], [], [at_ .packNumber 5 10 0 0, at_ .pieces 18 21 0 0, at_ .volume 28 35 0 0,
        at_ .dimensions 0 9 2 2, at_ .mcMean 14 17 2 2, at_ .mcRange 20 29 2 2, at_ .lengthTally 0 19 4 4,
        at_ .grades 22 29 4 4, at_ .charges 0 5 6 6, at_ .species 20 27 6 7, at_ .marks 0 39 11 11], []] } }

/-- Rows 0 and 2 of the worked composition. -/
theorem test_composition_rows :
    ((after .composition composing).labels.frame0.cells.take 3).map (fun r => (r.drop 5).take 30) =
      [textCodes "002050       6         0.207  ", List.replicate 30 32, textCodes "         10.6  9.6-12.1       "] := by
  decide +kernel

/-- Rows 6 and 7 of the worked composition: CHARGES is cut short, SPECIES wraps and TRUNCATED is set. -/
theorem test_composition_truncates :
    (((after .composition composing).labels.frame0.cells.drop 6).take 2).map (fun r => r.take 28) =
      [textCodes "4127 6              REDOAK A", textCodes "                    SH      "] ∧
    ((after .composition composing).pack? 3).map (fun p => (p.state, p.truncated)) = some (.labelReady, true) := by
  decide +kernel

theorem test_label_reprint :
    answer .labelReprint [0, 0x08, 0x02] (State.reset.withPack 3 (pack2050 .labelled 6 0)) = ⟨.ok, [0]⟩ := by
  decide +kernel

theorem test_label_read_length : (answer .labelRead [0, 0] State.reset).payload.length = 250 := by decide +kernel

theorem test_label_port_set : (after (send .labelPortSet [60]) State.reset).labels.timeout = 60 := by decide +kernel

theorem test_label_port_clear :
    answer .labelPortClear [] { State.reset with labels := { Labels.reset with port := .fault } } = ⟨.ok, [3]⟩ := by
  decide +kernel

/-- The print pass of the worked composition. -/
def printing : State := after .lblStart (after .composition composing)

theorem test_lbl_start :
    printing.labels.port = .printing ∧ printing.labels.passTimeout = some 20 ∧ printing.lblReady = false := by
  decide +kernel

theorem test_row_read :
    ((after (.rowRead 320) printing).labels.servedRow.drop 5).take 6 = textCodes "002050" ∧
      (after (.rowRead 320) printing).labels.cursor = 1 := by decide +kernel

theorem test_lbl_end : ((after .lblEnd printing).pack? 3).map (·.state) = some .labelled := by decide +kernel

theorem test_pass_timeout :
    let s := after .passTimeoutExpiry printing
    s.labels.port = .fault ∧ s.labels.queue = [3] ∧ s.attention.label.first = some (.pack 2050) := by decide +kernel

/-! ## Attention (chapter 10, one afternoon) -/

/-- The masks and records at event 4. -/
def afternoon : State :=
  let clear : AttnRecord := ⟨false, none, false, false⟩
  { State.reset with attention :=
    ⟨⟨true, some (.chamber 3), false, true⟩, clear, ⟨true, some (.chamber 9), true, false⟩, clear, clear, clear, clear, clear⟩ }

/-- Event 4. -/
theorem test_attn_read : (answer .attnRead [] afternoon).payload.take 15 = [5, 1, 1, 0, 0, 0, 3, 0, 0, 0, 0, 1, 0, 0, 9] := by
  decide +kernel

theorem test_attn_ack : answer .attnAck [20] afternoon = ⟨.ok, [4, 1, 0, 0, 9]⟩ := by decide +kernel

/-- Event 10. -/
theorem test_attn_mask : answer .attnMask [0, 1] afternoon = ⟨.ok, [0]⟩ := by decide +kernel

end Sys2Proof.Tests
end

