-- ==== Sys2Proof/Tests/Witnesses.lean ====
section
/-! SUPPORT. For every obligation with hypotheses, a theorem that concrete states and operands meet
them: each clause of the obligation has its own, at the boundary values of its ranges. -/

set_option Elab.async false

open Sys2Proof Sys2Proof.Machine

namespace Sys2Proof.Tests

/-! ## Numbers that one record holds -/

theorem charge?_reset (j : Nat) : State.reset.charge? j = none := by
  simp only [State.charge?, State.reset, List.getElem?_replicate]
  split <;> rfl

theorem pack?_reset (j : Nat) : State.reset.pack? j = none := by
  simp only [State.pack?, State.reset, PackTable.reset, List.getElem?_replicate]
  split <;> rfl

theorem noCharge_reset (n : Nat) : State.reset.NoCharge n := by
  intro j d h
  simp [charge?_reset] at h

theorem noPack_reset (n : Nat) : State.reset.NoPack n := by
  intro j d h
  simp [pack?_reset] at h

/-- A charge put into the empty table is the only one of its number. -/
theorem onlyCharge (i : Nat) (c : Charge) (h : i < 64) : (State.reset.withCharge i c).OnlyCharge c.number i c := by
  have hl : i < State.reset.charges.length := by simpa [State.reset, Config.chargeSlots] using h
  refine ⟨by simp [State.charge?_withCharge _ _ _ _ hl], rfl, fun j d hj _ => ?_⟩
  rw [State.charge?_withCharge _ _ _ _ hl] at hj
  by_contra hne
  rw [if_neg (Ne.symm hne), charge?_reset] at hj
  exact absurd hj (by simp)

/-- A pack put into the empty table is the only one of its number. -/
theorem onlyPack (i : Nat) (p : Pack) (h : i < 48) : (State.reset.withPack i p).OnlyPack p.number i p := by
  have hl : i < State.reset.packs.records.length := by
    simpa [State.reset, PackTable.reset, Config.packSlots] using h
  refine ⟨by simp [State.pack?_withPack _ _ _ _ hl], rfl, fun j d hj _ => ?_⟩
  rw [State.pack?_withPack _ _ _ _ hl] at hj
  by_contra hne
  rw [if_neg (Ne.symm hne), pack?_reset] at hj
  exact absurd hj (by simp)

/-- No charge has a number that the table's one charge does not have. -/
theorem noCharge_withCharge (i n : Nat) (c : Charge) (h : i < 64) (hn : c.number ≠ n) :
    (State.reset.withCharge i c).NoCharge n := by
  intro j d hj he
  obtain ⟨h1, -, h3⟩ := onlyCharge i c h
  have hl : i < State.reset.charges.length := by simpa [State.reset, Config.chargeSlots] using h
  rw [State.charge?_withCharge _ _ _ _ hl] at hj
  split at hj
  · simp only [Option.some.injEq] at hj; subst hj; exact hn he
  · rw [charge?_reset] at hj; exact absurd hj (by simp)

theorem settled_reset : State.reset.Settled := by unfold State.Settled; decide +kernel

theorem ready_reset : State.reset.linkReady = true := by decide +kernel

/-! ## The part and its link -/

/-- A part whose link transfer straddled the release of RESET_N. -/
def straddling : State := { State.reset with link := { Link.reset with transfer := .discarding } }

theorem witness_ResetLineRestartsAndIsolatesThePart :
    State.inReset.resetAsserted = true ∧
      (∀ c ∈ [Instr.encPulse, send .partIdent []],
        c ≠ .powerOn ∧ c ≠ .resetNAssert ∧ ∀ b, c ≠ .resetNRelease b) ∧
      encodeTransfer .encPulse = none ∧ encodeTransfer (send .partIdent []) = some [1, 0] ∧
      straddling.resetAsserted = false ∧ straddling.link.transfer = .discarding ∧ straddling.Settled ∧
      (encodeTransfer (send .partIdent [])).isSome = true :=
  ⟨rfl, by decide, rfl, rfl, rfl, rfl, settled_reset, rfl⟩

theorem witness_ReadAnswerStreamsTheAnswerBuffer : State.reset.linkReady = true := ready_reset

/-- A transfer one byte short, a known request of 251 declared bytes, and an unknown one of each kind. -/
theorem witness_TransfersThatReachNoOwner :
    State.reset.linkReady = true ∧ State.reset.Settled ∧
      (requestCode (.chargeRead 2 [0]) = some 17 ∧ requestBody (.chargeRead 2 [0]) = some (2, [0]) ∧
        (2 : Byte).toNat ≤ 250 ∧ [0].length < (2 : Byte).toNat) ∧
      ¬((0 : Byte).toNat ≤ 250 ∧ [0].length < (0 : Byte).toNat) ∧
      ¬((251 : Byte).toNat ≤ 250 ∧ [0].length < (251 : Byte).toNat) ∧
      requestCode (.chargeRead 251 []) = some 17 ∧ (∀ k d b, Instr.chargeRead 251 [] ≠ .unknownRequest k d b) ∧
      requestBody (.chargeRead 251 []) = some (251, []) ∧ 250 < (251 : Byte).toNat :=
  ⟨ready_reset, settled_reset, by decide, by decide, by decide, rfl, by simp, rfl, by decide⟩

/-- A refused request, a request that changes a record and a report. -/
theorem witness_RefusalsAndReportsChangeNoRecord :
    State.reset.linkReady = true ∧ State.reset.Settled ∧
      (∃ t, exec (send .chargeRead [0, 1]) State.reset = .next t ∧ t.link.answer.status ≠ .ok) ∧
      (∃ t, exec (send .labelPortSet [60]) State.reset = .next t ∧ t.link.answer.status = .ok) ∧
      isReport (send .partIdent []) = true ∧ (requestBody (send .partIdent [])).isSome = true :=
  ⟨ready_reset, settled_reset, ⟨_, rfl, by decide +kernel⟩, ⟨_, rfl, by decide +kernel⟩, rfl, rfl⟩

/-- One length beside each kind of allowed length, and each field just outside its range. -/
theorem witness_WrongLengthsAndOutOfRangeFieldsAreRefused :
    State.reset.linkReady = true ∧ State.reset.Settled ∧
      (List.replicate 250 (0 : Byte)).length ≤ 250 ∧
      ([0] : List Byte).length ∉ [0] ∧ (List.replicate 12 (0 : Byte)).length ∉ [11, 15] ∧
      (∀ count, ([] : List Byte)[1]? = some count → ([] : List Byte).length ≠ 2 + 11 * count.toNat) ∧
      (([2] : List Byte)[0]? ≠ some 0 ∧ ([2] : List Byte)[0]? ≠ some 1) ∧
      (∀ m, 1 ≤ m → m ≤ 16 → ([1, 0] : List Byte).length ≠ 2 + 9 * m) ∧
      (([1] : List Byte)[0]? = some 1 ∧ ([1] : List Byte).length < 9) ∧
      State.reset.NoCharge 0 ∧ State.reset.NoCharge 65535 ∧
      ¬(60 < 60 ∧ 60 < 100 ∧ 100 ≤ 600) ∧ ¬(20 ≤ 19 ∧ 19 ≤ 1000 ∧ 1000 ≤ 1000) ∧
      ((0 : Nat) = 0 ∨ 31 < 0 ∨ 1 < 0) ∧ (7 < 8 ∧ 15 < 16 ∧ 4095 < 4096 ∧ (500 : Int) < 501) ∧
      (1 ≤ 0 + 1 + 0 ∧ 0 + 1 + 21 ≤ 22 ∧ 16 < 0 + 1 + 16) ∧ (32 < 33 ∧ 12 < 13) := by
  refine ⟨ready_reset, settled_reset, le_of_eq List.length_replicate, by simp, by simp, by simp, by decide, ?_, by decide,
    noCharge_reset _, noCharge_reset _, by decide, by decide, by decide, by decide, by decide, by decide⟩
  intro m h1 _
  simp
  omega

theorem witness_PartIdentReportsTheFixedCapacities :
    State.reset.linkReady = true ∧ ([0] : List Byte) ≠ [] ∧ ([0] : List Byte).length ≤ 250 :=
  ⟨ready_reset, by decide, by decide⟩

theorem witness_TransfersDecodeToTheCommandsTheyEncode :
    (Instr.chargeRead 2 [0, 1]).wellFormed = true ∧ encodeTransfer (.chargeRead 2 [0, 1]) = some [17, 2, 0, 1] ∧
      (Instr.unknownRequest 200 255 []).wellFormed = true ∧
      encodeTransfer (.unknownRequest 200 255 []) = some [200, 255] := by decide

/-! ## Charges -/

/-- A charge table without a free slot. -/
def fullTable : State := { State.reset with charges := List.replicate 64 (some (charge 4127 .fed)) }

theorem noCharge_fullTable : fullTable.NoCharge 1 := by
  intro j d h
  simp only [State.charge?, fullTable, List.getElem?_replicate] at h
  split at h
  · simp only [Option.join_some, Option.some.injEq] at h
    subst h
    decide
  · exact absurd h (by simp)

theorem witness_ChargeCreateFillsTheLowestFreeSlot :
    State.reset.linkReady = true ∧ (1 ≤ 1 ∧ 65535 ≤ 65535 ∧ 15 ≤ 15) ∧
      (0 < 1 ∧ 1 < 2 ∧ 2 ≤ 600) ∧ (598 < 599 ∧ 599 < 600 ∧ 600 ≤ 600) ∧
      (State.reset.NoCharge 65535 ∧ LowestFree State.reset.charges 0 ∧
        (State.reset.withCharge 0 (charge 1 .fed)).NoCharge 2 ∧
        LowestFree (State.reset.withCharge 0 (charge 1 .fed)).charges 1) ∧
      (20 ≤ 20 ∧ 1000 ≤ 1000) ∧
      ((withOne (charge 65535 .fed)).charge? 5 = some (charge 65535 .fed) ∧ (charge 65535 .fed).number = 65535) ∧
      (fullTable.linkReady = true ∧ fullTable.NoCharge 1 ∧ ∀ o ∈ fullTable.charges, o ≠ none) := by
  refine ⟨ready_reset, by decide, by decide, by decide, ⟨noCharge_reset _, ⟨rfl, ?_⟩,
    noCharge_withCharge 0 2 _ (by decide) (by decide), ⟨rfl, ?_⟩⟩, by decide, ⟨rfl, rfl⟩,
    ⟨by decide +kernel, noCharge_fullTable, by decide +kernel⟩⟩
  · intro j hj; omega
  · intro j hj
    obtain rfl : j = 0 := by omega
    exact ⟨_, rfl⟩

theorem witness_ChargeReadAndListReport :
    (withOne (charge 65535 .inFeed)).linkReady = true ∧
      (withOne (charge 65535 .inFeed)).OnlyCharge 65535 5 (charge 65535 .inFeed) ∧
      State.reset.NoCharge 0 ∧ (65535 ≤ 65535 ∧ 1 ≤ 1 ∧ 31 ≤ 31 ∧ 1 ≤ 1) :=
  ⟨by decide +kernel, onlyCharge 5 (charge 65535 .inFeed) (by decide), noCharge_reset _, by decide⟩

theorem witness_ChargeLimitsAndRelease :
    let s (q : Bool) : State := withOne { charge 65535 .fed with quarantined := q }
    (∀ q, (s q).linkReady = true) ∧
      (∀ q, (s q).OnlyCharge 65535 5 { charge 65535 .fed with quarantined := q }) ∧
      (0 < 1 ∧ 1 < 600 ∧ 600 ≤ 600 ∧ 20 ≤ 20 ∧ 1000 ≤ 1000) ∧
      ({ charge 65535 .fed with quarantined := true } : Charge).quarantined = true ∧
      ({ charge 65535 .fed with quarantined := false } : Charge).quarantined = false :=
  ⟨by decide +kernel, fun q => onlyCharge 5 { charge 65535 .fed with quarantined := q } (by decide), by decide, rfl, rfl⟩

theorem witness_ChargeFeedEndAndRetire :
    let s (st : ChargeState) (t p : Nat) : State := withOne { charge 1 st with transitRef := t, packRef := p }
    (∀ st t p, (s st t p).linkReady = true ∧
      (s st t p).OnlyCharge 1 5 { charge 1 st with transitRef := t, packRef := p }) ∧
      (charge 1 .dried).state = .dried ∧ (charge 1 .inFeed).state = .inFeed ∧ (charge 1 .fed).state = .fed ∧
      (charge 1 .staged).state = .staged ∧ (charge 1 .kiln).state = .kiln ∧
      (charge 1 .fed).transitRef = 0 ∧ (charge 1 .fed).packRef = 0 ∧
      0 < ({ charge 1 .fed with transitRef := 1 } : Charge).transitRef :=
  ⟨fun st t p => ⟨rfl, onlyCharge 5 { charge 1 st with transitRef := t, packRef := p } (by decide)⟩,
    rfl, rfl, rfl, rfl, rfl, rfl, rfl, by decide⟩

/-! ## Moisture -/

/-- Species entries at the two ends of the ranges. -/
def extreme (low : Bool) : Species :=
  if low then ⟨0, List.replicate 8 32, ⟨1, -500, 0⟩, ⟨1, -500, 0⟩⟩
  else ⟨7, List.replicate 8 126, ⟨4095, 500, 255⟩, ⟨4095, 500, 255⟩⟩

theorem witness_SpeciesSetReplacesAndReadReports :
    State.reset.linkReady = true ∧
      (∀ low, let e := extreme low
        e.name.length = 8 ∧ 1 ≤ e.meter.slope ∧ e.meter.slope ≤ 4095 ∧ -500 ≤ e.meter.offset ∧
          e.meter.offset ≤ 500 ∧ e.meter.coeff ≤ 255 ∧ 1 ≤ e.probe.slope ∧ e.probe.slope ≤ 4095 ∧
          -500 ≤ e.probe.offset ∧ e.probe.offset ≤ 500 ∧ e.probe.coeff ≤ 255 ∧ e.group ≤ 7 ∧
          ∀ b ∈ e.name, 32 ≤ b.toNat ∧ b.toNat ≤ 126) ∧
      (15 ≤ 15 ∧ 15 < 16 ∧ 255 ≤ 255) ∧ State.reset.species[15]? = some .reset :=
  ⟨ready_reset, by decide +kernel, by decide, rfl⟩

theorem witness_McTestReportsEveryStage :
    State.reset.linkReady = true ∧ 15 ≤ 15 ∧ State.reset.species[15]? = some .reset ∧ (4095 ≤ 4095 ∧ 0 < 4095) ∧
      ((-128 : Int) ≤ -128 ∧ (127 : Int) ≤ 127) ∧ ((-400 : Int) ≤ -400 ∧ (1500 : Int) ≤ 1500) ∧
      (0 < 1 ∧ 1 < 600 ∧ 600 ≤ 600) :=
  ⟨ready_reset, by decide, rfl, by decide, by decide, by decide, by decide⟩

/-- A scan with no valid probe, and the scan of section 2.3. -/
theorem witness_KilnEstimateIsRoundedMeanAndMaximum :
    let open_ : List ProbeResult := [⟨none, .unmeasured⟩]
    let five : List ProbeResult := [⟨some 161, .none⟩, ⟨some 148, .none⟩, ⟨none, .unmeasured⟩, ⟨some 186, .none⟩, ⟨some 0, .low⟩]
    (∀ p ∈ open_, p.mark = .none → p.mc.isSome = true) ∧ (∀ p ∈ five, p.mark = .none → p.mc.isSome = true) ∧
      open_.filter (fun p => p.mark = .none) = [] ∧ five.filter (fun p => p.mark = .none) ≠ [] := by
  decide

/-! ## Schedules -/

/-- A TIME step and a moisture step at the ends of their ranges, as sent. -/
theorem sends_time : SendsStep ⟨200, 0, 0, .time, 0, 1, .advance⟩ [0, 200, 0, 0, 0, 1, 0xFF, 0xFF, 0, 1, 0] :=
  ⟨by unfold Step.Ok; decide, 65535, 0, by decide, by decide⟩

theorem sends_moisture :
    SendsStep ⟨1300, 400, 100, .wettestBelow, 600, 65535, .hold⟩ [0x05, 0x14, 0x01, 0x90, 100, 3, 0x02, 0x58, 0xFF, 0xFF, 2] :=
  ⟨by unfold Step.Ok; decide, 600, 2, by decide, by decide⟩

/-- Schedule 32 with a reference count. -/
def withSchedule (refs : Nat) : State := State.reset.setSchedule 32 (some { schedule20 with refCount := refs, revision := 65535 })

theorem witness_SchedDefineCreatesOrReplaces :
    (withSchedule 0).linkReady = true ∧ (withSchedule 1).linkReady = true ∧ (1 ≤ 32 ∧ 32 ≤ 32 ∧ 1 ≤ 1) ∧
      List.Forall₂ SendsStep
        [⟨200, 0, 0, .time, 0, 1, .advance⟩, ⟨1300, 400, 100, .wettestBelow, 600, 65535, .hold⟩]
        [[0, 200, 0, 0, 0, 1, 0xFF, 0xFF, 0, 1, 0], [0x05, 0x14, 0x01, 0x90, 100, 3, 0x02, 0x58, 0xFF, 0xFF, 2]] ∧
      (withSchedule 0).schedule? 1 = none ∧
      (withSchedule 0).schedule? 32 = some { schedule20 with refCount := 0, revision := 65535 } ∧
      (withSchedule 1).schedule? 32 = some { schedule20 with refCount := 1, revision := 65535 } :=
  ⟨by decide +kernel, by decide +kernel, by decide, .cons sends_time (.cons sends_moisture .nil), rfl, rfl, rfl⟩

theorem witness_SchedAmendReadAndDelete :
    (withSchedule 0).linkReady = true ∧ (withSchedule 1).linkReady = true ∧
      SendsStep ⟨200, 0, 0, .time, 0, 1, .advance⟩ [0, 200, 0, 0, 0, 1, 0xFF, 0xFF, 0, 1, 0] ∧
      (2 < schedule20.steps.length ∧ schedule20.steps.length ≤ 3 ∧ 15 ≤ 15) ∧
      (withSchedule 0).schedule? 32 = some { schedule20 with refCount := 0, revision := 65535 } ∧
      (withSchedule 1).schedule? 32 = some { schedule20 with refCount := 1, revision := 65535 } ∧
      (withSchedule 0).schedule? 1 = none ∧ ((0 : Nat) = 0 ∨ 32 < 0) ∧ 32 < 33 ∧ 255 ≤ 255 :=
  ⟨by decide +kernel, by decide +kernel, sends_time, by decide, rfl, rfl, rfl, by decide, by decide, by decide⟩

/-! ## Chambers -/

/-- Charge 65535 in slot 63, schedule 32 and a record for chamber 12. -/
def kiln12 (c : Chamber) (ch : Charge) : State :=
  { ((State.reset.withCharge 63 ch).setSchedule 32 (some schedule20)).setChamber 12 c with
    species := List.replicate 16 redoak }

/-- The charge in chamber 12. -/
def kilnCharge : Charge := { charge 65535 .kiln with chamber := some 12 }

/-- A chamber that names charge slot 63 and schedule 32, in step `i`. -/
def chamber12 (st : ChamberState) (i : Nat) (causes : Causes) : Chamber :=
  { chamberIn st i 0 (schedule20.stepAt i).duration 450 410 with
    chargeSlot := some 63, schedule := some 32, causes := causes }

/-- A chamber 12 that is LOADED. -/
def loaded12 : Chamber := { loaded with chargeSlot := some 63, schedule := some 32 }

theorem settled_kiln12 {c : Chamber} (ch : Charge) (h : c.limitDue = false) : (kiln12 c ch).Settled := by
  refine ⟨?_, by simp [kiln12, State.setChamber, State.setSchedule, State.withCharge, State.reset, Port.reset]⟩
  intro d hd
  rcases List.mem_or_eq_of_mem_set (show d ∈ (List.replicate 12 Chamber.reset).set 11 c from hd) with h1 | rfl
  · rw [List.eq_of_mem_replicate h1]; rfl
  · exact h

theorem ready_kiln12 (c : Chamber) (ch : Charge) : (kiln12 c ch).linkReady = true := rfl

/-- What every statement on chamber 12 asks of the state. -/
theorem lookups_kiln12 (c : Chamber) (ch : Charge) :
    (kiln12 c ch).chamber? 12 = some c ∧ (kiln12 c ch).schedule? 32 = some schedule20 ∧
      (kiln12 c ch).charge? 63 = some ch ∧ (kiln12 c ch).OnlyCharge ch.number 63 ch :=
  ⟨rfl, rfl, rfl, onlyCharge 63 ch (by decide)⟩

theorem witness_ChamberLoadTakesAStagedCharge :
    let s := kiln12 .reset (charge 65535 .staged)
    s.linkReady = true ∧ s.Settled ∧ (1 ≤ 12 ∧ 12 ≤ 12 ∧ 1 ≤ 32 ∧ 32 ≤ 32) ∧ s.chamber? 12 = some .reset ∧
      s.OnlyCharge 65535 63 (charge 65535 .staged) ∧ s.schedule? 32 = some schedule20 ∧
      (Chamber.reset.state = .empty ∧ (charge 65535 .staged).state = .staged) ∧
      ((kiln12 loaded12 kilnCharge).chamber? 12 = some loaded12 ∧ loaded12.state ≠ .empty ∧
        (kiln12 loaded12 kilnCharge).OnlyCharge 65535 63 kilnCharge ∧ kilnCharge.state ≠ .staged) ∧
      (s.NoCharge 0 ∧ s.schedule? 1 = none) :=
  ⟨rfl, settled_kiln12 _ rfl, by decide, rfl, (lookups_kiln12 _ _).2.2.2, rfl, by decide,
    ⟨rfl, by decide, (lookups_kiln12 loaded12 kilnCharge).2.2.2, by decide⟩,
    ⟨noCharge_withCharge 63 0 (charge 65535 .staged) (by decide) (by decide), rfl⟩⟩

theorem witness_ChamberStartLoadsTheFirstStep :
    let scanned : Chamber := { loaded12 with lastScan := some ⟨1400, 290, ⟨false, true, false⟩, 0⟩, causes := ⟨false, true, false, false⟩ }
    (∀ c ∈ [loaded12, scanned], (kiln12 c kilnCharge).linkReady = true ∧ (kiln12 c kilnCharge).chamber? 12 = some c ∧
      c.state = .loaded ∧ c.schedule = some 32) ∧
      (kiln12 loaded12 kilnCharge).Settled ∧ (kiln12 scanned kilnCharge).Settled ∧
      (kiln12 loaded12 kilnCharge).schedule? 32 = some schedule20 ∧ schedule20.steps[0]? = some (schedule20.stepAt 0) ∧
      (chamber12 .running 0 .none).state ≠ .loaded :=
  ⟨by simp [ready_kiln12, (lookups_kiln12 _ _).1, loaded12, loaded], settled_kiln12 _ rfl, settled_kiln12 _ rfl, rfl, rfl,
    by decide⟩

/-- Chamber 12 RUNNING, held by REQUEST, by STEP_LIMIT and LINE, and by MODULE alone. -/
theorem witness_ChamberHoldAndResume :
    (∀ c : Chamber, c.limitDue = false → (kiln12 c kilnCharge).linkReady = true ∧ (kiln12 c kilnCharge).Settled ∧
      (kiln12 c kilnCharge).chamber? 12 = some c) ∧
      ((chamber12 .running 0 .none).state = .running ∧ (chamber12 .running 0 .none).causes.request = false ∧
        (chamber12 .running 0 .none).causes.stepLimit = false) ∧
      ((chamber12 .hold 0 ⟨true, false, false, false⟩).state = .hold ∧
        (chamber12 .hold 0 ⟨true, false, false, false⟩).causes.request = true) ∧
      (chamber12 .hold 1 ⟨false, true, false, true⟩).causes.stepLimit = true ∧
      (loaded12.state ≠ .running ∧ loaded12.state ≠ .hold) :=
  ⟨fun c h => ⟨rfl, settled_kiln12 _ h, rfl⟩, by decide, by decide, by decide, by decide⟩

/-- A skip to the next step and a skip past the last one, the latter of a chamber held by LINE. -/
theorem witness_ChamberSkipAdvancesTheStep :
    (∀ c : Chamber, c.limitDue = false → (kiln12 c kilnCharge).Settled) ∧
    (∀ c ∈ [chamber12 .running 0 .none, chamber12 .hold 2 ⟨false, true, false, true⟩],
      c.limitDue = false ∧ (kiln12 c kilnCharge).linkReady = true ∧ (kiln12 c kilnCharge).chamber? 12 = some c ∧
        (c.state = .running ∨ c.state = .hold) ∧ c.schedule = some 32 ∧ c.run.isSome = true ∧
        c.chargeSlot = some 63 ∧ (kiln12 c kilnCharge).schedule? 32 = some schedule20 ∧
        (kiln12 c kilnCharge).charge? 63 = some kilnCharge) ∧
      (0 + 1 < schedule20.steps.length ∧ ¬ 2 + 1 < schedule20.steps.length) ∧
      (loaded12.state ≠ .running ∧ loaded12.state ≠ .hold) :=
  ⟨fun _ h => settled_kiln12 kilnCharge h, by decide +kernel⟩

theorem witness_ChamberReloadAndAbort :
    (∀ c : Chamber, c.limitDue = false → (kiln12 c kilnCharge).linkReady = true ∧ (kiln12 c kilnCharge).Settled ∧
      (kiln12 c kilnCharge).chamber? 12 = some c ∧ (kiln12 c kilnCharge).schedule? 32 = some schedule20) ∧
      ((chamber12 .hold 2 ⟨true, false, false, false⟩).schedule = some 32 ∧
        ((chamber12 .hold 2 ⟨true, false, false, false⟩).run.map (·.index)) = some 2 ∧
        schedule20.steps[2]? = some (schedule20.stepAt 2)) ∧
      ((chamber12 .complete 2 .none).state = .complete ∧ (chamber12 .aborted 2 .none).state = .aborted ∧
        loaded12.state = .loaded ∧ Chamber.reset.state = .empty ∧ (chamber12 .running 0 .none).state = .running) :=
  ⟨fun c h => ⟨rfl, settled_kiln12 _ h, rfl, rfl⟩, by decide, by decide⟩

theorem witness_ChamberUnloadReturnsTheCharge :
    (∀ c : Chamber, c.limitDue = false → (kiln12 c kilnCharge).Settled) ∧
    (∀ c ∈ [loaded12, chamber12 .complete 2 .none, chamber12 .aborted 0 .none],
      c.limitDue = false ∧ (kiln12 c kilnCharge).linkReady = true ∧ (kiln12 c kilnCharge).chamber? 12 = some c ∧
        (c.state = .loaded ∨ c.state = .complete ∨ c.state = .aborted) ∧ c.schedule = some 32 ∧
        c.chargeSlot = some 63 ∧ (kiln12 c kilnCharge).schedule? 32 = some schedule20 ∧
        (kiln12 c kilnCharge).charge? 63 = some kilnCharge) ∧
      (Chamber.reset.state = .empty ∧ (chamber12 .running 0 .none).state = .running ∧
        (chamber12 .hold 0 ⟨true, false, false, false⟩).state = .hold) :=
  ⟨fun _ h => settled_kiln12 kilnCharge h, by decide +kernel⟩

theorem witness_ChamberReadReportsTheRecord :
    let s := kiln12 (chamber12 .hold 2 ⟨true, false, false, false⟩) kilnCharge
    s.linkReady = true ∧ s.Settled ∧ s.chamber? 12 = some (chamber12 .hold 2 ⟨true, false, false, false⟩) :=
  ⟨rfl, settled_kiln12 _ rfl, rfl⟩

/-- A RUNNING chamber, and chambers of each kind of step whose second action is due. -/
theorem witness_MinuteTicksAndWorkingLimits :
    let due (i : Nat) (action : OnLimit) : Chamber :=
      { chamber12 .running i .none with
        limitDue := true
        run := some ⟨i, 1, { schedule20.stepAt i with onLimit := action }, 4, 4, 450, 410⟩ }
    let s := kiln12 (chamber12 .running 0 .none) kilnCharge
    (s.resetAsserted = false ∧ s.Settled ∧ s.chamber? 12 = some (chamber12 .running 0 .none) ∧
      s.chamber? 1 = some .reset ∧ Chamber.reset.state ≠ .running) ∧
      (∀ c ∈ [due 0 .advance, due 1 .advance, due 1 .hold], (kiln12 c kilnCharge).resetAsserted = false ∧
        (kiln12 c kilnCharge).chamber? 12 = some c ∧ c.limitDue = true ∧ c.state = .running ∧ c.run.isSome = true) ∧
      (schedule20.stepAt 0).kind = .time ∧ (schedule20.stepAt 1).kind ≠ .time ∧
      (chamber12 .running 0 .none).limitDue = false :=
  ⟨⟨rfl, settled_kiln12 _ rfl, rfl, rfl, by decide⟩, by decide +kernel, by decide, by decide, rfl⟩

/-! ## The kiln port -/

/-- Chamber 12's record and the controller's. -/
def port12 (c : Chamber) (p : Port) : State := { kiln12 c kilnCharge with port := p }

/-- A round that has reached chamber 12, with a transaction or none. -/
def polling (t : Option Transaction) (startPending : Bool) : Port :=
  { Port.reset with round := .polling, snapshot := [12], turn := some 0, transaction := t, startPending := startPending }

theorem settled_port12 {c : Chamber} (t : Option Transaction) (b : Bool) (h : c.limitDue = false) :
    (port12 c (polling t b)).Settled :=
  ⟨(settled_kiln12 kilnCharge h).1, by simp [port12, polling]⟩

theorem witness_KilnCommandsTakeDueActionsFirst :
    State.reset.Settled ∧ State.reset.resetAsserted = false ∧ State.reset.chambers.length = 12 :=
  ⟨settled_reset, rfl, rfl⟩

theorem witness_KilnPortSetAndRead :
    State.reset.linkReady = true ∧ State.reset.Settled ∧
      (10 ≤ 10 ∧ 20 ≤ 20 ∧ 1 ≤ 1) ∧ (600 ≤ 600 ∧ 500 ≤ 500 ∧ 15 ≤ 15) ∧
      ¬(10 ≤ 601 ∧ 601 ≤ 600 ∧ 20 ≤ 20 ∧ 20 ≤ 500 ∧ 1 ≤ 1 ∧ 1 ≤ 15) :=
  ⟨ready_reset, settled_reset, by decide, by decide, by decide⟩

theorem witness_RoundsStartOrAreDeferred :
    (port12 loaded12 Port.reset).resetAsserted = false ∧ (port12 loaded12 Port.reset).Settled ∧
      (port12 loaded12 (polling none false)).Settled ∧ (port12 loaded12 (polling none true)).Settled ∧
      Port.reset.round = .idle ∧ (polling none false).round = .polling ∧ (polling none false).startPending = false ∧
      (polling none true).startPending = true ∧ ({ Port.reset with startPending := true } : Port).round = .idle :=
  ⟨rfl, settled_kiln12 _ rfl, settled_port12 none false rfl, settled_port12 none true rfl, rfl, rfl, rfl, rfl, rfl⟩

/-- An EMPTY, a RUNNING, a HOLD and a LOADED chamber at its turn, RUNNING with each kind of ramp. -/
theorem witness_TransactionComposesTheSetpoint :
    (∀ c : Chamber, c.limitDue = false → let s := port12 c (polling none false)
      s.resetAsserted = false ∧ s.Settled ∧ s.port.round = .polling ∧ s.port.transaction = none ∧
        s.port.turn = some 0 ∧ s.port.snapshot[0]? = some 12 ∧ s.chamber? 12 = some c) ∧
      (Chamber.reset.state = .empty ∧ (chamber12 .running 1 .none).state = .running ∧
        (chamber12 .hold 1 ⟨true, false, false, false⟩).state = .hold ∧ loaded12.state = .loaded) ∧
      ((chamber12 .running 1 .none).run = some ⟨1, 1, schedule20.stepAt 1, 0, 4, 450, 410⟩ ∧
        0 < (schedule20.stepAt 1).ramp ∧ 450 + (schedule20.stepAt 1).ramp < (schedule20.stepAt 1).dryTarget ∧
        (schedule20.stepAt 2).ramp = 0) ∧
      (port12 loaded12 (polling (some ⟨12, .sending, ⟨.off, 0, 0⟩, []⟩) false)).resetAsserted = false ∧
      (polling (some ⟨12, .sending, ⟨.off, 0, 0⟩, []⟩) false).transaction = some ⟨12, .sending, ⟨.off, 0, 0⟩, []⟩ :=
  ⟨fun c h => ⟨rfl, settled_port12 none false h, rfl, rfl, rfl, rfl, rfl⟩, by decide, by decide, rfl, rfl⟩

/-- Chamber 12 in its reply window with characters received. -/
def window (c : Chamber) (got : List RxChar) : State :=
  port12 c (polling (some ⟨12, .listening, ⟨.run, 450, 410⟩, got⟩) false)

/-- Replies of no probe at the lowest temperatures and of 8 probes at the highest, split over two
deliveries and followed by a stray character. -/
theorem witness_AcceptedScanUpdatesTheChamber :
    let c := chamber12 .running 1 .none
    (∀ got, (window c got).resetAsserted = false ∧ (window c got).Settled ∧
      (window c got).port.turn = some 0 ∧ (window c got).chamber? 12 = some c ∧
      (window c got).port.transaction = some ⟨12, .listening, ⟨.run, 450, 410⟩, got⟩) ∧
      ((-400 : Int) ≤ -400 ∧ (1500 : Int) ≤ 1500 ∧ 12 ≤ 12) ∧
      (chars [12, 0xFE, 0x70, 0xFE] ++ kilnChars (kilnLine [0x70, 7, 0, 99]) =
        (bytes 1 12 ++ signedBytes 2 (-400) ++ signedBytes 2 (-400) ++ [7] ++ bytes 1 ([] : List Nat).length ++
          ([] : List Nat).flatMap (bytes 2)).map (fun b => ⟨b, false⟩) ++ chars [99]) ∧
      ([] ++ kilnChars (kilnLine ([12, 0x05, 0xDC, 0x05, 0xDC, 0, 8] ++ List.flatten (List.replicate 8 [0x0F, 0xFF]))) =
        (bytes 1 12 ++ signedBytes 2 1500 ++ signedBytes 2 1500 ++ [0] ++
          bytes 1 (List.replicate 8 4095).length ++ (List.replicate 8 4095).flatMap (bytes 2)).map
          (fun b => ⟨b, false⟩) ++ []) ∧
      (Chamber.reset.state = .empty ∧ c.state ≠ .empty ∧ c.chargeSlot = some 63 ∧
        (window c []).charge? 63 = some kilnCharge ∧ (window c []).species[kilnCharge.species]? = some redoak) :=
  ⟨fun got => ⟨rfl, settled_port12 _ _ rfl, rfl, rfl, rfl⟩, by decide, by decide +kernel, by decide +kernel, by decide +kernel⟩

/-- A reply with an error mark, one of another address, one out of range, the two kinds of incomplete
reply, an empty window, and a port with no window open. -/
theorem witness_BadAndMissingRepliesAreMisses :
    let c := chamber12 .running 1 .none
    ((window c []).resetAsserted = false ∧ (window c []).Settled ∧ (window c []).port.turn = some 0 ∧
      (window c []).chamber? 12 = some c ∧ (window c []).module 12 = ⟨0, .none⟩) ∧
      (∀ reply ∈ [[⟨12, true⟩] ++ chars [0, 0, 0, 0, 0, 0], chars [11, 0, 0, 0, 0, 0, 0], chars [12, 0x05, 0xDD, 0, 0, 0, 0]],
        reply[6]? = some ⟨0, false⟩ ∧ reply.length = 7 + 2 * (0 : Byte).toNat) ∧
      (kilnChars (0b1_1_00001100_0#11 :: kilnLine [0, 0, 0, 0, 0, 0]) = [⟨12, true⟩] ++ chars [0, 0, 0, 0, 0, 0] ∧
        ∀ l ∈ [[11, 0, 0, 0, 0, 0, 0], [12, 0x05, 0xDD, 0, 0, 0, 0], [], [12, 0, 0, 0, 0, 0, 9], [12, 0, 0, 0, 0, 0, 1, 0]],
          kilnChars (kilnLine l) = chars l) ∧
      ((0b1_1_00001100_0#11 : KilnFrame).getLsbD 0 = false ∧ (1#11 : KilnFrame).getLsbD 0 = true) ∧
      (∃ ch ∈ ([⟨12, true⟩] ++ chars [0, 0, 0, 0, 0, 0] : List RxChar), ch.error = true) ∧
      field ((chars [11, 0, 0, 0, 0, 0, 0]).map (·.value)) 0 1 ≠ 12 ∧
      ¬(signedField ((chars [12, 0x05, 0xDD, 0, 0, 0, 0]).map (·.value)) 1 2 ≤ 1500) ∧
      (IncompleteReply [] ∧ IncompleteReply (chars [12, 0, 0, 0, 0, 0, 9]) ∧
        IncompleteReply (chars [12, 0, 0, 0, 0, 0, 1, 0])) ∧
      (∀ tr, (port12 c (polling none false)).port.transaction = some tr → tr.phase = .sending) := by
  refine ⟨⟨rfl, settled_port12 _ _ rfl, rfl, rfl, rfl⟩, by decide, by decide +kernel, by decide, by decide, by decide,
    by decide, ⟨?_, ?_, ?_⟩, ?_⟩
  · intro q h; simp at h
  · intro q h; simp [chars] at h; subst h; decide
  · intro q h; simp [chars] at h; subst h; decide
  · intro tr h; simp [port12, polling] at h

/-! ## The outfeed -/

/-- Geometries and dimensions at the ends of their ranges. -/
def narrow (g : Bool) : Geometry :=
  if g then ⟨1, List.replicate 16 2, 0, 0, 1⟩ else ⟨65279, List.replicate 16 65535, 255, 255, 255⟩

def sizes (t w l : Nat) : Dimensions := ⟨List.replicate 16 t, List.replicate 16 w, List.replicate 32 l⟩

theorem witness_LineSettingsAndTransitRead :
    (State.reset.linkReady = true ∧ State.reset.tracker.queue = []) ∧
      ((outfeed 100350 5 [⟨5, 100300, none⟩] State.reset).linkReady = true ∧
        (outfeed 100350 5 [⟨5, 100300, none⟩] State.reset).tracker.queue ≠ []) ∧
      (∀ b, let g := narrow b
        g.pairing ≤ 65535 ∧ g.offsets.length = 16 ∧ (∀ o ∈ g.offsets, o ≤ 65535) ∧ g.lead ≤ 255 ∧ g.trail ≤ 255 ∧
          g.scale ≤ 255 ∧ g.pairing ≠ 0 ∧ g.scale ≠ 0 ∧
          ∀ o ∈ g.offsets, o ≠ 0 ∧ (g.pairing : Int) < (o : Int) - (g.lead : Int)) ∧
      ¬(∀ o ∈ [2], o ≠ 0 ∧ ((2 : Nat) : Int) < ((o : Nat) : Int) - ((0 : Nat) : Int)) ∧
      (∀ d ∈ [sizes 10 25 6, sizes 200 400 80], d.thickness.length = 16 ∧ d.width.length = 16 ∧ d.length.length = 32 ∧
        (∀ x ∈ d.thickness, x ≤ 255) ∧ (∀ x ∈ d.width, x ≤ 65535) ∧ (∀ x ∈ d.length, x ≤ 255) ∧
        (∀ x ∈ d.thickness, 10 ≤ x ∧ x ≤ 200) ∧ (∀ x ∈ d.width, 25 ≤ x ∧ x ≤ 400) ∧ ∀ x ∈ d.length, 6 ≤ x ∧ x ≤ 80) ∧
      ¬(∀ x ∈ (sizes 9 25 6).thickness, 10 ≤ x ∧ x ≤ 200) ∧ (31 ≤ 31 ∧ 31 < 32 ∧ 255 ≤ 255) := by
  decide +kernel

/-- An OPEN pack without pieces and a CLOSING pack with pieces, each with a board on the chain. -/
def boundPacks : State :=
  let p : Pack := Pack.allocated 1 5 6 2 false
  let q : Pack := { Pack.allocated 999999 6 3 0 true with
    state := .closing, closeReason := some .target, pieces := 2, bound := 1, tally := [(9, 2)] }
  outfeed 100350 5
    [⟨4, 99700, some (decided 5 (some 0) 119650 120260 false)⟩, ⟨5, 100300, some (decided 6 (some 47) 120250 120860 false)⟩]
    { ((withOne (charge 65535 .inFeed)).setCurrent 5 (some 0)) with
      sorter := sortBy5 2
      packs := ⟨((List.replicate 48 none).set 0 (some { p with bound := 1 })).set 47 (some q),
        (List.replicate 16 none).set 5 (some 0), 999999⟩ }

theorem packsOk_boundPacks : PacksOk boundPacks := by
  unfold PacksOk QueueOk CurrentPacksOk PackOk Plan.Ok
  and_intros <;> decide +kernel

theorem witness_LineRestartEmptiesTheLine :
    boundPacks.linkReady = true ∧ PacksOk boundPacks ∧ ([0] : List Byte) ≠ [] ∧ ([0] : List Byte).length ≤ 250 :=
  ⟨by decide +kernel, packsOk_boundPacks, by decide, by decide⟩

/-- A waiting entry before its expiry position, a full queue, a sequence that is held, and an empty queue
under the geometry of the worked sequence and under that of power-on. -/
theorem witness_EncoderPulsesAndEdges :
    let waiting := outfeed 104299 5 [⟨5, 100300, none⟩] State.reset
    let full := outfeed 100900 5 ((List.range 32).map (fun k => ⟨k + 100, 100300, none⟩)) State.reset
    let held := outfeed 100900 255 [⟨0, 100300, none⟩] State.reset
    let due := outfeed 104300 6 [⟨4, 83740, some (decided 3 none 103690 104300 true)⟩, ⟨5, 100300, none⟩, ⟨6, 100300, none⟩] State.reset
    (waiting.resetAsserted = false ∧ (∀ e ∈ waiting.tracker.queue, ¬waiting.Reached (waiting.waitsOn e)) ∧ QueueOk waiting) ∧
      (QueueOk due ∧ TransitOk due ∧ ∀ e ∈ due.tracker.queue, due.Reached (due.waitsOn e)) ∧
      32 ≤ full.tracker.queue.length ∧
      (held.tracker.queue.length < 32 ∧ ∃ e ∈ held.tracker.queue, e.sequence = (held.tracker.edgeSequence + 1) % 256) ∧
      ((∀ e ∈ waiting.tracker.queue, e.sequence ≠ (waiting.tracker.edgeSequence + 1) % 256) ∧
        1 ≤ waiting.tracker.geometry.pairing ∧ waiting.tracker.geometry.pairing ≤ 65535) ∧
      (State.reset.tracker.geometry = ⟨0, List.replicate 16 0, 0, 0, 0⟩ ∧
        (State.reset.sorter.slot (if State.reset.sorter.slot0.role = .active then 0 else 1)).role = .active) := by
  unfold QueueOk TransitOk Geometry.Ok State.Reached State.waitsOn
  and_intros <;> decide +kernel

theorem queueAt_only (position counter : Nat) (e : Entry) (s : State) :
    (outfeed position counter [e] s).QueueAt [] e [] := ⟨rfl, by simp⟩

/-- Gate 3 is open for the one entry of the queue. -/
def oneGate : State :=
  outfeed 102000 230 [⟨230, 81700, some (decided 3 none 101650 102260 true)⟩]
    { State.reset with sorter := { sortBy5 1 with gates := (List.replicate 16 0).set 3 1 } }

theorem sorterOk_oneGate : SorterOk oneGate := by
  unfold SorterOk PlanSlot.Ok Plan.Ok
  and_intros <;> decide +kernel

/-- The expiry of entry 5 at 104,300 and one pulse earlier, and the gate of entry 230 at its open and close
positions and one pulse before each. -/
theorem witness_ExpiryOpenAndCloseEvents :
    let e : Entry := ⟨5, 100300, none⟩
    let closed : Entry := ⟨230, 81700, some (decided 3 none 101650 102260 false)⟩
    let opened : Entry := ⟨230, 81700, some (decided 3 none 101650 102260 true)⟩
    let at' (n : Nat) (x : Entry) : State := outfeed n 5 [x] State.reset
    (∀ n x, (at' n x).resetAsserted = false ∧ (at' n x).QueueAt [] x []) ∧
      ((at' 104300 e).Reached (e.capture + (at' 104300 e).tracker.geometry.pairing) ∧
        (at' 104300 e).ActivePlan 0 .default ∧
        ¬(at' 104300 e).Reached ((at' 104300 e).noDataDecision e 0 .default).openPos ∧
        ¬(at' 104299 e).Reached (e.capture + (at' 104299 e).tracker.geometry.pairing)) ∧
      (∀ x ∈ (at' 0 closed).tracker.queue, x.decision.isSome = true) ∧
      ((at' 101650 closed).Reached 101650 ∧ ¬(at' 101650 closed).Reached 102260 ∧ ¬(at' 101649 closed).Reached 101650) ∧
      ((at' 102260 opened).Reached 102260 ∧ ¬(at' 102259 opened).Reached 102260 ∧
        (decided 3 none 101650 102260 true).packSlot = none) ∧
      (∀ x ∈ (at' 0 e).tracker.queue, x.sequence = 5 → x.decision = none) ∧
      SorterOk oneGate := by
  refine ⟨fun n x => ⟨rfl, queueAt_only _ _ _ _⟩, ⟨?_, ⟨rfl, rfl⟩, ?_, ?_⟩, by decide +kernel, ?_, ?_, by decide +kernel,
    sorterOk_oneGate⟩
  all_goals unfold State.Reached; decide +kernel

/-- Event 13 of the life of pack 2050. -/
theorem witness_CloseEventDeliversIntoThePack :
    let s : State := { (withOne (charge 4127 .inFeed)).withPack 3 (pack2050 .closing 5 1) with sorter := sortBy5 1 }
    let d := decided 5 (some 3) 120000 120560 true
    let t := outfeed 120560 25 [⟨25, 100050, some d⟩] s
    t.resetAsserted = false ∧ t.QueueAt [] ⟨25, 100050, some d⟩ [] ∧ d.gateOpen = true ∧ t.Reached d.closePos ∧
      d.packSlot = some 3 ∧ t.pack? 3 = some (pack2050 .closing 5 1) :=
  ⟨rfl, queueAt_only _ _ _ _, rfl, by unfold State.Reached; decide +kernel, rfl, rfl⟩

/-- Messages at the ends of their ranges. -/
def lastMessage : BoardMessage := ⟨255, 65535, 15, 31, 15, 15, 65535, -128⟩

/-- A state whose receiver holds some characters. -/
def receiving (got : Option (List RxChar)) : State := State.reset.setReceiver got

theorem witness_BoardMessageCharacters :
    lastMessage.Fits ∧ (lastMessage.grade ≤ 15 ∧ lastMessage.lengthClass ≤ 31) ∧
      (({ lastMessage with grade := 16 } : BoardMessage).Fits ∧ ¬(16 ≤ 15)) ∧
      (receiving none).resetAsserted = false ∧ (receiving none).tracker.receiver = none ∧
      (∀ got, (receiving (some got)).tracker.receiver = some got) ∧
      (∀ m ∈ [lastMessage, { lastMessage with grade := 16 }],
        boardChars (message m) = ⟨35, false⟩ :: m.characters) ∧
      (lastMessage.characters.take 19 ++ boardChars ((message lastMessage).drop 20) = lastMessage.characters ∧
        boardChars ((message lastMessage).drop 20) ≠ []) ∧
      (∀ n ∈ [48, 71], boardChars [boardFrame (BitVec.ofNat 8 n)] = chars [n]) ∧
      (boardChars [0b0_00100011_0#10] = [⟨35, true⟩] ∧ (1#10 : BoardFrame).getLsbD 0 = true) ∧
      ((chars (List.replicate 18 48)).length + (chars [48]).length < 20 ∧
        ∀ c ∈ chars [48], c.value = 35 → c.error = true) ∧
      ((chars (List.replicate 19 48)).length < 20 ∧ (chars (List.replicate 19 48)).length + (chars [71]).length = 20 ∧
        ∃ c ∈ chars (List.replicate 19 48) ++ chars [71], c.error = true ∨
          ¬((48 ≤ c.value.toNat ∧ c.value.toNat ≤ 57) ∨ (65 ≤ c.value.toNat ∧ c.value.toNat ≤ 70))) ∧
      ∀ c ∈ ([⟨35, true⟩] : List RxChar), c.value = 35 → c.error = true := by
  unfold BoardMessage.Fits
  exact ⟨by decide +kernel, by decide, by decide +kernel, rfl, rfl, fun _ => rfl, by decide +kernel, by decide +kernel,
    by decide +kernel, by decide, by decide +kernel, by decide +kernel, by decide⟩

/-- Event 3 of the worked sequence with a decided entry before it: message 1 skips entry 0, message 0 pairs
at once, message 4 skips both, message 128 lies behind, and a queue whose entries are all decided. -/
theorem witness_MessagePairing :
    let before : Entry := ⟨255, 96700, some (decided 3 none 116650 117260 false)⟩
    let s := outfeed 101000 6 [before, ⟨0, 97300, none⟩, ⟨1, 97900, none⟩] State.reset
    s.tracker.queue = [before] ++ ⟨0, 97300, none⟩ :: [⟨1, 97900, none⟩] ∧
      (∀ x ∈ [before], x.decision.isSome = true) ∧ 0 ≤ 255 ∧ QueueOk s ∧ s.ActivePlan 0 .default ∧
      ((0 + 256 - 0) % 256 = 0 ∧ 128 ≤ (128 + 256 - 0) % 256 ∧ 128 ≤ (255 + 256 - 0) % 256) ∧
      (1 ≤ (1 + 256 - 0) % 256 ∧ (127 + 256 - 0) % 256 ≤ 127) ∧
      (∀ x ∈ [(⟨0, 97300, none⟩ : Entry), ⟨1, 97900, none⟩], ¬s.Reached (s.noDataDecision x 0 .default).openPos) ∧
      (∃ x ∈ [(⟨1, 97900, none⟩ : Entry)], x.decision = none ∧ x.sequence = 1) ∧
      (∀ x ∈ [(⟨1, 97900, none⟩ : Entry)], x.decision = none → x.sequence ≠ 4) := by
  unfold QueueOk State.Reached
  exact ⟨by decide +kernel, by decide, by decide, by decide +kernel, ⟨rfl, rfl⟩, by decide, by decide, by decide +kernel,
    by decide, by decide⟩

/-- Entry 5 waits for its message while charge 65535, in slot 5, is sorted by a plan. -/
def arriving (c : Charge) (p : Plan) (packs : PackTable) : State :=
  outfeed 100500 5 [⟨5, 100300, none⟩] { State.reset.withCharge 5 c with
    species := List.replicate 16 redoak, sorter := { Sorter.reset with slot0 := ⟨.active, some p, 0⟩ }, packs := packs }

theorem boardFound (c : Charge) (p : Plan) (packs : PackTable) (m : BoardMessage) (hm : m.number = c.number)
    (hs : c.state = .dried ∨ c.state = .inFeed ∨ c.state = .fed) (hn : c.seen < 16777215) (hsp : c.species = 3) :
    (arriving c p packs).BoardFound [] ⟨5, 100300, none⟩ [] m 5 c redoak 0 p :=
  ⟨queueAt_only _ _ _ _, rfl, hm ▸ onlyCharge 5 c (by decide), hs, hn, by rw [hsp]; rfl, ⟨rfl, rfl⟩⟩

/-- A message for charge 65535 of a raw reading. -/
def boardOf (raw : Nat) : BoardMessage := ⟨5, 65535, 15, 31, 15, 15, raw, 31⟩

/-- One measured board short of the first quarantine test, and wet enough to trip it. -/
def nearTrip : Charge :=
  { charge 65535 .dried with seen := 49, measured := 49, wetCount := 10, winMeasured := 49, winWet := 10 }

/-- A plan whose one rule sends every board to bin 3. -/
def plan3 : Plan := { plan5 with building := [], rules := plan5.rules.map (fun r => { r with bin := 3 }) }

/-- The rule decides, no rule matches, and a flagged board goes to the quarantine bin. -/
theorem decides_rule (b : Nat) (cls : MClass) (h : cls ∈ [MClass.pass, .wet, .overdry, .unmeasured]) :
    ({ plan5 with rules := plan5.rules.map (fun r => { r with bin := b }) } : Plan).Decides false 1 15 31 15 cls b .data :=
  .inl ⟨⟨[0, 1, 2, 3, 4, 5, 6, 7], List.range 16, 0, 31, List.range 16, [.pass, .wet, .overdry, .unmeasured], b⟩,
    ⟨⟨by simp, by simp, by simp, by simp, by simp, h⟩, [], [], rfl, by simp⟩, rfl, rfl⟩

theorem decides_no_rule (cls : MClass) : Plan.default.Decides false 1 15 31 15 cls 15 .noRule :=
  .inr ⟨by intro x hx; simp [Plan.default] at hx, rfl, rfl⟩

theorem decides_quarantine (p : Plan) (cls : MClass) : p.Decides true 1 15 31 15 cls p.quarantine .quarantine := ⟨rfl, rfl⟩

/-- An unknown charge; then a found one whose board is unmeasured, whose board trips the test, and whose
board is sorted by a rule, each at a gate position still ahead. -/
theorem witness_BoardDecisionFollowsThePlan :
    let s := arriving nearTrip plan3 .reset
    let e : Entry := ⟨5, 100300, none⟩
    (s.QueueAt [] e [] ∧ s.ActivePlan 0 plan3 ∧
      (∀ i c, s.charge? i = some c → c.number = 1 → c.state = .staged ∨ c.state = .kiln ∨ 16777215 ≤ c.seen) ∧
      ¬s.Reached (s.decisionFor e { boardOf 0 with number := 1 } none none .unmeasured .unknownCharge plan3.reject 0 none).openPos) ∧
      s.BoardFound [] e [] (boardOf 4095) 5 nearTrip redoak 0 plan3 ∧
      s.BoardFound [] e [] (boardOf 4094) 5 nearTrip redoak 0 plan3 ∧
      s.BoardFound [] e [] (boardOf 1800) 5 nearTrip redoak 0 plan3 ∧
      (∃ c', nearTrip.Counted none .unmeasured c' ∧ ¬c'.Trips none) ∧
      (∃ c', nearTrip.Counted (some 258) .wet c' ∧ c'.Trips (some 258)) ∧
      (∃ c', ({ nearTrip with winWet := 4, wetCount := 4 } : Charge).Counted (some 101) .pass c' ∧ ¬c'.Trips (some 101)) ∧
      ((computeReading redoak.meter 4094 31).mc = some 258 ∧ (computeReading redoak.meter 1800 31).mc = some 101) ∧
      plan3.Decides false 1 15 31 15 .pass 3 .data ∧ plan3.Decides true 1 15 31 15 .wet 15 .quarantine ∧
      Plan.default.Decides false 1 15 31 15 .pass 15 .noRule ∧ (3 ∉ plan3.building ∧ 15 ∉ plan3.building) ∧
      ¬s.Reached (s.decisionFor e (boardOf 1800) (some 5) (some 101) .pass .data 3 0 none).openPos := by
  have h (raw : Nat) : (arriving nearTrip plan3 .reset).BoardFound [] ⟨5, 100300, none⟩ [] (boardOf raw) 5 nearTrip redoak 0 plan3 :=
    boardFound nearTrip plan3 .reset (boardOf raw) rfl (.inl rfl) (by decide) rfl
  refine ⟨⟨queueAt_only _ _ _ _, ⟨rfl, rfl⟩, ?_, ?_⟩, h _, h _, h _, ⟨_, rfl, ?_⟩, ⟨_, rfl, ?_⟩, ⟨_, rfl, ?_⟩,
    by decide +kernel, decides_rule 3 .pass (by decide), decides_quarantine plan3 _, decides_no_rule _, by decide, ?_⟩
  · intro i c hc hn
    exact absurd hn (noCharge_withCharge 5 1 nearTrip (by decide) (by decide) i c hc)
  · unfold State.Reached; decide +kernel
  · unfold Charge.Trips; decide +kernel
  · unfold Charge.Trips; decide +kernel
  · unfold Charge.Trips; decide +kernel
  · unfold State.Reached; decide +kernel

/-- Pack tables: bin 5 with a current pack one board short of its target, and no free record. -/
def nearlyFull : PackTable :=
  ⟨(List.replicate 48 none).set 47 (some { pack2050 .opened 5 0 with number := 999999 }), (List.replicate 16 none).set 5 (some 47), 999999⟩

def crowded : PackTable :=
  ⟨(List.range 48).map (fun k => some { pack2050 .held 5 0 with number := k + 1 }), List.replicate 16 none, 1⟩

/-- A board bound to the current pack, to a newly allocated one, and redirected from a full table. -/
theorem witness_BoardBindsToItsBinsPack :
    (∀ packs ∈ [nearlyFull, PackTable.reset, crowded],
      (arriving nearTrip plan5 packs).BoardFound [] ⟨5, 100300, none⟩ [] (boardOf 1800) 5 nearTrip redoak 0 plan5) ∧
      (PacksOk (arriving nearTrip plan5 nearlyFull) ∧ PacksOk (arriving nearTrip plan5 .reset) ∧
        PacksOk (arriving nearTrip plan5 crowded)) ∧
      plan5.Decides false 1 15 31 15 .pass 5 .data ∧ 5 ∈ plan5.building ∧
      (∀ packs ∈ [nearlyFull, PackTable.reset, crowded], let s := arriving nearTrip plan5 packs
        ¬s.Reached (s.gatePositions 100300 5 0).1 ∧ ¬s.Reached (s.gatePositions 100300 plan5.reject 0).1) ∧
      ((arriving nearTrip plan5 nearlyFull).currentPack 5 = some 47 ∧
        ((arriving nearTrip plan5 nearlyFull).pack? 47).isSome = true) ∧
      ((arriving nearTrip plan5 .reset).currentPack 5 = none ∧ LowestFree PackTable.reset.records 0) ∧
      ((arriving nearTrip plan5 crowded).currentPack 5 = none ∧ ∀ o ∈ crowded.records, o ≠ none) := by
  refine ⟨fun packs _ => boardFound nearTrip plan5 packs (boardOf 1800) rfl (.inl rfl) (by decide) rfl,
    ⟨?_, ?_, ?_⟩, decides_rule 5 .pass (by decide), by decide, ?_, by decide +kernel, ⟨rfl, rfl, ?_⟩, by decide +kernel⟩
  · unfold PacksOk QueueOk CurrentPacksOk PackOk Plan.Ok; and_intros <;> decide +kernel
  · unfold PacksOk QueueOk CurrentPacksOk PackOk Plan.Ok; and_intros <;> decide +kernel
  · unfold PacksOk QueueOk CurrentPacksOk PackOk Plan.Ok; and_intros <;> decide +kernel
  · unfold State.Reached; decide +kernel
  · intro j hj; omega

/-- A queued pack and a pack in a READY frame that both hold charge slot 5, and a labelled one that does too. -/
def labelling : State :=
  { (withOne (charge 65535 .inFeed)) with
    packs := ⟨(((List.replicate 48 none).set 0 (some (pack2050 .labelQueued 5 0))).set 1
      (some { pack2050 .labelReady 5 0 with number := 2051 })).set 47 (some { pack2050 .labelled 5 0 with number := 2052 }),
      List.replicate 16 none, 2053⟩
    labels := { Labels.reset with
      queue := [0], ready := [1], frame1 := ⟨.ready, some 1, Frame.blank⟩
      templates := [[], [], [], [⟨.text, 0, 39, 0, 11, [32, 126]⟩]]
      load := some ⟨3, 16, [⟨.marks, 39, 39, 11, 11, []⟩]⟩ } }

theorem labelsOk_labelling : LabelsOk labelling := by
  unfold LabelsOk CurrentPacksOk FrameOk
  and_intros <;> decide +kernel

theorem templatesOk_labelling : TemplatesOk labelling := by
  unfold TemplatesOk TemplateLoad.Ok Placement.Ok Placement.OnCard
  and_intros <;> decide +kernel

theorem witness_QuarantineEntryHoldsPacks :
    LabelsOk labelling ∧ labelling.charge? 5 = some (charge 65535 .inFeed) := ⟨labelsOk_labelling, rfl⟩

/-! ## Sort plans -/

/-- A Sorter whose other slot holds a plan, in a role. -/
def loading (role : Role) (plan : Option Plan) : State :=
  { State.reset with sorter := { sortBy5 0 with slot1 := ⟨role, plan, 0⟩ } }

/-- Headers at the ends of their ranges and one whose reject bin builds; rule parts of a slot that is
EMPTY, LOADING and LOADED, and a rule just out of range. -/
theorem witness_PlanLoadBuildsTheShadowPlan :
    (∀ r p, (loading r p).linkReady = true ∧ (loading r p).shadowSlot = 1) ∧
      (loading .draining none).sorter.slot1.role = .draining ∧
      ¬((loading .shadow none).sorter.slot0.role = .draining ∨ (loading .shadow none).sorter.slot1.role = .draining) ∧
      ((15 ≤ 15 ∧ 14 ≤ 15) ∧ Nat.testBit 32767 15 = false ∧ Nat.testBit 32767 14 = true ∧
        (∀ b ∈ List.replicate 16 (3, 9999), b.1 ≤ 3 ∧ 1 ≤ b.2 ∧ b.2 ≤ 9999) ∧ 48 ≤ 48 ∧ 0 ≤ 48) ∧
      ¬(Nat.testBit 32768 15 = false) ∧
      ((⟨255, 65535, 0, 31, 65535, 15, 15⟩ : RuleFields).Fits ∧ (⟨255, 65535, 0, 31, 65535, 15, 15⟩ : RuleFields).InRange plan5) ∧
      ((⟨255, 65535, 0, 32, 65535, 15, 15⟩ : RuleFields).Fits ∧ ¬(⟨255, 65535, 0, 32, 65535, 15, 15⟩ : RuleFields).InRange plan5) ∧
      (((loading .shadow none).sorter.slot 1).plan = none ∧
        ((loading .shadow (some { plan5 with rules := [] })).sorter.slot 1).plan = some { plan5 with rules := [] } ∧
        ((loading .shadow (some plan5)).sorter.slot 1).plan = some plan5) ∧
      (([] : List Rule).length < 1 ∧ 0 = ([] : List Rule).length ∧ 0 + 1 ≤ plan5.ruleCount) ∧
      ¬(plan5.rules.length < plan5.ruleCount) := by
  unfold RuleFields.Fits RuleFields.InRange
  exact ⟨fun r p => ⟨rfl, rfl⟩, rfl, by decide, by decide, by decide, by decide, by decide, ⟨rfl, rfl, rfl⟩, by decide, by decide⟩

/-- Switches with slot 1 draining, EMPTY, LOADING, and whole while bin 5's current pack is open. -/
def switching : State := { boundPacks with sorter := { sortBy5 2 with slot1 := ⟨.shadow, some .default, 0⟩ } }

theorem packsOk_switching : PacksOk switching := by
  unfold PacksOk QueueOk CurrentPacksOk PackOk Plan.Ok
  and_intros <;> decide +kernel

theorem witness_PlanSwitchActivatesTheShadowPlan :
    (∀ r p, (loading r p).linkReady = true) ∧ (loading .draining none).sorter.slot1.role = .draining ∧
      ((loading .shadow none).sorter.slot (loading .shadow none).shadowSlot).plan = none ∧
      (((loading .shadow (some { plan5 with rules := [] })).sorter.slot 1).plan = some { plan5 with rules := [] } ∧
        ([] : List Rule).length < plan5.ruleCount) ∧
      switching.linkReady = true ∧ switching.shadowSlot = 1 ∧
      ¬(switching.sorter.slot0.role = .draining ∨ switching.sorter.slot1.role = .draining) ∧ PacksOk switching ∧
      switching.ActivePlan 0 plan5 ∧ (switching.sorter.slot 1).plan = some .default ∧
      Plan.default.ruleCount ≤ Plan.default.rules.length :=
  ⟨fun _ _ => rfl, rfl, rfl, ⟨rfl, by decide⟩, rfl, rfl, by decide +kernel, packsOk_switching, ⟨rfl, rfl⟩, rfl, by decide⟩

theorem witness_PlanAndPackReports :
    let p : Pack := { pack2050 .held 6 0 with number := 999999 }
    State.reset.linkReady = true ∧ (1 ≤ 1 ∧ 1 < 2 ∧ 47 ≤ 47 ∧ 47 < 48 ∧ 255 ≤ 255) ∧
      (State.reset.sorter.slot 1).plan = none ∧ (State.reset.sorter.slot 0).plan = some .default ∧
      ((State.reset.withPack 47 p).linkReady = true ∧ (State.reset.withPack 47 p).OnlyPack 999999 47 p) ∧
      (999999 ≤ 999999 ∧ 255 ≠ 0 ∧ (15 < 16 ∨ 15 = 255) ∧ (63 < 64 ∨ 63 = 255)) ∧
      ¬(1000000 ≤ 999999 ∧ 255 ≠ 0 ∧ (255 < 16 ∨ 255 = 255) ∧ (255 < 64 ∨ 255 = 255)) ∧ 1000000 ≤ 16777215 :=
  ⟨ready_reset, by decide, rfl, rfl, ⟨rfl, onlyPack 47 { pack2050 .held 6 0 with number := 999999 } (by decide)⟩,
    by decide, by decide, by decide⟩

/-! ## Packs -/

theorem witness_PackRequestsChangeTheNamedPack :
    let p (st : PackState) (pieces bound : Nat) : Pack := { pack2050 st pieces bound with number := 999999 }
    (∀ st pieces bound, (State.reset.withPack 47 (p st pieces bound)).linkReady = true ∧
      (State.reset.withPack 47 (p st pieces bound)).OnlyPack 999999 47 (p st pieces bound)) ∧
      ((0 : Nat) = 0 ∧ 999999 < 1000000 ∧ 1000000 ≤ 16777215 ∧ 1 ≤ 1 ∧ 999999 ≤ 999999) ∧ State.reset.NoPack 1 ∧
      ((p .opened 2 1).state = .opened ∧ 0 < (p .opened 2 1).bound) ∧
      ((p .opened 1 0).bound = 0 ∧ 0 < (p .opened 1 0).pieces) ∧ (p .held 6 0).state = .held ∧
      (p .closing 5 1).state ≠ .opened ∧ (p .closing 5 1).state ≠ .held ∧
      ((p .labelled 6 0).state = .labelled ∧ (p .labelled 6 0).charges.Nodup) ∧
      ((p .rejected 6 0).state = .rejected ∧ (p .printing 6 0).state ≠ .labelled ∧ (p .printing 6 0).state ≠ .rejected) :=
  ⟨fun st a b => ⟨rfl, onlyPack 47 { pack2050 st a b with number := 999999 } (by decide)⟩, by decide, noPack_reset _,
    by decide, by decide, rfl, by decide, by decide, by decide, by decide⟩

/-! ## Labels -/

/-- A template load that expects two placements of template 3 and holds one. -/
def templateLoading : State :=
  { State.reset with labels := { Labels.reset with load := some ⟨3, 2, [⟨.marks, 0, 39, 11, 11, []⟩]⟩ } }

/-- A placement over the whole card with the longest literal. -/
def wholeCard : Placement := ⟨.text, 0, 39, 0, 11, List.replicate 40 126⟩

theorem witness_TemplatesLoadAndRead :
    State.reset.linkReady = true ∧ templateLoading.linkReady = true ∧
      ((3 ≤ 3 ∧ 1 ≤ 1 ∧ 16 ≤ 16) ∧ (3 < 4 ∧ 16 < 17)) ∧
      (wholeCard.literal.length = 40 ∧ wholeCard.colEnd ≤ 255 ∧ wholeCard.OnCard ∧
        (∀ b ∈ wholeCard.literal, 32 ≤ b.toNat ∧ b.toNat ≤ 126)) ∧
      ¬(41 = (List.replicate 40 (126 : Byte)).length ∧ 41 ≤ 40) ∧
      ¬((⟨.text, 0, 40, 0, 11, []⟩ : Placement).OnCard) ∧
      State.reset.labels.load = none ∧ templateLoading.labels.load = some ⟨3, 2, [⟨.marks, 0, 39, 11, 11, []⟩]⟩ ∧
      ((3 : Nat) ≠ 2 ∧ ([⟨.marks, 0, 39, 11, 11, []⟩] : List Placement).length = 1 ∧ wholeCard.kind.code = 1) ∧
      (15 ≤ 15 ∧ 15 < 16) ∧ State.reset.labels.templates[3]? = some [] := by
  unfold Placement.OnCard
  exact ⟨ready_reset, rfl, by decide, by decide, by decide, by decide, rfl, rfl, by decide, by decide, rfl⟩

theorem witness_LabelRequests :
    let p (st : PackState) : Pack := { pack2050 st 6 0 with number := 999999 }
    State.reset.linkReady = true ∧
      (∀ st, (State.reset.withPack 47 (p st)).linkReady = true ∧ (State.reset.withPack 47 (p st)).OnlyPack 999999 47 (p st)) ∧
      (p .labelled).state = .labelled ∧ (p .held).state ≠ .labelled ∧ (1 < 2 ∧ 11 < 12 ∧ 1 ≤ 1 ∧ 11 ≤ 11) ∧
      (1 ≤ 1 ∧ 60 ≤ 60 ∧ 60 < 61 ∧ 255 ≤ 255) ∧ State.reset.labels.port ≠ .printing ∧
      ({ Labels.reset with port := .printing } : Labels).port = .printing :=
  ⟨ready_reset, fun st => ⟨rfl, onlyPack 47 { pack2050 st 6 0 with number := 999999 } (by decide)⟩, rfl, by decide, by decide,
    by decide, by decide, rfl⟩

/-- The worked composition into frame 0 and, with frame 0 taken, into frame 1. -/
theorem witness_CompositionWritesTheLabel :
    let taken : State := { composing with labels := { composing.labels with frame0 := ⟨.printing, some 47, Frame.blank⟩ } }
    (composing.resetAsserted = false ∧ composing.labels.queue = 3 :: [] ∧ composing.pack? 3 = some labelPack ∧
      composing.labels.frame0.state = .free) ∧
      (taken.labels.frame0.state ≠ .free ∧ taken.labels.frame1.state = .free) ∧
      (∀ pl ∈ (composing.labels.templates[labelPack.template]?).getD [], pl.OnCard) ∧
      State.reset.labels.queue = [] ∧
      (⟨.ready, some 3, Frame.blank⟩ : Frame).state ≠ .free := by
  unfold Placement.OnCard
  decide +kernel

/-- The worked composition's record, one with a single dimension and one without a measured board. -/
theorem witness_LabelTextsFollowTheRecord :
    let one : Pack := { labelPack with mixedDim := false }
    let dry : Pack := { labelPack with measured := 0, mcSum := 0, lowest := none, highest := none }
    labelPack.mixedDim = true ∧ (one.mixedDim = false ∧ one.dimension = some (3, 6)) ∧ dry.measured = 0 ∧
      (labelPack.measured ≠ 0 ∧ labelPack.lowest = some 96 ∧ labelPack.highest = some 121) ∧
      (([4127, 6310] : List Nat).Perm ((labelPack.charges.filterMap composing.charge?).map (·.number)) ∧
        ([4127, 6310] : List Nat).Pairwise (· ≤ ·)) := by
  decide +kernel

/-- A part whose frame 0 prints pack 3, with a cursor and a bit count. -/
def serving (cursor bits : Nat) : State :=
  { State.reset.withPack 3 (pack2050 .printing 6 0) with
    labels := { Labels.reset with
      frame0 := ⟨.printing, some 3, Frame.blank⟩, port := .printing, cursor := cursor, bitCount := bits, passTimeout := some 20 } }

theorem witness_PrintPassServesTheOldestFrame :
    let ready (p : LabelPortState) : State := { labelling with labels := { labelling.labels with port := p } }
    ((ready .idle).labels.port = .idle ∧ (ready .idle).labels.ready = 1 :: [] ∧
      ((ready .idle).labels.frame 1).pack = some 1 ∧ ((ready .idle).pack? 1).isSome = true) ∧
      ((ready .fault).labels.port = .fault ∧ State.reset.labels.ready = []) ∧
      (∀ c b, (serving c b).resetAsserted = false ∧ (serving c b).labels.port = .printing ∧
        (serving c b).Printing 0 3 (pack2050 .printing 6 0)) ∧
      ((serving 11 319).labels.bitCount < 320 ∧ (serving 12 0).labels.cursor ≤ 12) ∧
      (319 + 0 < 320 ∧ 320 ≤ 319 + 1 ∧ 12 ≤ 12 + ((0 + 320) / 320 - 1) ∧ 11 + ((319 + 1) / 320 - 1) < 12) ∧
      ((serving 11 319).labels.frame 0).cells[11]? = some (List.replicate 40 32) ∧
      (List.replicate 40 (32 : Byte))[319 / 8]? = some 32 ∧ State.reset.labels.port ≠ .printing :=
  ⟨by decide +kernel, by decide +kernel, fun c b => ⟨rfl, rfl, by decide, rfl, by intro h; simp at h, rfl, rfl⟩, by decide, by decide, rfl,
    rfl, by decide⟩

/-! ## Attention -/

theorem witness_AttentionOccurrencesAndRequests :
    (afternoon.linkReady = true ∧ (afternoon.attention.get .plan).pending = false ∧
      (afternoon.attention.get .step).pending = true) ∧ AttnClass.plan ≠ AttnClass.step ∧ (0 ≤ 255 ∧ 255 ≤ 255) ∧
      (∃ k : AttnClass, k.inSet 255 = true ∧ k.inSet 128 = true) ∧
      ∀ k : AttnClass, ¬(k.inSet 127 = true ∧ k.inSet 128 = true) := by
  refine ⟨by decide +kernel, by decide, by decide, ⟨.plan, by decide⟩, ?_⟩
  intro k
  cases k <;> decide

/-! ## What every step keeps: a state far from reset that meets each property, and a step from it -/

/-- A command in front of the queue. -/
def about (c : Instr) (s : State) : State := { s with pending := [c] }

theorem witness_EveryStepKeepsTheChargeCounts :
    ChargesOk (about (.boardMessage (message (boardOf 1800)))
      (arriving { nearTrip with mcSum := 4900, lowest := some 60, highest := some 300 } plan3 .reset)) ∧
      ∃ t, step (about (.boardMessage (message (boardOf 1800))) (arriving nearTrip plan3 .reset)) = .next t := by
  refine ⟨?_, _, rfl⟩
  unfold ChargesOk Charge.CountsOk
  decide +kernel

/-- One open gate, a former plan that drains, and two entries that wait for their messages. -/
def draining : State :=
  outfeed 102260 7
    [⟨4, 81700, some (decided 3 none 101650 102260 true)⟩,
      ⟨5, 100300, some { decided 3 none 120000 120560 false with planSlot := 1 }⟩, ⟨6, 102000, none⟩, ⟨7, 102200, none⟩]
    { State.reset with sorter :=
      ⟨⟨.draining, some plan5, 1⟩, ⟨.active, some plan3, 1⟩, (List.replicate 16 0).set 3 1⟩ }

theorem witness_EveryStepKeepsQueueAndSorterInAgreement :
    (QueueOk (about (.closeEvent 4) draining) ∧ TransitOk (about (.closeEvent 4) draining) ∧
        SorterOk (about (.closeEvent 4) draining)) ∧
      (WaitingSequencesRise (about (.closeEvent 4) draining) ∧ AwaitingAtTail (about (.closeEvent 4) draining)) ∧
      ∃ t, step (about (.closeEvent 4) draining) = .next t := by
  refine ⟨⟨?_, ?_, ?_⟩, ⟨?_, ?_⟩, _, rfl⟩
  · unfold QueueOk; decide +kernel
  · unfold TransitOk Geometry.Ok; and_intros <;> decide +kernel
  · unfold SorterOk PlanSlot.Ok Plan.Ok; and_intros <;> decide +kernel
  · unfold WaitingSequencesRise; decide +kernel
  · unfold AwaitingAtTail; decide +kernel

/-- A RUNNING chamber 12 whose last scan lies at the ends of its ranges. -/
def scanned12 : Chamber :=
  { chamber12 .running 1 .none with
    lastScan := some ⟨1500, -400, ⟨true, false, true⟩, 3⟩
    probes := [⟨some 600, .none⟩, ⟨some 0, .low⟩, ⟨none, .unmeasured⟩], estMean := some 600, estWettest := some 600 }

theorem scansOk_kiln12 : ScansOk (about .minuteTick (kiln12 scanned12 kilnCharge)) := by
  unfold ScansOk Chamber.ScanOk ProbeResult.Ok
  intro c hc
  and_intros <;> revert c <;> decide +kernel

theorem witness_EveryStepKeepsTheKilnSideInAgreement :
    KilnSideOk (about .minuteTick (kiln12 scanned12 kilnCharge)) ∧
      ScansOk (about .minuteTick (kiln12 scanned12 kilnCharge)) ∧
      ∃ t, step (about .minuteTick (kiln12 scanned12 kilnCharge)) = .next t := by
  refine ⟨?_, scansOk_kiln12, _, rfl⟩
  unfold KilnSideOk ChamberSchedule ChamberCharge ChargeChamber Chamber.Ok Run.Ok Step.Ok
  and_intros <;> try decide +kernel
  intro k hk sc hsc
  refine ⟨?_, ?_, ?_, ?_, ?_⟩ <;> revert k sc
  · decide +kernel
  · decide +kernel
  · unfold Step.Ok
    decide +kernel
  · decide +kernel
  · decide +kernel

/-- A charge named by two entries and by one pack. -/
def referred : State :=
  outfeed 100350 5
    [⟨4, 99700, some (decided 5 (some 3) 119650 120260 false)⟩, ⟨5, 100300, some (decided 15 none 120250 120860 false)⟩]
    ((State.reset.withCharge 5 { charge 65535 .inFeed with transitRef := 2, packRef := 1 }).withPack 3
      { pack2050 .closing 5 1 with charges := [5] })

theorem witness_EveryStepKeepsTheChargeReferences :
    ReferencesOk (about (send .lineRestart []) referred) ∧
      ∃ t, step (about (send .lineRestart []) referred) = .next t := by
  refine ⟨?_, _, rfl⟩
  unfold ReferencesOk QueueOk
  decide +kernel

theorem witness_EveryStepKeepsPacksAndLabelsInAgreement :
    PacksOk (about .composition labelling) ∧ LabelsOk (about .composition labelling) ∧
      TemplatesOk (about .composition labelling) ∧
      ∃ t, step (about .composition labelling) = .next t := by
  refine ⟨?_, labelsOk_labelling, templatesOk_labelling, _, rfl⟩
  unfold PacksOk QueueOk CurrentPacksOk PackOk Plan.Ok
  and_intros <;> decide +kernel

theorem witness_EveryStepKeepsAttentionObjects :
    AttentionOk (about (send .attnAck [20]) afternoon) ∧ ∃ t, step (about (send .attnAck [20]) afternoon) = .next t := by
  refine ⟨?_, _, rfl⟩
  unfold AttentionOk AttnRecord.Ok
  decide +kernel

end Sys2Proof.Tests
end

section
namespace Sys2Proof.Machine

/-! ## Fields of a payload -/

theorem beNat_lt (l : List Byte) : beNat l < 256 ^ l.length := by
  induction l with
  | nil => simp [beNat]
  | cons b l ih =>
    rw [beNat_cons, List.length_cons, pow_succ]
    have hb := b.isLt
    calc b.toNat * 256 ^ l.length + beNat l < (b.toNat + 1) * 256 ^ l.length := by rw [Nat.succ_mul]; omega
      _ ≤ 256 ^ l.length * 256 := by rw [Nat.mul_comm]; exact Nat.mul_le_mul_left _ (by omega)

theorem field_lt (p : List Byte) (i w : Nat) : field p i w < 256 ^ w :=
  lt_of_lt_of_le (beNat_lt _) (Nat.pow_le_pow_right (by decide) (List.length_take_le _ _))

/-- A step record that is read has its fields in range (R41). -/
theorem readStep_ok {p : List Byte} {t : Step} (h : readStep p = some t) : t.Ok := by
  have hd : field p 8 2 < 65536 := field_lt p 8 2
  simp only [readStep] at h
  split at h
  · cases h
  · split at h
    · cases h
      simp only [Step.Ok]
      omega
    · split at h
      · cases h
      · cases h
        simp only [Step.Ok]
        omega

theorem readSteps_ok {n : Nat} {p : List Byte} {l : List Step} (h : readSteps n p = some l) :
    l.length = n ∧ ∀ t ∈ l, t.Ok := by
  induction n generalizing p l with
  | zero => cases h; simp
  | succ n ih =>
    simp only [readSteps] at h
    split at h
    · rename_i t l' ht hl
      cases h
      obtain ⟨hlen, hok⟩ := ih hl
      exact ⟨by simp [hlen], by simpa using ⟨readStep_ok ht, hok⟩⟩
    · cases h

/-! ## Chambers changed in place -/

/-- A schedule has steps, and every one is in range (R41). -/
def Schedule.StepsOk (sc : Schedule) : Prop := 1 ≤ sc.steps.length ∧ ∀ t ∈ sc.steps, t.Ok

/-- `c'` is a record that the chamber `c` may take without giving up its charge or its schedule: what the
specification says of a chamber stays true of it. -/
structure Chamber.Follows (s : State) (c c' : Chamber) : Prop where
  chargeSlot : c'.chargeSlot = c.chargeSlot
  schedule : c'.schedule = c.schedule
  ok : (∀ n sc, c.schedule = some n → s.schedule? n = some sc → sc.StepsOk) → ChamberSchedule s c → c.Ok →
    c'.Ok ∧ ChamberSchedule s c'
  scan : c.ScanOk → c'.ScanOk

theorem Chamber.Follows.refl (s : State) (c : Chamber) : c.Follows s c :=
  ⟨rfl, rfl, fun _ h h' => ⟨h', h⟩, id⟩

theorem Chamber.Follows.trans {s : State} {a b c : Chamber} (h : a.Follows s b) (h' : b.Follows s c) :
    a.Follows s c where
  chargeSlot := h'.chargeSlot.trans h.chargeSlot
  schedule := h'.schedule.trans h.schedule
  ok hs hc ha :=
    have ⟨hb, hbc⟩ := h.ok hs hc ha
    h'.ok (h.schedule ▸ hs) hbc hb
  scan hs := h'.scan (h.scan hs)

theorem chamberSchedule_iff (s : State) (c : Chamber) :
    ChamberSchedule s c ↔ ∀ n, c.schedule = some n →
      ∃ sc, s.schedule? n = some sc ∧ ∀ r, c.run = some r → r.index < sc.steps.length := by
  simp only [ChamberSchedule, Option.mem_toList]
  refine forall_congr' fun n => forall_congr' fun _ => ?_
  rcases s.schedule? n with _ | sc <;> simp

theorem Chamber.inProgress_iff (c : Chamber) : c.inProgress = true ↔ c.state = .running ∨ c.state = .hold := by
  simp [Chamber.inProgress]

theorem Chamber.ne_empty_of_inProgress {c : Chamber} (h : c.inProgress = true) : c.state ≠ .empty := by
  rcases c.inProgress_iff.mp h with h | h <;> rw [h] <;> decide

theorem Chamber.inProgress_reform {c : Chamber} (h : c.inProgress = true) : c.reform.inProgress = true := by
  rw [Chamber.reform, if_pos (c.inProgress_iff.mp h)]
  cases c.causes.isEmpty <;> simp [Chamber.inProgress]

/-- A chamber in order that is in progress: it has a run, and its state tells whether a hold cause is there. -/
theorem Chamber.Ok.run_of_inProgress {c : Chamber} (h : c.Ok) (hp : c.inProgress = true) :
    ∃ r, c.run = some r ∧ r.Ok := by
  obtain ⟨-, -, hrun, hhold, -, -, -, hr⟩ := h
  have : c.run.isSome = true := by
    rcases (c.inProgress_iff.mp hp) with h | h
    · exact (hrun h).1
    · exact (hhold h).1
  obtain ⟨r, hcr⟩ := Option.isSome_iff_exists.mp this
  exact ⟨r, hcr, hr r (by simp [hcr])⟩

/-- A chamber that holds a charge names a schedule that is defined. -/
theorem Chamber.Ok.scheduleOf {s : State} {c : Chamber} (h : c.Ok) (hs : ChamberSchedule s c)
    (he : c.state ≠ .empty) :
    ∃ n, c.schedule = some n ∧ s.schedule? n = some (s.scheduleOf c) ∧
      ∀ r, c.run = some r → r.index < (s.scheduleOf c).steps.length := by
  obtain ⟨-, hn, -⟩ := h
  obtain ⟨n, hn⟩ := Option.isSome_iff_exists.mp (hn he).2
  obtain ⟨sc, hsc, hi⟩ := (chamberSchedule_iff s c).mp hs n hn
  have : s.scheduleOf c = sc := by simp [State.scheduleOf, hn, hsc]
  exact ⟨n, hn, this ▸ hsc, this ▸ hi⟩

theorem Schedule.StepsOk.stepAt {sc : Schedule} (h : sc.StepsOk) {i : Nat} (hi : i < sc.steps.length) :
    (sc.stepAt i).Ok := by
  simp only [Schedule.stepAt, List.getElem?_eq_getElem hi, Option.getD_some]
  exact h.2 _ (List.getElem_mem hi)

theorem Chamber.follows_dropDue (s : State) (c : Chamber) : c.Follows s { c with limitDue := false } where
  chargeSlot := rfl
  schedule := rfl
  ok _ hs := by
    rintro ⟨hE, hN⟩
    exact ⟨⟨fun he => by simp only at he; rw [hE he]; rfl, hN⟩, hs⟩
  scan h := h

/-- The causes of a chamber replaced and its state re-formed (R57). REQUEST and STEP_LIMIT may only be there
while it is in progress. -/
theorem Chamber.follows_reform (s : State) (c : Chamber) (k : Causes) (he : c.state ≠ .empty)
    (hk : c.inProgress = true ∨ (k.request = c.causes.request ∧ k.stepLimit = c.causes.stepLimit)) :
    c.Follows s ({ c with causes := k } : Chamber).reform where
  chargeSlot := by unfold Chamber.reform; split <;> rfl
  schedule := by unfold Chamber.reform; split <;> rfl
  ok _ hs hok := by
    have hrun (hp : c.inProgress = true) : c.run.isSome = true := by
      obtain ⟨r, hr, -⟩ := hok.run_of_inProgress hp
      simp [hr]
    refine ⟨?_, by unfold Chamber.reform; split <;> exact hs⟩
    obtain ⟨hE, hN, hR, hH, hC, hL, hQ, hr⟩ := hok
    rw [Chamber.inProgress_iff] at hk hrun
    simp only [Chamber.reform]
    by_cases hp : c.state = .running ∨ c.state = .hold
    · have hne := hN he
      rw [if_pos hp]
      cases hi : k.isEmpty <;> simp_all [Chamber.Ok]
    · rw [if_neg hp]
      rw [not_or] at hp
      simp_all [Chamber.Ok]
  scan h := by unfold Chamber.reform; split <;> exact h

/-- The fields of a chamber in progress replaced. -/
theorem Chamber.follows_run {s : State} {c : Chamber} {r r' : Run} (how : LastAdvance) (due : Bool)
    (hp : c.inProgress = true) (hr : c.run = some r)
    (ok : (s.scheduleOf c).StepsOk → r.index < (s.scheduleOf c).steps.length → r.Ok →
      r'.Ok ∧ r'.index < (s.scheduleOf c).steps.length) :
    c.Follows s { c with run := some r', lastAdvance := how, limitDue := due } where
  chargeSlot := rfl
  schedule := rfl
  ok hs hc hok := by
    obtain ⟨n, hn, hsc, hi⟩ := hok.scheduleOf hc (Chamber.ne_empty_of_inProgress hp)
    obtain ⟨hE, hN, hR, hH, hC, hL, hQ, hrun⟩ := hok
    obtain ⟨hok', hi'⟩ := ok (hs n _ hn hsc) (hi r hr) (hrun r (by simp [hr]))
    constructor
    · rcases (c.inProgress_iff.mp hp) with h | h <;> simp_all [Chamber.Ok]
    · rw [chamberSchedule_iff]
      intro m hm
      rw [hn, Option.some.injEq] at hm
      subst hm
      exact ⟨_, hsc, fun x hx => by cases hx; exact hi'⟩
  scan h := h

/-- A chamber that ends its run: COMPLETE or ABORTED, REQUEST and STEP_LIMIT gone (R66, R75). -/
theorem Chamber.follows_ended (s : State) {c : Chamber} {st : ChamberState} (how : LastAdvance)
    (hst : st = .complete ∧ c.run.isSome = true ∨ st = .aborted) (he : c.state ≠ .empty) :
    c.Follows s { c with state := st, lastAdvance := how,
                         causes := { c.causes with request := false, stepLimit := false } } where
  chargeSlot := rfl
  schedule := rfl
  ok _ hs hok := by
    refine ⟨?_, hs⟩
    obtain ⟨hE, hN, -, -, -, -, -, hr⟩ := hok
    have hne := hN he
    rcases hst with ⟨rfl, h⟩ | rfl <;> simp_all [Chamber.Ok]
  scan h := h

/-- The start of a LOADED chamber (R70). -/
theorem Chamber.follows_started {s : State} {c : Chamber} {r : Run} (hl : c.state = .loaded)
    (ok : (s.scheduleOf c).StepsOk → r.Ok ∧ r.index = 0) :
    c.Follows s { c with run := some r, state := if c.causes.isEmpty then .running else .hold } where
  chargeSlot := rfl
  schedule := rfl
  ok hs hc hok := by
    obtain ⟨n, hn, hsc, -⟩ := hok.scheduleOf hc (by rw [hl]; decide)
    have hsteps := hs n _ hn hsc
    obtain ⟨hrok, hr0⟩ := ok hsteps
    obtain ⟨-, hN, -⟩ := hok
    constructor
    · cases hi : c.causes.isEmpty <;> simp_all [Chamber.Ok]
    · rw [chamberSchedule_iff]
      intro m hm
      rw [hn, Option.some.injEq] at hm
      subst hm
      exact ⟨_, hsc, fun x hx => by cases hx; exact hr0 ▸ hsteps.1⟩
  scan h := h

/-! ## Scans -/

theorem clampMC_le (m : Int) : clampMC m ≤ 600 := by
  unfold clampMC; split <;> [skip; split] <;> omega

/-- A measured reading lies within 0..600 (R29). -/
theorem computeReading_mc_le {k : Calibration} {raw : Nat} {t : Int} {m : Nat}
    (h : (computeReading k raw t).mc = some m) : m ≤ 600 := by
  simp only [computeReading] at h
  split at h
  · cases h
  · cases h
    exact clampMC_le _

theorem probeResult_ok (k : Calibration) (t : Int) (raw : Nat) : (probeResult k t raw).Ok := by
  refine ⟨?_, fun m hm => computeReading_mc_le (Option.mem_toList.mp hm)⟩
  simp only [probeResult, computeReading]
  split
  · simp
  · simp only [markOf]
    split <;> [skip; split] <;> simp

theorem mem_validProbes {l : List ProbeResult} {m : Nat} :
    m ∈ validProbes l ↔ ∃ r ∈ l, r.mark = .none ∧ r.mc = some m := by
  simp [validProbes, and_assoc]

theorem validProbes_eq_nil {l : List ProbeResult} (h : ∀ r ∈ l, r.Ok) :
    validProbes l = [] ↔ ¬ ∃ r ∈ l, r.mark = .none := by
  rw [List.eq_nil_iff_forall_not_mem]
  constructor
  · rintro hv ⟨r, hr, hm⟩
    have hne : r.mc ≠ none := fun hn => by simp [(h r hr).1.mpr hn] at hm
    obtain ⟨m, hmc⟩ := Option.ne_none_iff_exists'.mp hne
    exact hv m (mem_validProbes.mpr ⟨r, hr, hm, hmc⟩)
  · intro hv m hm
    obtain ⟨r, hr, hmark, -⟩ := mem_validProbes.mp hm
    exact hv ⟨r, hr, hmark⟩

theorem validProbes_le {l : List ProbeResult} (h : ∀ r ∈ l, r.Ok) {m : Nat} (hm : m ∈ validProbes l) :
    m ≤ 600 := by
  obtain ⟨r, hr, -, hmc⟩ := mem_validProbes.mp hm
  exact (h r hr).2 m (by simp [hmc])

/-- A mean of values up to `b` is at most `b` (R33). -/
theorem roundedMean_le {l : List Nat} {b m : Nat} (h : ∀ x ∈ l, x ≤ b)
    (hm : roundedMean l.sum l.length = some m) : m ≤ b := by
  have hs : l.sum ≤ l.length * b := by simpa using List.sum_le_card_nsmul l b h
  simp only [roundedMean] at hm
  split at hm
  · cases hm
  · cases hm
    refine Nat.lt_succ_iff.mp (Nat.div_lt_of_lt_mul ?_)
    have : 2 * l.length * (b + 1) = 2 * (l.length * b) + 2 * l.length := by ring
    rw [this]
    omega

theorem largest_mem {l : List Nat} {m : Nat} (h : largest l = some m) : m ∈ l := by
  cases l with
  | nil => cases h
  | cons a l =>
    have key : ∀ (l : List Nat) a, l.foldl max a = a ∨ l.foldl max a ∈ l := by
      intro l
      induction l with
      | nil => simp
      | cons b l ih =>
        intro a
        rcases ih (max a b) with h | h
        · rw [List.foldl_cons, h]
          rcases max_choice a b with hab | hab <;> simp [hab]
        · exact .inr (List.mem_cons_of_mem _ h)
    cases h
    exact List.mem_cons.mpr (key l a)

/-- The readings of a scan that its judgement accepts (R85). -/
def ScanReadings.Ok (sc : ScanReadings) : Prop :=
  -400 ≤ sc.dry ∧ sc.dry ≤ 1500 ∧ -400 ≤ sc.wet ∧ sc.readings.length ≤ 8

/-- The readings, probe results and estimates of a scan written into a chamber, its hold causes as they
were (stages 1 and 2 of R60). -/
def Chamber.scanned (c : Chamber) (k : Calibration) (sc : ScanReadings) : Chamber :=
  let probes := sc.readings.map (probeResult k (probeTemp sc.dry))
  { c with
    lastScan := some ⟨sc.dry, if sc.dry < sc.wet then sc.dry else sc.wet, sc.status, sc.readings.length⟩
    probes := probes
    estMean := estimateMean probes
    estWettest := estimateWettest probes }

theorem Chamber.takeScan_eq (c : Chamber) (k : Calibration) (sc : ScanReadings) :
    c.takeScan k sc = ({ c.scanned k sc with
      causes := { c.causes with line := false, module := sc.status.anyFault } } : Chamber).reform := rfl

/-- An accepted scan leaves readings, probe results and estimates in range (R60). -/
theorem Chamber.scanOk_scanned (c : Chamber) (k : Calibration) {sc : ScanReadings} (h : sc.Ok) :
    (c.scanned k sc).ScanOk := by
  have hp : ∀ r ∈ (c.scanned k sc).probes, r.Ok := by
    intro r hr
    obtain ⟨x, -, rfl⟩ := List.mem_map.mp hr
    exact probeResult_ok _ _ _
  obtain ⟨h1, h2, h3, h4⟩ := h
  refine ⟨by simp [scanned], ?_, hp, ?_, ?_, ?_, ?_⟩
  · simp only [scanned, Option.toList_some, List.mem_singleton, forall_eq, List.length_map, h4]
    split <;> simp <;> omega
  · intro m hm
    exact roundedMean_le (fun x => validProbes_le hp) (Option.mem_toList.mp hm)
  · intro m hm
    exact validProbes_le hp (largest_mem (Option.mem_toList.mp hm))
  · rw [← not_iff_not, ← validProbes_eq_nil hp]
    simp [scanned, estimateMean, roundedMean]
  · rw [← not_iff_not, ← validProbes_eq_nil hp]
    simp only [scanned, estimateWettest]
    cases validProbes _ <;> simp [largest]

/-- An accepted scan taken by a chamber that is not EMPTY (R60). -/
theorem Chamber.follows_takeScan (s : State) {c : Chamber} (k : Calibration) {sc : ScanReadings} (h : sc.Ok)
    (he : c.state ≠ .empty) : c.Follows s (c.takeScan k sc) := by
  have hscanned : c.Follows s (c.scanned k sc) := by
    refine ⟨rfl, rfl, fun _ hs hok => ⟨?_, hs⟩, fun _ => c.scanOk_scanned k h⟩
    obtain ⟨-, hrest⟩ := hok
    exact ⟨fun hst => absurd hst he, hrest⟩
  exact hscanned.trans ((c.scanned k sc).follows_reform s _ he (.inr ⟨rfl, rfl⟩))
end Sys2Proof.Machine
end

section
/-! What one step can do to the charge, schedule, chamber, transit and pack records, said once: a property
that the operations below keep is kept by every step. -/

namespace Sys2Proof.Machine

/-! ## The operations that change these records -/

/-- The records that the invariants of charges, kiln side and references speak of. -/
def State.records (s : State) :
    List (Option Charge) × List (Option Schedule) × List Chamber × Tracker × List (Option Pack) :=
  (s.charges, s.schedules, s.chambers, s.tracker, s.packs.records)

/-- `c'` differs from `c` in no count but the window counts, which have not risen, and in no number; it is
KILN exactly when `c` is, in the same chamber (R1, R35). -/
structure Charge.SameCounts (c c' : Charge) : Prop where
  number : c'.number = c.number := by rfl
  kiln : c'.state = .kiln ↔ c.state = .kiln := by exact Iff.rfl
  chamber : c'.chamber = c.chamber := by rfl
  seen : c'.seen = c.seen := by rfl
  measured : c'.measured = c.measured := by rfl
  unmeasured : c'.unmeasured = c.unmeasured := by rfl
  wetCount : c'.wetCount = c.wetCount := by rfl
  overdry : c'.overdry = c.overdry := by rfl
  mcSum : c'.mcSum = c.mcSum := by rfl
  winMeasured : c'.winMeasured ≤ c.winMeasured := by exact Nat.le_refl _
  winWet : c'.winWet ≤ c.winWet := by exact Nat.le_refl _

/-- A change of a charge that leaves its references alone as well (R15). -/
structure Charge.SameCountsAndRefs (c c' : Charge) : Prop extends c.SameCounts c' where
  transitRef : c'.transitRef = c.transitRef := by rfl
  packRef : c'.packRef = c.packRef := by rfl

/-- No two transit entries have one edge sequence (R97). -/
def State.DistinctEdges (s : State) : Prop := (s.tracker.queue.map (·.sequence)).Nodup

/-- The entry stands in the transit queue and waits for its message (R97). -/
def State.Waits (s : State) (e : Entry) : Prop := e ∈ s.tracker.queue ∧ e.decision = none

/-- Every state with the property has a transit queue of different edge sequences. -/
def ForcesDistinctEdges (P : State → Prop) : Prop := ∀ s, P s → s.DistinctEdges

/-- The charge slots that a pack's charge set does not hold yet get one more pack reference (R16). -/
def Pack.freshCharge (p : Pack) (d : Decision) : Option Nat := d.chargeSlot.filter (fun c => !p.charges.contains c)

/-- The property is kept by every change that a step makes to the charge, schedule, chamber, transit and
pack records. What `leave` and `decide` ask of the queue they may ask only where the property itself
keeps the edge sequences apart. -/
structure KeptByChanges (P : State → Prop) : Prop where
  reset : P State.reset
  congr {s t : State} : s.records = t.records → P s → P t
  create {s : State} {i number species d t w loaded qmin qp : Nat} : P s → s.charges[i]? = some none →
    s.NoCharge number → 1 ≤ number → number ≤ 65535 →
    P (s.withCharge i (.created number species d t w loaded qmin qp))
  retire {s : State} {i : Nat} {c : Charge} : P s → s.charge? i = some c → c.state ≠ .kiln →
    c.transitRef = 0 → c.packRef = 0 → P { s with charges := s.charges.set i none }
  adjust {s : State} {i : Nat} {f : Charge → Charge} : P s →
    (∀ c, s.charge? i = some c → c.SameCountsAndRefs (f c)) → P (s.modifyCharge i f)
  board {s : State} {i : Nat} {c : Charge} {mc : Option Nat} {cls : MClass} : P s → s.charge? i = some c →
    c.takesBoards = true → (∀ m, mc = some m → m ≤ 600) → P (s.modifyCharge i (fun _ => c.addBoard mc cls))
  define {s : State} {n rev : Nat} {steps : List Step} : P s → 1 ≤ n → n ≤ 32 →
    (∀ sc, s.schedule? n = some sc → sc.refCount = 0) → rev ≤ Config.max16 → steps.length ≤ 16 →
    (⟨rev, steps, 0⟩ : Schedule).StepsOk → P (s.setSchedule n (some ⟨rev, steps, 0⟩))
  amend {s : State} {n rev i : Nat} {sc : Schedule} {t : Step} : P s → s.schedule? n = some sc →
    rev ≤ Config.max16 → t.Ok → P (s.setSchedule n (some { sc with revision := rev, steps := sc.steps.set i t }))
  delete {s : State} {n : Nat} {sc : Schedule} : P s → s.schedule? n = some sc → sc.refCount = 0 →
    P (s.setSchedule n none)
  chambers {s : State} {l : List Chamber} : P s → List.Forall₂ (Chamber.Follows s) s.chambers l →
    P { s with chambers := l }
  load {s : State} {n i k : Nat} {ch : Charge} {sc : Schedule} : P s → 1 ≤ n → n ≤ 12 →
    ((s.chamber? n).getD .reset).state = .empty → s.charge? i = some ch → ch.state = .staged →
    s.schedule? k = some sc →
    P (((s.setChamber n { Chamber.reset with state := .loaded, chargeSlot := some i, schedule := some k }).modifyRefCount
      k (· + 1)).modifyCharge i (fun ch => { ch with state := .kiln, chamber := some n }))
  unload {s : State} {n : Nat} {c : Chamber} {next : ChargeState} : P s → s.chamber? n = some c →
    c.state ≠ .empty → next ≠ .kiln →
    P (((s.setChamber n .reset).modifyRefCount (c.schedule.getD 0) (· - 1)).modifyChargeOf c.chargeSlot
      (fun ch => { ch with state := next, chamber := none }))
  tracker {s : State} {k : Tracker} : P s → k.queue = s.tracker.queue →
    (k.position = s.tracker.position ∨ k.position < Config.chainModulus) →
    (k.edgeSequence = s.tracker.edgeSequence ∨ k.edgeSequence < 256) → P { s with tracker := k }
  enter {s : State} {q : Nat} : P s → s.tracker.queue.length < Config.transitPlaces → q < 256 →
    (∀ e ∈ s.tracker.queue, e.sequence ≠ q) → P (s.withQueue (s.tracker.queue ++ [⟨q, s.tracker.position, none⟩]))
  decide {s : State} {e : Entry} {d : Decision} : P s → (ForcesDistinctEdges P → s.Waits e) →
    (∀ i, d.chargeSlot = some i → (s.charge? i).isSome = true) →
    P ((s.modifyChargeOf d.chargeSlot (fun c => { c with transitRef := c.transitRef + 1 })).setDecision e.sequence d)
  redecide {s : State} {e : Entry} {d d' : Decision} : P s → s.entry? e.sequence = some e → e.decision = some d →
    d'.chargeSlot = d.chargeSlot → P (s.setDecision e.sequence d')
  leave {s : State} {e : Entry} {l : List Entry} : P s → s.entry? e.sequence = some e →
    (ForcesDistinctEdges P → l = s.tracker.queue.filter (fun x => x.sequence ≠ e.sequence)) →
    P ((s.modifyChargeOf (e.decision.bind (·.chargeSlot)) (fun c => { c with transitRef := c.transitRef - 1 })).withQueue l)
  relabel {s : State} {i : Nat} {f : Pack → Pack} : P s →
    (∀ p, (f p).charges = p.charges ∧ (f p).pieces = p.pieces) → P (s.modifyPack i f)
  allocate {s : State} {i : Nat} {p : Pack} : P s → s.packs.records[i]? = some none → p.charges = [] →
    P (s.withPack i p)
  discard {s : State} {i : Nat} {p : Pack} : P s → s.pack? i = some p → p.pieces = 0 → P (s.freePack i)
  piece {s : State} {i : Nat} {p : Pack} {e : Entry} {d : Decision} {q : Bool} : P s → s.pack? i = some p →
    e ∈ s.tracker.queue → e.decision = some d →
    P ((s.modifyPack i (fun p => p.addPiece s.tracker.dimensions d q)).modifyChargeOf (p.freshCharge d)
      (fun c => { c with packRef := c.packRef + 1 }))
  retirePack {s : State} {i : Nat} {p : Pack} : P s → s.pack? i = some p →
    P ((s.lowerPackRefs p.charges).freePack i)

/-! ## What the pack operations leave alone -/

/-- The state without what the pack operations change: packs, labels and attention. -/
def State.apartFromPacks (s : State) : State :=
  { s with packs := .reset, labels := .reset, attention := .reset }

theorem State.closePack_apart (s : State) (i : Nat) : (s.closePack i).apartFromPacks = s.apartFromPacks := by
  unfold State.closePack
  split
  · rfl
  · split
    · rfl
    · split <;> rfl

theorem State.closeRequest_apart (s : State) (i : Nat) (why : CloseReason) :
    (s.closeRequest i why).apartFromPacks = s.apartFromPacks := by
  unfold State.closeRequest
  split
  · rfl
  · simp only
    split
    · rw [State.closePack_apart]; rfl
    · rfl

theorem State.bindPack_apart (s : State) (i : Nat) : (s.bindPack i).apartFromPacks = s.apartFromPacks := by
  simp only [State.bindPack]
  split
  · rfl
  · split
    · rw [State.closeRequest_apart]; rfl
    · rfl

theorem State.bindBoard_apart (s : State) (bin : Nat) (plan : Plan) :
    (s.bindBoard bin plan).1.apartFromPacks = s.apartFromPacks := by
  unfold State.bindBoard
  split
  · exact s.bindPack_apart _
  · split
    · exact State.bindPack_apart _ _
    · rfl

theorem State.stageFive_apart (s : State) (q bin : Nat) (why : Reason) (plan : Plan) :
    (s.stageFive q bin why plan).1.apartFromPacks = s.apartFromPacks := by
  have hb := s.bindBoard_apart bin plan
  unfold State.stageFive
  split
  · split
    · rename_i h; rw [h] at hb; exact hb
    · rename_i h; rw [h] at hb; exact hb
  · rfl

theorem State.withdrawFrame_apart (s : State) (i : Nat) :
    (s.withdrawFrame i).apartFromPacks = s.apartFromPacks := by
  simp only [State.withdrawFrame]
  split
  · rfl
  · split <;> rfl

theorem State.withdrawPack_apart (s : State) (charge i : Nat) :
    (s.withdrawPack charge i).apartFromPacks = s.apartFromPacks := by
  unfold State.withdrawPack
  split
  · rfl
  · split
    · simp only
      split
      · rfl
      · exact State.withdrawFrame_apart _ _
      · rfl
    · rfl

theorem State.withdrawPacks_apart (s : State) (charge : Nat) :
    (s.withdrawPacks charge).apartFromPacks = s.apartFromPacks := by
  unfold State.withdrawPacks
  induction List.range Config.packSlots generalizing s with
  | nil => rfl
  | cons i l ih => exact (ih _).trans (s.withdrawPack_apart charge i)

theorem State.eq_of_apart {s t : State} (h : s.apartFromPacks = t.apartFromPacks) :
    s = { t with packs := s.packs, labels := s.labels, attention := s.attention } := by
  cases s; cases t; cases h; rfl

@[simp] theorem State.withdrawPacks_charges (s : State) (charge : Nat) :
    (s.withdrawPacks charge).charges = s.charges := by rw [State.eq_of_apart (s.withdrawPacks_apart charge)]

@[simp] theorem State.withdrawPacks_tracker (s : State) (charge : Nat) :
    (s.withdrawPacks charge).tracker = s.tracker := by rw [State.eq_of_apart (s.withdrawPacks_apart charge)]

@[simp] theorem State.stageFive_charges (s : State) (q bin : Nat) (why : Reason) (plan : Plan) :
    (s.stageFive q bin why plan).1.charges = s.charges := by
  rw [State.eq_of_apart (s.stageFive_apart q bin why plan)]

@[simp] theorem State.stageFive_tracker (s : State) (q bin : Nat) (why : Reason) (plan : Plan) :
    (s.stageFive q bin why plan).1.tracker = s.tracker := by
  rw [State.eq_of_apart (s.stageFive_apart q bin why plan)]

@[simp] theorem State.closePack_tracker (s : State) (i : Nat) : (s.closePack i).tracker = s.tracker := by
  rw [State.eq_of_apart (s.closePack_apart i)]

@[simp] theorem State.modifyChargeOf_tracker (s : State) (i : Option Nat) (f : Charge → Charge) :
    (s.modifyChargeOf i f).tracker = s.tracker := by
  cases i <;> rfl

@[simp] theorem State.deliver_tracker (s : State) (i : Nat) (d : Decision) :
    (s.deliver i d).tracker = s.tracker := by
  unfold State.deliver
  split
  · rfl
  · simp only
    split <;> simp

@[simp] theorem State.enterQuarantine_tracker (s : State) (i n : Nat) :
    (s.enterQuarantine i n).tracker = s.tracker := by
  simp [State.enterQuarantine]

section Operations
variable {P : State → Prop} (K : KeptByChanges P) {s : State}

namespace KeptByChanges
include K

/-! ## Packs -/

theorem raise {k : AttnClass} {o : AttnObject} (h : P s) : P (s.raise k o) := K.congr (s := s) rfl h

theorem holdPack {i n : Nat} (h : P s) : P (s.holdPack i n) := K.raise (K.relabel h fun _ => ⟨rfl, rfl⟩)

theorem queueTail {i : Nat} (h : P s) : P (s.queueTail i) :=
  K.congr (s := s.modifyPack i _) rfl (K.relabel h fun _ => ⟨rfl, rfl⟩)

theorem queueHead {i : Nat} (h : P s) : P (s.queueHead i) :=
  K.congr (s := s.modifyPack i _) rfl (K.relabel h fun _ => ⟨rfl, rfl⟩)

theorem closePack {i : Nat} (h : P s) : P (s.closePack i) := by
  unfold State.closePack
  split
  · exact h
  · rename_i p hp
    split
    · exact K.discard h hp ‹_›
    · split
      · exact K.holdPack h
      · exact K.queueTail h

theorem closeRequest {i : Nat} {why : CloseReason} (h : P s) : P (s.closeRequest i why) := by
  unfold State.closeRequest
  split
  · exact h
  · rename_i p hp
    have hc : P ((s.modifyPack i (fun p => { p with state := .closing, closeReason := some why })).setCurrent p.bin none) :=
      K.congr (s := s.modifyPack i _) rfl (K.relabel h fun _ => ⟨rfl, rfl⟩)
    simp only
    split
    · exact K.closePack hc
    · exact hc

theorem withdrawFrame {i : Nat} (h : P s) : P (s.withdrawFrame i) := by
  simp only [State.withdrawFrame]
  split
  · exact K.congr (s := s) rfl h
  · split
    · exact K.congr (s := s) rfl h
    · exact h

theorem withdrawPack {charge i : Nat} (h : P s) : P (s.withdrawPack charge i) := by
  unfold State.withdrawPack
  split
  · exact h
  · split
    · have hm : P (s.modifyPack i (fun p => { p with quarantineMix := true })) := K.relabel h fun _ => ⟨rfl, rfl⟩
      simp only
      split
      · exact K.holdPack (K.congr (s := s.modifyPack i _) rfl hm)
      · exact K.holdPack (K.withdrawFrame hm)
      · exact hm
    · exact h

theorem withdrawPacks {charge : Nat} (h : P s) : P (s.withdrawPacks charge) := by
  unfold State.withdrawPacks
  induction List.range Config.packSlots generalizing s with
  | nil => exact h
  | cons i l ih => exact ih (K.withdrawPack h)

/-- A charge's entry into quarantine (R18). -/
theorem enterQuarantine {i n : Nat} (h : P s) : P (s.enterQuarantine i n) :=
  K.withdrawPacks (K.raise (K.adjust h fun _ _ => {}))

theorem bindPack {i : Nat} (h : P s) : P (s.bindPack i) := by
  have hb : P (s.modifyPack i (fun p => { p with bound := p.bound + 1 })) := K.relabel h fun _ => ⟨rfl, rfl⟩
  simp only [State.bindPack]
  split
  · exact hb
  · split
    · exact K.closeRequest hb
    · exact hb

theorem allocatePack {i bin : Nat} {plan : Plan} (h : P s) (hi : s.packs.records[i]? = some none) :
    P (s.allocatePack i bin plan) :=
  K.congr (s := s.withPack i _) rfl (K.allocate h hi rfl)

theorem bindBoard {bin : Nat} {plan : Plan} (h : P s) : P (s.bindBoard bin plan).1 := by
  unfold State.bindBoard
  split
  · exact K.bindPack h
  · split
    · rename_i i hi
      exact K.bindPack (K.allocatePack h (freeSlot_some hi).2.1)
    · exact h

theorem stageFive {q bin : Nat} {why : Reason} {plan : Plan} (h : P s) : P (s.stageFive q bin why plan).1 := by
  have hb := K.bindBoard (bin := bin) (plan := plan) h
  unfold State.stageFive
  split
  · split
    · rename_i he; rw [he] at hb; exact hb
    · rename_i he; rw [he] at hb; exact K.raise hb
  · exact h

/-- A delivery of the board of a transit entry (R136). -/
theorem deliver {i : Nat} {e : Entry} {d : Decision} (h : P s) (he : e ∈ s.tracker.queue)
    (hd : e.decision = some d) : P (s.deliver i d) := by
  unfold State.deliver
  split
  · exact h
  · rename_i p hp
    have hm := K.piece (q := s.flagOf d.chargeSlot) h hp he hd
    simp only
    split
    · exact K.closePack hm
    · exact hm

theorem unbindPack {i : Nat} (h : P s) : P (s.unbindPack i) := by
  unfold State.unbindPack
  split
  · exact h
  · rename_i p hp
    have hm : P (s.modifyPack i (fun p => { p with bound := p.bound - 1 })) := K.relabel h fun _ => ⟨rfl, rfl⟩
    have hp' : (s.modifyPack i (fun p => { p with bound := p.bound - 1 })).pack? i =
        some { p with bound := p.bound - 1 } := by
      rw [State.pack?_modifyPack, if_pos rfl, hp]; rfl
    simp only
    split
    · split
      · exact K.closePack hm
      · split
        · rename_i ho
          exact K.congr (s := (s.modifyPack i _).freePack i) rfl (K.discard hm hp' ho.2)
        · exact hm
    · exact hm

end KeptByChanges
end Operations
end Sys2Proof.Machine
end

section
/-! What the kiln side's commands do to those records. -/

namespace Sys2Proof.Machine

theorem forall₂_set1 {α : Type} {R : α → α → Prop} (hR : ∀ a, R a a) (l : List α) (n : Nat) (a : α)
    (h : ∀ b, nth1 l n = some b → R b a) : List.Forall₂ R l (set1 l n a) := by
  cases n with
  | zero => exact List.forall₂_same.mpr fun b _ => hR b
  | succ k =>
    simp only [nth1, set1] at h ⊢
    induction l generalizing k with
    | nil => exact .nil
    | cons b l ih =>
      cases k with
      | zero => exact .cons (h b rfl) (List.forall₂_same.mpr fun b _ => hR b)
      | succ k => exact .cons (hR b) (ih k (by simpa using h))

/-- A record that is not EMPTY is that of a chamber that exists. -/
theorem State.chamber?_of_getD {s : State} {n : Nat} {c : Chamber} (h : (s.chamber? n).getD .reset = c)
    (hc : c.state ≠ .empty) : s.chamber? n = some c := by
  cases hn : s.chamber? n with
  | none =>
    rw [hn] at h
    exact absurd rfl (h ▸ hc)
  | some d =>
    rw [hn] at h
    exact congrArg some h

theorem State.chamber?_setChamber_same {s : State} {n : Nat} {c : Chamber} (h : s.chamber? n = some c)
    (c' : Chamber) : (s.setChamber n c').chamber? n = some c' := by
  rw [State.chamber?_setChamber, if_pos rfl, h]; rfl

/-! ## Runs -/

theorem Run.Ok.load {r : Run} (h : r.Ok) {sc : Schedule} (hs : sc.StepsOk) {i e : Nat}
    (hi : i < sc.steps.length) (he : e ≤ Config.max24) : (r.load sc i e).Ok := by
  have hstep := hs.stepAt hi
  obtain ⟨-, h1, h2, h3, -⟩ := h
  obtain ⟨-, -, -, -, -, h4, h5⟩ := id hstep
  exact ⟨hstep, h1, h2, h3, he, h4, le_trans h5 (by decide)⟩

theorem Run.Ok.extend {r : Run} (h : r.Ok) : r.extend.Ok := by
  obtain ⟨h0, h1, h2, h3, h4, h5, h6⟩ := h
  refine ⟨h0, h1, h2, h3, h4, ?_, Nat.min_le_left _ _⟩
  exact Nat.le_min.mpr ⟨by decide, by omega⟩

theorem rampToward_bounds {a target ramp lo hi : Nat} (ha : lo ≤ a ∧ a ≤ hi) (ht : lo ≤ target ∧ target ≤ hi) :
    lo ≤ rampToward a target ramp ∧ rampToward a target ramp ≤ hi := by
  unfold rampToward
  split <;> [skip; split <;> split] <;> omega

/-- A message's composition moves the setpoints of a RUNNING chamber alone (R62). -/
theorem Chamber.follows_compose (s : State) (c : Chamber) : c.Follows s c.compose.1 := by
  unfold Chamber.compose
  split
  · rename_i r hst hr
    refine c.follows_run (s := s) c.lastAdvance c.limitDue (by simp [Chamber.inProgress, hst]) hr
      fun _ hi ⟨h0, h1, h2, h3, h4, h5, h6⟩ => ⟨?_, hi⟩
    obtain ⟨ht1, ht2, -⟩ := id h0
    obtain ⟨hl, hu⟩ := rampToward_bounds (ramp := r.step.ramp) ⟨h1, h2⟩ ⟨ht1, ht2⟩
    exact ⟨h0, hl, hu, Nat.sub_le _ _, h4, h5, h6⟩
  · exact .refl s c
  · exact .refl s c

/-- The working limit of a chamber in progress extended (R72). -/
theorem Chamber.follows_extended (s : State) {c : Chamber} (hp : c.inProgress = true) :
    c.Follows s { c with run := if c.causes.stepLimit then c.run.map Run.extend else c.run } := by
  split
  · cases hr : c.run with
    | none => rw [Option.map_none, ← hr]; exact .refl s c
    | some r => exact c.follows_run c.lastAdvance c.limitDue hp hr fun _ hi hok => ⟨hok.extend, hi⟩
  · exact .refl s c

/-- A minute counted (R64). -/
theorem Chamber.follows_countMinute (s : State) (c : Chamber) : c.Follows s c.countMinute := by
  unfold Chamber.countMinute
  split
  · rename_i r hst hr
    exact c.follows_run (s := s) c.lastAdvance _ (by simp [Chamber.inProgress, hst]) hr
      fun _ hi ⟨h0, h1, h2, h3, _, h5, h6⟩ => ⟨⟨h0, h1, h2, h3, Nat.min_le_left _ _, h5, h6⟩, hi⟩
  · exact .refl s c

/-! ## Replies -/

theorem length_probeReadings (p : List Byte) (n : Nat) : (probeReadings p n).length = n := by
  induction n generalizing p with
  | zero => rfl
  | succ n ih => simp [probeReadings, ih]

theorem field_one (p : List Byte) (i : Nat) (b : Byte) (h : p[i]? = some b) : field p i 1 = b.toNat := by
  have : (p.drop i).take 1 = [b] := by
    rw [List.take_one, List.head?_drop, h]; rfl
  simp [field, this, beNat]

/-- A reply that is accepted carries actuals in range and at most 8 probes (R85). -/
theorem readScan_ok {n : Nat} {chars : List RxChar} (h : judge n chars = .accepted) : (readScan chars).Ok := by
  unfold judge at h
  split at h
  · cases h
  · split at h
    · cases h
    · rename_i hc
      simp only at h
      split at h
      · cases h
      · split at h
        · cases h
        · rename_i hr
          simp only [not_or, Bool.not_eq_false, actualInRange, Bool.and_eq_true,
            decide_eq_true_eq, Bool.not_eq_eq_eq_not, Bool.not_true] at hr hc
          obtain ⟨⟨hd1, hd2⟩, hw1, hw2⟩ := hr
          refine ⟨hd1, hd2, hw1, ?_⟩
          simp only [readScan, length_probeReadings]
          cases h6 : chars[6]? with
          | none => simp [replyComplete, replyLength, replyCount, h6] at hc
          | some x =>
            have hf : field (charBytes chars) 6 1 = x.value.toNat := field_one _ _ _ (by simp [charBytes, h6])
            rw [hf]
            by_contra hx
            simp [replyComplete, replyLength, replyCount, h6, hx] at hc

section Operations
variable {P : State → Prop} (K : KeptByChanges P) {s : State}

namespace KeptByChanges
include K

/-! ## Chambers -/

theorem setChamber {n : Nat} {c' : Chamber} (h : P s) (hc : ∀ c, s.chamber? n = some c → c.Follows s c') :
    P (s.setChamber n c') :=
  K.chambers h (forall₂_set1 (Chamber.Follows.refl s) s.chambers n c' hc)

theorem setChamber_of {n : Nat} {c c' : Chamber} (h : P s) (hn : s.chamber? n = some c) (hc : c.Follows s c') :
    P (s.setChamber n c') :=
  K.setChamber h fun d hd => by rw [hn, Option.some.injEq] at hd; exact hd ▸ hc

theorem raiseFault {newly : Bool} {n : Nat} (h : P s) : P (s.raiseFault newly n) := by
  unfold State.raiseFault
  split
  · exact K.raise h
  · exact h

theorem adjustOf {i : Option Nat} {f : Charge → Charge} (h : P s) (hf : ∀ c : Charge, c.SameCountsAndRefs (f c)) :
    P (s.modifyChargeOf i f) := by
  cases i with
  | none => exact h
  | some i => exact K.adjust h fun c _ => hf c

theorem advanceStep {n : Nat} {c : Chamber} {how : LastAdvance} (h : P s) (hn : s.chamber? n = some c)
    (hp : c.inProgress = true) : P (s.advanceStep n c how) := by
  have he := Chamber.ne_empty_of_inProgress hp
  unfold State.advanceStep
  split
  · exact h
  · rename_i r hr
    simp only
    split
    · rename_i hi
      exact K.raise (K.setChamber_of h hn (c.follows_run how c.limitDue hp hr
        fun hs _ hrun => ⟨hrun.load hs hi (by decide), hi⟩))
    · exact K.raise (K.adjustOf
        (K.setChamber_of h hn (c.follows_ended s how (.inl ⟨rfl, by simp [hr]⟩) he)) fun _ => {})

theorem limitAction {n : Nat} (h : P s) : P (s.limitAction n) := by
  unfold State.limitAction
  split
  · exact h
  · rename_i c hn
    split
    · have hdrop := c.follows_dropDue s
      have hset : P (s.setChamber n { c with limitDue := false }) := K.setChamber_of h hn hdrop
      have hget := State.chamber?_setChamber_same hn { c with limitDue := false }
      simp only
      split
      · rename_i r hst hr
        have hp : ({ c with limitDue := false } : Chamber).inProgress = true := by simp [Chamber.inProgress, hst]
        split
        · exact K.advanceStep hset hget hp
        · exact K.advanceStep hset hget hp
        · exact K.raiseFault (K.setChamber_of h hn
            (hdrop.trans (Chamber.follows_reform s _ _ (by simp [hst]) (.inl hp))))
      · exact hset
    · exact h

theorem settleTicks (h : P s) : P s.settleTicks :=
  List.foldlRecOn (motive := P) (List.range Config.chambers) (fun s k => s.limitAction (k + 1)) h
    fun _ ht _ _ => K.limitAction ht

theorem startRound (h : P s) : P s.startRound := K.congr (s := s) rfl h

theorem startDeferred (h : P s) : P s.startDeferred := by
  unfold State.startDeferred
  split
  · exact K.congr (s := s) rfl h
  · exact h

omit K in
theorem fieldEvent {f : State → State} (h : P s) (hf : P s → P (f s)) : P (s.fieldEvent f) := by
  unfold State.fieldEvent
  split
  · exact h
  · exact hf h

theorem settle (h : P s) : P s.settle := fieldEvent h fun h => K.startDeferred (K.settleTicks h)

theorem timerExpiry (h : P s) : P s.timerExpiry := by
  unfold State.timerExpiry
  split
  · exact K.congr (s := s) rfl h
  · simp only
    split <;> exact K.congr (s := s) rfl h

theorem minuteTick (h : P s) : P { s with chambers := s.chambers.map Chamber.countMinute } :=
  K.chambers h (List.forall₂_map_right_iff.mpr (List.forall₂_same.mpr fun c _ => c.follows_countMinute s))

theorem beginTransaction (h : P s) : P s.beginTransaction := by
  unfold State.beginTransaction
  split
  · split
    · exact h
    · split
      · exact h
      · rename_i c hn
        split
        · exact K.congr (s := s) rfl h
        · exact K.congr (s := s.setChamber _ c.compose.1) rfl (K.setChamber_of h hn (c.follows_compose s))
  · exact h

theorem openWindow (h : P s) : P s.openWindow := by
  unfold State.openWindow
  split
  · split
    · exact K.congr (s := s) rfl h
    · exact h
  · exact h

theorem acceptScan {n : Nat} {sc : ScanReadings} (h : P s) (hsc : sc.Ok) : P (s.acceptScan n sc) := by
  unfold State.acceptScan
  split
  · exact h
  · rename_i c hn
    split
    · exact h
    · rename_i he
      have hset := K.raiseFault (newly := sc.status.anyFault && !c.causes.module) (n := n)
        (K.setChamber_of h hn (c.follows_takeScan s (s.probeCalibration c) hsc he))
      simp only [State.testMoisture]
      split
      · rename_i r hst hr
        split
        · refine K.advanceStep hset ?_ (by simp [Chamber.inProgress, hst])
          unfold State.raiseFault
          split <;> exact State.chamber?_setChamber_same hn _
        · exact hset
      · exact hset

theorem takeMiss {n count limit : Nat} (h : P s) : P (s.takeMiss n count limit) := by
  unfold State.takeMiss
  split
  · exact h
  · rename_i c hn
    split
    · exact h
    · split
      · exact K.raiseFault (K.setChamber_of h hn (c.follows_reform s _ ‹_› (.inr ⟨rfl, rfl⟩)))
      · exact h

theorem endTransaction {t : Transaction} {o : ReplyOutcome} {chars : List RxChar} (h : P s)
    (ho : o = .accepted → (readScan chars).Ok) : P (s.endTransaction t o chars) := by
  have hport : ∀ p : Port, P { s with port := p } := fun p => K.congr (s := s) rfl h
  have key : ∀ u : State, P u → P (match u.port.turn with
      | some k => { u with port := u.port.nextTurn k }
      | none => u) := by
    intro u hu
    split
    · exact K.congr (s := u) rfl hu
    · exact hu
  unfold State.endTransaction
  refine key _ ?_
  split
  · exact K.acceptScan (hport _) (ho ‹_›)
  · exact K.takeMiss (hport _)

theorem receiveReply {chars : List RxChar} (h : P s) : P (s.receiveReply chars) := by
  unfold State.receiveReply
  split
  · split
    · simp only
      split
      · exact K.endTransaction h readScan_ok
      · exact K.congr (s := s) rfl h
    · exact h
  · exact h

theorem closeWindow {chars : List RxChar} (h : P s) : P (s.closeWindow chars) := by
  unfold State.closeWindow
  split
  · split
    · refine K.endTransaction h fun ho => ?_
      split at ho
      · cases ho
      · exact readScan_ok ho
    · exact h
  · exact h

end KeptByChanges
end Operations
end Sys2Proof.Machine
end

section
/-! What the requests of the host do to those records. -/

namespace Sys2Proof.Machine

/-- The property is kept by whatever the owner of a request answers OK. -/
def OwnerKeeps (P : State → Prop) (owner : List Byte → State → Reply) : Prop :=
  ∀ p s a t, P s → owner p s = .ok a t → P t

/-! ## Requests that name a record -/

theorem State.charge?_of_findCharge {s : State} {n i : Nat} {c : Charge} (h : s.findCharge n = some (i, c)) :
    s.charge? i = some c ∧ c.number = n := by
  obtain ⟨-, hi, hn, -⟩ := findLive_some h
  rw [Nat.sub_zero] at hi
  exact ⟨by rw [State.charge?, hi]; rfl, by simpa using hn⟩

theorem State.pack?_of_findPack {s : State} {n i : Nat} {k : Pack} (h : s.findPack n = some (i, k)) :
    s.pack? i = some k ∧ k.number = n := by
  obtain ⟨-, hi, hn, -⟩ := findLive_some h
  rw [Nat.sub_zero] at hi
  exact ⟨by rw [State.pack?, hi]; rfl, by simpa using hn⟩

theorem onCharge_ok {p : List Byte} {s t : State} {f : Nat → Charge → Reply} {a : List Byte}
    (h : onCharge p s f = .ok a t) : ∃ i c, s.charge? i = some c ∧ f i c = .ok a t := by
  unfold onCharge at h
  split at h
  · cases h
  · split at h
    · cases h
    · rename_i i c hc
      exact ⟨i, c, (State.charge?_of_findCharge hc).1, h⟩

theorem onSchedule_ok {p : List Byte} {s t : State} {f : Nat → Schedule → Reply} {a : List Byte}
    (h : onSchedule p s f = .ok a t) : ∃ n sc, s.schedule? n = some sc ∧ f n sc = .ok a t := by
  unfold onSchedule at h
  split at h
  · cases h
  · simp only at h
    split at h
    · cases h
    · split at h
      · cases h
      · rename_i sc hsc
        exact ⟨_, sc, hsc, h⟩

theorem onChamber_ok {p : List Byte} {s t : State} {f : Nat → Chamber → Reply} {a : List Byte}
    (h : onChamber p s f = .ok a t) : ∃ n c, (s.chamber? n).getD .reset = c ∧ f n c = .ok a t := by
  unfold onChamber at h
  split at h
  · cases h
  · simp only at h
    split at h
    · cases h
    · exact ⟨_, _, rfl, h⟩

theorem onPack_ok {p : List Byte} {s t : State} {f : Nat → Pack → Reply} {a : List Byte}
    (h : onPack p s f = .ok a t) : ∃ i k, s.pack? i = some k ∧ f i k = .ok a t := by
  unfold onPack at h
  split at h
  · cases h
  · simp only at h
    split at h
    · cases h
    · split at h
      · cases h
      · rename_i i k hk
        exact ⟨i, k, (State.pack?_of_findPack hk).1, h⟩

/-- A charge number is free when no live charge is found by it (R2). -/
theorem State.noCharge_of_findCharge {s : State} {n : Nat} (h : (s.findCharge n).isSome = false) : s.NoCharge n := by
  intro j d hd hn
  have hnone : s.findCharge n = none := by simpa using h
  have hmem : some d ∈ s.charges := by
    refine List.mem_of_getElem? (i := j) ?_
    rcases hx : s.charges[j]? with _ | _ | x <;> simp_all [State.charge?]
  simpa [hn] using findLive_none.mp hnone d hmem

theorem badSchedule_eq_false (n : Nat) : badSchedule n = false ↔ 1 ≤ n ∧ n ≤ 32 := by
  simp [badSchedule]; omega

theorem badChamber_eq_false (n : Nat) : badChamber n = false ↔ 1 ≤ n ∧ n ≤ 12 := by
  simp [badChamber]; omega

/-- The starting dry-bulb setpoint lies within 200..1300 (R70). -/
theorem startingDry_bounds (scan : Option Scan) {target : Nat} (h : 200 ≤ target ∧ target ≤ 1300) :
    200 ≤ startingDry scan target ∧ startingDry scan target ≤ 1300 := by
  unfold startingDry
  split <;> [skip; split <;> [skip; split]] <;> omega

section Operations
variable {P : State → Prop} (K : KeptByChanges P) {s : State}

namespace KeptByChanges
include K

/-! ## Charges -/

theorem chargeCreate : OwnerKeeps P chargeCreate := by
  intro p s a t h ho
  unfold Machine.chargeCreate at ho
  split at ho
  · cases ho
  · simp only at ho
    generalize (if p.length = 15 then field p 11 2 else 50) = qmin at ho
    generalize (if p.length = 15 then field p 13 2 else 1000) = qp at ho
    split at ho
    · cases ho
    · rename_i hf
      split at ho
      · cases ho
      · rename_i hd
        split at ho
        · cases ho
        · rename_i i hi
          cases ho
          have hn : field p 0 2 < 65536 := field_lt p 0 2
          exact K.create h (freeSlot_some hi).2.1 (s.noCharge_of_findCharge (by simpa using hd)) (by omega) (by omega)

theorem chargeLimits : OwnerKeeps P chargeLimits := by
  intro p s a t h ho
  unfold Machine.chargeLimits at ho
  split at ho
  · cases ho
  · simp only at ho
    split at ho
    · cases ho
    · split at ho
      · cases ho
      · cases ho
        exact K.adjust h fun _ _ => {}

theorem chargeRelease : OwnerKeeps P chargeRelease := by
  intro p s a t h ho
  unfold Machine.chargeRelease at ho
  split at ho
  · cases ho
  · simp only at ho
    split at ho
    · cases ho
    · split at ho
      · cases ho
      · split at ho
        · cases ho
        · cases ho
          exact K.adjust h fun _ _ => { winMeasured := Nat.zero_le _, winWet := Nat.zero_le _ }

theorem chargeFeedEnd : OwnerKeeps P chargeFeedEnd := by
  intro p s a t h ho
  obtain ⟨i, c, hc, ho⟩ := onCharge_ok ho
  split at ho
  · rename_i hst
    cases ho
    refine K.adjust h fun d hd => ?_
    rw [hc, Option.some.injEq] at hd
    exact { kiln := by rcases hst with hst | hst <;> simp [← hd, hst] }
  · cases ho

theorem chargeRetire : OwnerKeeps P chargeRetire := by
  intro p s a t h ho
  obtain ⟨i, c, hc, ho⟩ := onCharge_ok ho
  split at ho
  · cases ho
  · rename_i hst
    split at ho
    · cases ho
    · cases ho
      exact K.retire h hc (fun hk => hst (by simp [hk])) (by omega) (by omega)

/-! ## Species and schedules -/

theorem speciesSet : OwnerKeeps P speciesSet := by
  intro p s a t h ho
  unfold Machine.speciesSet at ho
  split at ho
  · cases ho
  · simp only at ho
    split at ho
    · cases ho
    · cases ho
      exact K.congr (s := s) rfl h

theorem schedDefine : OwnerKeeps P schedDefine := by
  intro p s a t h ho
  unfold Machine.schedDefine at ho
  split at ho
  · cases ho
  · simp only at ho
    split at ho
    · cases ho
    · rename_i hf
      split at ho
      · cases ho
      · rename_i steps hsteps
        obtain ⟨hl, hok⟩ := readSteps_ok hsteps
        simp only [not_or, Bool.not_eq_true, badSchedule_eq_false] at hf
        obtain ⟨⟨hn1, hn2⟩, hc1, hc2⟩ := hf
        have hso (rev) : (⟨rev, steps, 0⟩ : Schedule).StepsOk := ⟨by simp only [hl]; omega, hok⟩
        split at ho
        · rename_i hs
          cases ho
          exact K.define h hn1 hn2 (by simp [hs]) (by decide) (by omega) (hso 1)
        · rename_i sc hs
          split at ho
          · cases ho
          · rename_i hr
            cases ho
            have hr0 : sc.refCount = 0 := by omega
            rw [hr0]
            refine K.define h hn1 hn2 (fun d hd => ?_) (Nat.le_of_lt_succ (Nat.mod_lt _ (by decide))) (by omega) (hso _)
            rw [hs, Option.some.injEq] at hd
            exact hd ▸ hr0

theorem schedAmend : OwnerKeeps P schedAmend := by
  intro p s a t h ho
  unfold Machine.schedAmend at ho
  split at ho
  · cases ho
  · simp only at ho
    split at ho
    · cases ho
    · split at ho
      · cases ho
      · rename_i u hu
        split at ho
        · cases ho
        · rename_i sc hs
          split at ho
          · cases ho
          · cases ho
            exact K.amend h hs (Nat.le_of_lt_succ (Nat.mod_lt _ (by decide))) (readStep_ok hu)

theorem schedDelete : OwnerKeeps P schedDelete := by
  intro p s a t h ho
  obtain ⟨n, sc, hs, ho⟩ := onSchedule_ok ho
  split at ho
  · cases ho
  · cases ho
    exact K.delete h hs (by omega)

/-! ## Chambers and kiln port -/

theorem chamberLoad : OwnerKeeps P chamberLoad := by
  intro p s a t h ho
  unfold Machine.chamberLoad at ho
  split at ho
  · cases ho
  · simp only at ho
    split at ho
    · cases ho
    · rename_i hf
      simp only [not_or, Bool.not_eq_true, badChamber_eq_false] at hf
      split at ho
      · rename_i i ch sc hch hs
        split at ho
        · cases ho
        · rename_i hst
          simp only [not_or, not_not] at hst
          cases ho
          exact K.load h hf.1.1 hf.1.2 hst.1 (State.charge?_of_findCharge hch).1 hst.2 hs
      · cases ho

theorem chamberStart : OwnerKeeps P chamberStart := by
  intro p s a t h ho
  obtain ⟨n, c, hn, ho⟩ := onChamber_ok ho
  split at ho
  · cases ho
  · rename_i hst
    rw [not_not] at hst
    cases ho
    refine K.setChamber_of h (State.chamber?_of_getD hn (by simp [hst])) (c.follows_started hst fun hs => ⟨?_, rfl⟩)
    have h0 := hs.stepAt hs.1
    obtain ⟨h1, h2, -, -, -, h3, h4⟩ := id h0
    obtain ⟨hd1, hd2⟩ := startingDry_bounds c.lastScan ⟨h1, h2⟩
    exact ⟨h0, hd1, hd2, Nat.sub_le _ _, Nat.zero_le _, h3, le_trans h4 (by decide)⟩

/-- A request on a chamber in progress changes its record in place. -/
theorem ofInProgress {n : Nat} {c c' : Chamber} (h : P s) (hn : (s.chamber? n).getD .reset = c)
    (hp : c.inProgress = true) (hc : s.chamber? n = some c → c.Follows s c') : P (s.setChamber n c') := by
  have hn' := State.chamber?_of_getD hn (Chamber.ne_empty_of_inProgress hp)
  exact K.setChamber_of h hn' (hc hn')

theorem chamberHold : OwnerKeeps P chamberHold := by
  intro p s a t h ho
  obtain ⟨n, c, hn, ho⟩ := onChamber_ok ho
  split at ho
  · cases ho
  · rename_i hp
    rw [Bool.not_eq_true, Bool.not_eq_false'] at hp
    cases ho
    exact K.ofInProgress h hn hp fun _ => c.follows_reform s _ (Chamber.ne_empty_of_inProgress hp) (.inl hp)

theorem chamberResume : OwnerKeeps P chamberResume := by
  intro p s a t h ho
  obtain ⟨n, c, hn, ho⟩ := onChamber_ok ho
  split at ho
  · cases ho
  · rename_i hp
    rw [not_or, Bool.not_eq_true, Bool.not_eq_false'] at hp
    cases ho
    refine K.ofInProgress h hn hp.1 fun _ => (c.follows_extended s hp.1).trans ?_
    exact Chamber.follows_reform s { c with run := if c.causes.stepLimit then c.run.map Run.extend else c.run } _
      (Chamber.ne_empty_of_inProgress hp.1) (.inl hp.1)

theorem chamberSkip : OwnerKeeps P chamberSkip := by
  intro p s a t h ho
  obtain ⟨n, c, hn, ho⟩ := onChamber_ok ho
  split at ho
  · cases ho
  · rename_i hp
    rw [Bool.not_eq_true, Bool.not_eq_false'] at hp
    cases ho
    have he := Chamber.ne_empty_of_inProgress hp
    have hn' := State.chamber?_of_getD hn he
    exact K.advanceStep (K.setChamber_of h hn' (c.follows_reform s _ he (.inl hp)))
      (State.chamber?_setChamber_same hn' _) (Chamber.inProgress_reform hp)

theorem chamberReload : OwnerKeeps P chamberReload := by
  intro p s a t h ho
  obtain ⟨n, c, hn, ho⟩ := onChamber_ok ho
  split at ho
  · cases ho
  · rename_i hp
    rw [Bool.not_eq_true, Bool.not_eq_false'] at hp
    cases ho
    refine K.ofInProgress h hn hp fun _ => ?_
    cases hr : c.run with
    | none => rw [Option.map_none, ← hr]; exact .refl s c
    | some r =>
      exact c.follows_run c.lastAdvance c.limitDue hp hr
        fun hs hi hok => ⟨hok.load hs hi (by obtain ⟨-, -, -, -, he, -⟩ := hok; exact he), hi⟩

theorem chamberAbort : OwnerKeeps P chamberAbort := by
  intro p s a t h ho
  obtain ⟨n, c, hn, ho⟩ := onChamber_ok ho
  split at ho
  · cases ho
  · rename_i he
    split at ho
    · cases ho
      exact h
    · cases ho
      exact K.setChamber_of h (State.chamber?_of_getD hn he) (c.follows_ended s c.lastAdvance (.inr rfl) he)

theorem chamberUnload : OwnerKeeps P chamberUnload := by
  intro p s a t h ho
  obtain ⟨n, c, hn, ho⟩ := onChamber_ok ho
  split at ho
  · cases ho
  · rename_i hst
    have he : c.state ≠ .empty := fun he => hst (by simp [he])
    cases ho
    refine K.unload h (State.chamber?_of_getD hn he) he ?_
    split <;> decide

theorem kilnPortSet : OwnerKeeps P kilnPortSet := by
  intro p s a t h ho
  unfold Machine.kilnPortSet at ho
  split at ho
  · cases ho
  · simp only at ho
    split at ho
    · cases ho
    · cases ho
      exact K.congr (s := s) rfl h

end KeptByChanges
end Operations
end Sys2Proof.Machine
end

section
/-! The requests and events that leave those records alone, and what the outfeed, the packs and the labels
do to them. -/

namespace Sys2Proof.Machine

/-! ## Requests that leave the records alone -/

/-- Whatever the owner of a request answers OK, no charge, schedule, chamber, transit or pack record is
another one. -/
def Quiet (owner : List Byte → State → Reply) : Prop :=
  ∀ p s a t, owner p s = .ok a t → s.records = t.records

theorem quiet_partIdent : Quiet partIdent := by
  intro p s a t h; grind [partIdent]

theorem quiet_chargeRead : Quiet chargeRead := by
  intro p s a t h; grind [chargeRead, onCharge]

theorem quiet_chargeList : Quiet chargeList := by
  intro p s a t h; grind [chargeList]

theorem quiet_speciesRead : Quiet speciesRead := by
  intro p s a t h; grind [speciesRead]

theorem quiet_mcTest : Quiet mcTest := by
  intro p s a t h; grind [mcTest]

theorem quiet_schedRead : Quiet schedRead := by
  intro p s a t h; grind [schedRead, onSchedule]

theorem quiet_chamberRead : Quiet chamberRead := by
  intro p s a t h; grind [chamberRead, onChamber]

theorem quiet_kilnPortRead : Quiet kilnPortRead := by
  intro p s a t h; grind [kilnPortRead]

theorem quiet_transitRead : Quiet transitRead := by
  intro p s a t h; grind [transitRead]

theorem quiet_planRead : Quiet planRead := by
  intro p s a t h; grind [planRead]

theorem quiet_packRead : Quiet packRead := by
  intro p s a t h; grind [packRead, onPack]

theorem quiet_packList : Quiet packList := by
  intro p s a t h; grind [packList]

theorem quiet_templateRead : Quiet templateRead := by
  intro p s a t h; grind [templateRead]

theorem quiet_labelRead : Quiet labelRead := by
  intro p s a t h; grind [labelRead]

theorem quiet_attnRead : Quiet attnRead := by
  intro p s a t h; grind [attnRead]

theorem quiet_speciesSet : Quiet speciesSet := by
  intro p s a t h; grind [speciesSet, State.records]

theorem quiet_kilnPortSet : Quiet kilnPortSet := by
  intro p s a t h; grind [kilnPortSet, State.records]

theorem quiet_packNumberSet : Quiet packNumberSet := by
  intro p s a t h; grind [packNumberSet, State.records]

theorem quiet_labelPortSet : Quiet labelPortSet := by
  intro p s a t h; grind [labelPortSet, State.records]

theorem quiet_labelPortClear : Quiet labelPortClear := by
  intro p s a t h; grind [labelPortClear, State.records]

theorem quiet_attnAck : Quiet attnAck := by
  intro p s a t h; grind [attnAck, State.records]

theorem quiet_attnMask : Quiet attnMask := by
  intro p s a t h; grind [attnMask, State.records]

theorem quiet_planLoad : Quiet planLoad := by
  intro p s a t h
  unfold planLoad at h
  split at h
  · cases h
  · split at h
    · grind [planHeader, State.records, State.setPlanSlot]
    · split at h
      · grind [planRules, State.records, State.setPlanSlot]
      · cases h

theorem quiet_templateLoad : Quiet templateLoad := by
  intro p s a t h
  unfold templateLoad at h
  split at h
  · cases h
  · split at h
    · grind [templateHeader, State.records]
    · split at h
      · grind [templatePlacement, State.records]
      · cases h

/-! ## The events of an entry -/

theorem State.mem_of_entry? {s : State} {q : Nat} {e : Entry} (h : s.entry? q = some e) :
    e ∈ s.tracker.queue ∧ e.sequence = q :=
  ⟨List.mem_of_find?_eq_some h, by simpa using List.find?_some h⟩

/-- What an entry that has an event due waits on (R95). -/
theorem State.dueEvent_some {s : State} {q : Nat} {due : Due} {e : Entry} (h : s.dueEvent q = some due)
    (he : s.entry? q = some e) : (s.targetOf e).1 = due := by
  simp only [State.dueEvent, he] at h
  split at h
  · cases h; rfl
  · cases h

theorem State.drainCheck_tracker (s : State) (n : Nat) : (s.drainCheck n).tracker = s.tracker := by
  simp only [State.drainCheck]
  split <;> rfl

/-- A decision written leaves the entries of other sequences. -/
theorem State.mem_setDecision {s : State} {x : Entry} {q : Nat} (d : Decision) (hx : x ∈ s.tracker.queue)
    (hq : x.sequence ≠ q) : x ∈ (s.setDecision q d).tracker.queue :=
  List.mem_map.mpr ⟨x, hx, if_neg hq⟩

theorem State.mem_decideNoData {s : State} {x e : Entry} (hx : x ∈ s.tracker.queue)
    (hq : x.sequence ≠ e.sequence) : x ∈ (s.decideNoData e).tracker.queue :=
  State.mem_setDecision _ hx hq

theorem State.mem_closeEntry {s : State} {x : Entry} {q : Nat} (d : Decision) (hx : x ∈ s.tracker.queue)
    (hq : x.sequence ≠ q) : x ∈ (s.closeEntry q d).tracker.queue := by
  have key : ∀ u : State, u.tracker = s.tracker →
      x ∈ ((u.modifyChargeOf d.chargeSlot (fun c => { c with transitRef := c.transitRef - 1 })).removeEntry q).tracker.queue := by
    intro u hu
    simp only [State.removeEntry, State.modifyChargeOf_tracker, hu]
    exact List.mem_filter.mpr ⟨hx, by simpa using hq⟩
  simp only [State.closeEntry, State.drainCheck_tracker]
  split
  · exact key _ (by simp)
  · exact key _ rfl

/-- The event of one entry leaves the others in the queue as they are (R97). -/
theorem State.mem_takeDue {s : State} {x : Entry} {q : Nat} (hx : x ∈ s.tracker.queue) (hq : x.sequence ≠ q) :
    x ∈ (s.takeDue q).tracker.queue := by
  unfold State.takeDue
  split
  · rename_i due e _ he
    obtain ⟨-, rfl⟩ := State.mem_of_entry? he
    split
    · exact State.mem_decideNoData hx hq
    · exact State.mem_setDecision _ hx hq
    · exact State.mem_closeEntry _ hx hq
    · exact hx
  · exact hx

theorem State.mem_takeReached {s : State} {x : Entry} {k q : Nat} (hx : x ∈ s.tracker.queue)
    (hq : x.sequence ≠ q) : x ∈ (s.takeReached k q).tracker.queue := by
  induction k generalizing s with
  | zero => exact hx
  | succ k ih =>
    unfold State.takeReached
    split
    · exact ih (State.mem_takeDue hx hq)
    · exact hx

@[simp] theorem State.countDecision_tracker (s : State) (n : Nat) : (s.countDecision n).tracker = s.tracker := rfl

@[simp] theorem State.countDecision_charges (s : State) (n : Nat) : (s.countDecision n).charges = s.charges := rfl

@[simp] theorem State.measureBoard_tracker (s : State) (m : BoardMessage) (i : Nat) (c : Charge) :
    (s.measureBoard m i c).1.tracker = s.tracker := by
  simp only [State.measureBoard]
  split <;> simp

theorem State.charge?_enterQuarantine (s : State) (i n j : Nat) :
    (s.enterQuarantine i n).charge? j =
      if i = j then (s.charge? j).map (fun c => { c with quarantined := true }) else s.charge? j := by
  rw [← State.charge?_modifyCharge]
  simp only [State.charge?, State.enterQuarantine, State.withdrawPacks_charges, State.raise_charges]

/-- The measured charge stays live. -/
theorem State.charge?_measureBoard {s : State} {m : BoardMessage} {i : Nat} {c : Charge}
    (h : s.charge? i = some c) : ((s.measureBoard m i c).1.charge? i).isSome = true := by
  simp only [State.measureBoard]
  split
  · simp [State.charge?_enterQuarantine, State.charge?_modifyCharge, h]
  · simp [State.charge?_modifyCharge, h]

/-! ## The queue replaced -/

theorem State.withQueue_modifyChargeOf (s : State) (k l : List Entry) (i : Option Nat) (f : Charge → Charge) :
    ((s.withQueue k).modifyChargeOf i f).withQueue l = (s.modifyChargeOf i f).withQueue l := by
  cases i <;> rfl

theorem State.withQueue_closePack (s : State) (l : List Entry) (i : Nat) :
    (s.withQueue l).closePack i = (s.closePack i).withQueue l := by
  simp only [State.closePack, show (s.withQueue l).pack? i = s.pack? i from rfl]
  split
  · rfl
  · split
    · rfl
    · split <;> rfl

theorem State.withQueue_unbindPack (s : State) (l : List Entry) (i : Nat) :
    (s.withQueue l).unbindPack i = (s.unbindPack i).withQueue l := by
  simp only [State.unbindPack, show (s.withQueue l).pack? i = s.pack? i from rfl]
  split
  · rfl
  · split
    · split
      · exact State.withQueue_closePack (s.modifyPack i _) l i
      · split <;> rfl
    · rfl

/-- Where sequences differ, the oldest entry taken away leaves the rest. -/
theorem State.filter_head {s : State} {e : Entry} {l : List Entry} (h : (s.withQueue (e :: l)).DistinctEdges) :
    (e :: l).filter (fun x => x.sequence ≠ e.sequence) = l := by
  simp only [State.DistinctEdges, State.withQueue, List.map_cons, List.nodup_cons] at h
  rw [List.filter_cons_of_neg (by simp), List.filter_eq_self]
  intro x hx
  simpa using fun he : x.sequence = e.sequence => h.1 (he ▸ List.mem_map_of_mem hx)

section Operations
variable {P : State → Prop} (K : KeptByChanges P) {s : State}

namespace KeptByChanges
include K

theorem setPlanSlot {n : Nat} {p : PlanSlot} (h : P s) : P (s.setPlanSlot n p) := K.congr (s := s) rfl h

theorem drainCheck {n : Nat} (h : P s) : P (s.drainCheck n) := by
  unfold State.drainCheck
  simp only
  split
  · exact K.raise (K.setPlanSlot h)
  · exact K.setPlanSlot h

theorem decideNoData {e : Entry} (h : P s) (hw : ForcesDistinctEdges P → s.Waits e) : P (s.decideNoData e) :=
  K.raise (K.setPlanSlot (K.decide (d := { chargeSlot := none, .. }) h hw (by simp)))

theorem openEntry {e : Entry} {d : Decision} (h : P s) (he : s.entry? e.sequence = some e)
    (hd : e.decision = some d) : P (s.openEntry e.sequence d) :=
  K.congr (s := s.setDecision e.sequence _) rfl (K.redecide h he hd rfl)

theorem closeEntry {e : Entry} {d : Decision} (h : P s) (he : s.entry? e.sequence = some e)
    (hd : e.decision = some d) : P (s.closeEntry e.sequence d) := by
  have key : ∀ u : State, u.tracker = s.tracker → P u →
      P (((u.modifyChargeOf d.chargeSlot (fun c => { c with transitRef := c.transitRef - 1 })).removeEntry
        e.sequence).drainCheck d.planSlot) := by
    intro u hu hP
    have hleave := K.leave (e := e) (l := (u.modifyChargeOf d.chargeSlot
        (fun c => { c with transitRef := c.transitRef - 1 })).tracker.queue.filter (fun x => x.sequence ≠ e.sequence))
      hP (by rw [State.entry?, hu]; exact he) fun _ => by rw [State.modifyChargeOf_tracker]
    rw [hd, Option.bind_some] at hleave
    exact K.drainCheck hleave
  have hgate : P (s.modifyGate d.bin (· - 1)) := K.congr (s := s) rfl h
  unfold State.closeEntry
  simp only
  split
  · exact key _ (by simp) (K.deliver hgate (State.mem_of_entry? he).1 hd)
  · exact key _ rfl hgate

/-- The event that an entry is due (R101, R106). -/
theorem takeDue {q : Nat} (h : P s) : P (s.takeDue q) := by
  unfold State.takeDue
  split
  · rename_i due e hdue he
    have hw := State.dueEvent_some hdue he
    obtain ⟨hmem, rfl⟩ := State.mem_of_entry? he
    split
    · refine K.decideNoData h fun _ => ⟨hmem, ?_⟩
      cases hd : e.decision with
      | none => rfl
      | some d => simp only [State.targetOf, hd] at hw; split at hw <;> cases hw
    · exact K.openEntry h he ‹_›
    · exact K.closeEntry h he ‹_›
    · exact h
  · exact h

theorem takeReached {k q : Nat} (h : P s) : P (s.takeReached k q) := by
  induction k generalizing s with
  | zero => exact h
  | succ k ih =>
    unfold State.takeReached
    split
    · exact ih (K.takeDue h)
    · exact h

theorem chainEvent {due : Due} {q : Nat} (h : P s) : P (s.chainEvent due q) := by
  unfold State.chainEvent
  split
  · exact K.takeReached h
  · exact h

theorem settleChain (h : P s) : P s.settleChain :=
  List.foldlRecOn (motive := P) _ _ h fun _ ht _ _ => K.takeReached ht

theorem expiry (h : P s) : P (match s.oldestAwaiting with
    | some e => s.chainEvent .expiry e.sequence
    | none => s) := by
  split
  · exact K.chainEvent h
  · exact h

/-! ## Edges -/

/-- Records of the tracker that count or hold characters (R93). -/
theorem trackerOf {k : Tracker} (h : P s) (hq : k.queue = s.tracker.queue := by rfl)
    (hp : k.position = s.tracker.position := by rfl) (he : k.edgeSequence = s.tracker.edgeSequence := by rfl) :
    P { s with tracker := k } := K.tracker h hq (.inl hp) (.inl he)

theorem takeEdge (h : P s) : P s.takeEdge := by
  have hs : P { s with tracker := { s.tracker with edgeSequence := (s.tracker.edgeSequence + 1) % 256 } } :=
    K.tracker h rfl (.inl rfl) (.inr (Nat.mod_lt _ (by decide)))
  unfold State.takeEdge
  simp only
  split
  · exact K.raise (K.trackerOf hs)
  · rename_i hl
    split
    · exact K.raise (K.trackerOf hs)
    · rename_i hq
      refine K.takeReached (K.enter hs (Nat.lt_of_not_le hl) (Nat.mod_lt _ (by decide)) fun e he hne => hq ?_)
      exact List.any_eq_true.mpr ⟨e, he, by simpa using hne⟩

theorem encPulse (h : P s) : P { s.settleChain with tracker := { s.settleChain.tracker with
    position := (s.settleChain.tracker.position + 1) % Config.chainModulus } } :=
  K.tracker (K.settleChain h) rfl (.inr (Nat.mod_lt _ (by decide))) (.inl rfl)

/-! ## The board-arrival operation -/

theorem arriveUnknown {e : Entry} {m : BoardMessage} (h : P s) (hw : ForcesDistinctEdges P → s.Waits e) :
    P (s.arriveUnknown e m) :=
  K.decide (s := (s.countDecision _).raiseTransit _ _) (d := { chargeSlot := none, .. })
    (K.raise (K.setPlanSlot h)) hw (by simp)

/-- Stages 2 and 3: the statistics update and the quarantine test (R34, R36). -/
theorem measureBoard {m : BoardMessage} {i : Nat} {c : Charge} (h : P s) (hc : s.charge? i = some c)
    (ht : c.takesBoards = true) : P (s.measureBoard m i c).1 := by
  have hb : P (s.modifyCharge i fun _ =>
      let r := computeReading (s.speciesEntry c.species).meter m.raw (meterTemp m.temp)
      c.addBoard r.mc (classify c.dry c.wet r.mc)) := K.board h hc ht fun _ => computeReading_mc_le
  unfold State.measureBoard
  dsimp only at hb ⊢
  split
  · dsimp only
    exact K.enterQuarantine hb
  · exact hb

theorem arriveFound {e : Entry} {m : BoardMessage} {i : Nat} {c : Charge} (h : P s)
    (hw : ForcesDistinctEdges P → s.Waits e) (hc : s.charge? i = some c) (ht : c.takesBoards = true) :
    P (s.arriveFound e m i c) := by
  unfold State.arriveFound
  simp only
  refine K.decide (d := { chargeSlot := some i, .. }) (K.stageFive (K.setPlanSlot (K.measureBoard h hc ht)))
    (fun hf => ?_) (fun j hj => ?_)
  · simpa [State.Waits] using hw hf
  · cases hj
    simpa [State.charge?] using State.charge?_measureBoard hc

theorem arrive {e : Entry} {m : BoardMessage} (h : P s) (hw : ForcesDistinctEdges P → s.Waits e) :
    P (s.arrive e m) := by
  unfold State.arrive
  refine K.takeReached ?_
  split
  · exact K.arriveUnknown h hw
  · rename_i i c hc
    obtain ⟨-, hi, hq, -⟩ := findLive_some hc
    rw [Nat.sub_zero] at hi
    exact K.arriveFound h hw (by rw [State.charge?, hi]; rfl) (by simp only [Bool.and_eq_true] at hq; exact hq.2)

/-! ## Pairing -/

theorem orphan {q : Nat} (h : P s) : P (s.orphan q) := K.raise (K.trackerOf h)

/-- Skipped entries that wait, of different sequences, are decided one after the other (R99). -/
theorem skipEntries {l : List Entry} (h : P s)
    (hw : ForcesDistinctEdges P → (l.map (·.sequence)).Nodup ∧ ∀ e ∈ l, s.Waits e) : P (s.skipEntries l) := by
  unfold State.skipEntries
  induction l generalizing s with
  | nil => exact h
  | cons e l ih =>
    refine ih (K.takeReached (K.decideNoData h fun hf => (hw hf).2 e (by simp))) fun hf => ?_
    obtain ⟨hn, hwait⟩ := hw hf
    rw [List.map_cons, List.nodup_cons] at hn
    refine ⟨hn.2, fun x hx => ⟨?_, (hwait x (by simp [hx])).2⟩⟩
    have hne : x.sequence ≠ e.sequence := fun he => hn.1 (he ▸ List.mem_map_of_mem hx)
    exact State.mem_takeReached (State.mem_decideNoData (hwait x (by simp [hx])).1 hne) hne

theorem pair {m : BoardMessage} (h : P s) : P (s.pair m) := by
  have awaits {u : State} {q : Entry → Bool} {e : Entry} (he : u.tracker.queue.find? q = some e)
      (hq : q e = true → e.awaiting = true) : u.Waits e :=
    ⟨List.mem_of_find?_eq_some he, by simpa [Entry.awaiting] using hq (List.find?_some he)⟩
  unfold State.pair
  split
  · exact K.orphan h
  · rename_i e he
    dsimp only
    split
    · exact K.arrive h fun _ => awaits he id
    · split
      · have hskip := K.skipEntries (l := s.skipped e.sequence ((m.sequence + 256 - e.sequence) % 256)) h fun hf => by
          refine ⟨(hf s h).sublist (List.filter_sublist.map _), fun x hx => ?_⟩
          obtain ⟨hx, hq⟩ := List.mem_filter.mp hx
          rw [Bool.and_eq_true] at hq
          exact ⟨hx, by simpa [Entry.awaiting] using hq.1⟩
        unfold State.pairOrOrphan
        split
        · rename_i e' he'
          exact K.arrive hskip fun _ => awaits he' fun hq => by rw [Bool.and_eq_true] at hq; exact hq.1
        · exact K.orphan hskip
      · exact K.orphan h

/-! ## Characters -/

theorem setReceiver {r : Option (List RxChar)} (h : P s) : P (s.setReceiver r) := K.trackerOf h

theorem discardMessage (h : P s) : P s.discardMessage := K.trackerOf h

theorem boardChar {c : RxChar} (h : P s) : P (s.boardChar c) := by
  unfold State.boardChar
  split
  · split
    · exact K.setReceiver h
    · exact h
  · split
    · exact K.setReceiver (K.discardMessage h)
    · split
      · exact K.setReceiver h
      · unfold State.finishMessage
        split
        · exact K.discardMessage (K.setReceiver h)
        · split
          · exact K.pair (K.setReceiver h)
          · exact K.discardMessage (K.setReceiver h)

theorem boardChars {l : List RxChar} (h : P s) : P (l.foldl State.boardChar s) :=
  List.foldlRecOn (motive := P) _ _ h fun _ ht _ _ => K.boardChar ht

/-! ## The outfeed's requests -/

theorem dimensionSet : OwnerKeeps P dimensionSet := by
  intro p s a t h ho
  unfold Machine.dimensionSet at ho
  split at ho
  · cases ho
  · split at ho
    · cases ho
    · split at ho
      · cases ho
      · cases ho
        exact K.trackerOf h

theorem lineSet : OwnerKeeps P lineSet := by
  intro p s a t h ho
  unfold Machine.lineSet at ho
  split at ho
  · cases ho
  · split at ho
    · cases ho
    · split at ho
      · cases ho
      · cases ho
        exact K.trackerOf h

theorem unbindEntry {e : Entry} {l : List Entry} (h : P (s.withQueue (e :: l))) :
    P ((s.unbindEntry e).withQueue l) := by
  have key : ∀ u : State, P (u.withQueue (e :: l)) →
      P ((u.modifyChargeOf (e.decision.bind (·.chargeSlot))
        (fun c => { c with transitRef := c.transitRef - 1 })).withQueue l) := by
    intro u hu
    have hleave := K.leave (e := e) (l := l) hu (by simp [State.entry?, State.withQueue])
      fun hf => (State.filter_head (hf _ hu)).symm
    rwa [State.withQueue_modifyChargeOf] at hleave
  unfold State.unbindEntry
  split
  · rename_i hd
    simpa [hd] using key s h
  · rename_i d hd
    rw [hd] at key
    dsimp only
    split
    · exact key _ (State.withQueue_unbindPack s _ _ ▸ K.unbindPack h)
    · exact key _ h

/-- The entries of the queue are removed one after the other, the oldest first (R112, R149). -/
theorem unbindEntries {l : List Entry} (h : P (s.withQueue l)) :
    P ((l.foldl State.unbindEntry s).withQueue []) := by
  induction l generalizing s with
  | nil => exact h
  | cons e l ih => exact ih (K.unbindEntry h)

theorem lineRestart : OwnerKeeps P lineRestart := by
  intro p s a t h ho
  unfold Machine.lineRestart at ho
  split at ho
  · cases ho
  · cases ho
    have hu := K.unbindEntries (l := s.tracker.queue) h
    have ht := K.tracker hu (k := { (s.tracker.queue.foldl State.unbindEntry s).tracker with
      queue := [], edgeSequence := 0, receiver := none }) rfl (.inl rfl) (.inr (Nat.zero_lt_succ 255))
    exact K.congr (by rfl) ht

/-! ## Plans, packs and labels -/

theorem closeForPlan {acc : State × Nat} {bin : Nat} (h : P acc.1) : P (closeForPlan acc bin).1 := by
  unfold Machine.closeForPlan
  split
  · exact h
  · exact K.closeRequest h

theorem planSwitch : OwnerKeeps P planSwitch := by
  intro p s a t h ho
  unfold Machine.planSwitch at ho
  split at ho
  · cases ho
  · split at ho
    · cases ho
    · dsimp only at ho
      split at ho
      · cases ho
      · cases ho
      · cases ho
        exact List.foldlRecOn (motive := fun acc : State × Nat => P acc.1) _ _ (K.setPlanSlot (K.setPlanSlot h))
          fun _ ht _ _ => K.closeForPlan ht

theorem packClose : OwnerKeeps P packClose := by
  intro p s a t h ho
  obtain ⟨i, k, hk, ho⟩ := onPack_ok ho
  split at ho
  · cases ho
  · cases ho
    exact K.closeRequest h

theorem packRelease : OwnerKeeps P packRelease := by
  intro p s a t h ho
  obtain ⟨i, k, hk, ho⟩ := onPack_ok ho
  split at ho
  · cases ho
  · cases ho
    exact K.queueTail h

theorem packReject : OwnerKeeps P packReject := by
  intro p s a t h ho
  obtain ⟨i, k, hk, ho⟩ := onPack_ok ho
  split at ho
  · cases ho
  · cases ho
    exact K.relabel h fun _ => ⟨rfl, rfl⟩

theorem packRetire : OwnerKeeps P packRetire := by
  intro p s a t h ho
  obtain ⟨i, k, hk, ho⟩ := onPack_ok ho
  split at ho
  · cases ho
  · cases ho
    exact K.retirePack h hk

theorem labelReprint : OwnerKeeps P labelReprint := by
  intro p s a t h ho
  obtain ⟨i, k, hk, ho⟩ := onPack_ok ho
  split at ho
  · cases ho
  · cases ho
    exact K.queueTail h

theorem composition (h : P s) : P s.composition := by
  unfold State.composition
  split
  · split
    · exact K.congr (s := s.modifyPack _ _) rfl (K.relabel h fun _ => ⟨rfl, rfl⟩)
    · exact h
  · exact h

theorem startFrame {f : Nat} {rest : List Nat} (h : P s) : P (
    let fr := s.labels.frame f
    let s := match fr.pack with
      | some slot => s.modifyPack slot (fun p => { p with state := .printing })
      | none => s
    let l := s.labels.setFrame f { fr with state := .printing }
    { s with labels := { l with ready := rest, port := .printing, cursor := 0, bitCount := 0,
                                passTimeout := some l.timeout } }) := by
  dsimp only
  split
  · exact K.congr (s := s.modifyPack _ _) rfl (K.relabel h fun _ => ⟨rfl, rfl⟩)
  · exact K.congr (s := s) rfl h

theorem startPass (h : P s) : P s.startPass := by
  unfold State.startPass
  split
  · exact K.startFrame h
  · exact K.startFrame h
  · exact h

theorem clockRows {n : Nat} (h : P s) : P (s.clockRows n) := K.congr (s := s) rfl h

theorem endPass (h : P s) : P s.endPass := by
  unfold State.endPass
  split
  · dsimp only
    split
    · exact K.relabel (K.congr (s := s) rfl h) fun _ => ⟨rfl, rfl⟩
    · exact K.congr (s := s) rfl h
  · exact h

theorem expirePass (h : P s) : P s.expirePass := by
  have hl (l : Labels) : P { s with labels := l } := K.congr (s := s) rfl h
  unfold State.expirePass
  split
  · dsimp only
    split
    · split
      · exact K.raise (K.queueHead (hl _))
      · exact hl _
    · exact hl _
  · exact h

/-! ## Transfers -/

theorem answered {l : List Byte} {n : Nat} {a : Answer} (h : P s) : P (s.answered l n a) := K.congr (s := s) rfl h

theorem skipTransfer {n : Nat} (h : P s) : P (s.skipTransfer n) := by
  unfold State.skipTransfer
  split <;> exact K.congr (s := s) rfl h

/-- A request keeps what its owner keeps (R176, R179). -/
theorem request {code d : Byte} {owner : List Byte → State → Reply} {bs : List Byte} (h : P s)
    (ho : OwnerKeeps P owner) : P (s.request code owner d bs) := by
  unfold State.request
  split
  · exact K.skipTransfer h
  · split
    · exact K.answered h
    · split
      · exact K.answered h
      · dsimp only
        unfold State.conclude
        split
        · rename_i a t ht
          exact K.answered (K.congr (s := t) rfl (ho _ _ _ _ h ht))
        · exact K.answered h

theorem quiet {owner : List Byte → State → Reply} (hq : Quiet owner) : OwnerKeeps P owner :=
  fun p s a t h ho => K.congr (hq p s a t ho) h

end KeptByChanges
end Operations
end Sys2Proof.Machine
end

section
/-! A property that the changes of Machine keep is kept by every step. -/

namespace Sys2Proof.Machine

theorem Outcome.next_inj {a t : State} (h : (Host.Outcome.next a : Host.Outcome State Fault Refusal) = .next t) :
    a = t := by cases h; rfl

section Operations
variable {P : State → Prop} (K : KeptByChanges P) {s t : State}

namespace KeptByChanges
include K

/-- A chamber or kiln-port request, taken after what is due (assumption 2). -/
theorem settledRequest {code d : Byte} {owner : List Byte → State → Reply} {bs : List Byte} (h : P s)
    (ho : OwnerKeeps P owner) : P (s.settle.request code owner d bs) := K.request (K.settle h) ho

/-- What a command leaves, command by command. -/
theorem exec {c : Instr} (h : P s) (hx : exec c s = .next t) : P t := by
  cases c <;> simp only [Machine.exec] at hx <;> cases Outcome.next_inj hx
  case powerOn => exact K.congr (by rfl) K.reset
  case resetNAssert => exact K.congr (by rfl) K.reset
  case resetNRelease selLow =>
    split
    · exact K.congr (s := s) rfl h
    · exact h
  case readAnswer mosi =>
    split
    · exact K.skipTransfer h
    · exact K.congr (s := s) rfl h
  case brokenRequestTransfer received =>
    split
    · exact K.skipTransfer h
    · exact K.answered h
  case emptyTransfer =>
    split
    · exact K.skipTransfer h
    · exact K.congr (s := s) rfl h
  case unknownRequest code d bs =>
    split
    · exact K.answered h
    · exact K.request h fun _ _ _ _ _ ho => nomatch ho
  case partIdent => exact K.request h (K.quiet quiet_partIdent)
  case chargeCreate => exact K.request h K.chargeCreate
  case chargeRead => exact K.request h (K.quiet quiet_chargeRead)
  case chargeList => exact K.request h (K.quiet quiet_chargeList)
  case chargeLimits => exact K.request h K.chargeLimits
  case chargeRelease => exact K.request h K.chargeRelease
  case chargeFeedEnd => exact K.request h K.chargeFeedEnd
  case chargeRetire => exact K.request h K.chargeRetire
  case speciesSet => exact K.request h (K.quiet quiet_speciesSet)
  case speciesRead => exact K.request h (K.quiet quiet_speciesRead)
  case mcTest => exact K.request h (K.quiet quiet_mcTest)
  case schedDefine => exact K.request h K.schedDefine
  case schedAmend => exact K.request h K.schedAmend
  case schedRead => exact K.request h (K.quiet quiet_schedRead)
  case schedDelete => exact K.request h K.schedDelete
  case chamberLoad => exact K.settledRequest h K.chamberLoad
  case chamberStart => exact K.settledRequest h K.chamberStart
  case chamberHold => exact K.settledRequest h K.chamberHold
  case chamberResume => exact K.settledRequest h K.chamberResume
  case chamberSkip => exact K.settledRequest h K.chamberSkip
  case chamberReload => exact K.settledRequest h K.chamberReload
  case chamberAbort => exact K.settledRequest h K.chamberAbort
  case chamberUnload => exact K.settledRequest h K.chamberUnload
  case chamberRead => exact K.settledRequest h (K.quiet quiet_chamberRead)
  case kilnPortSet => exact K.settledRequest h (K.quiet quiet_kilnPortSet)
  case kilnPortRead => exact K.settledRequest h (K.quiet quiet_kilnPortRead)
  case lineSet => exact K.request h K.lineSet
  case dimensionSet => exact K.request h K.dimensionSet
  case transitRead => exact K.request h (K.quiet quiet_transitRead)
  case lineRestart => exact K.request h K.lineRestart
  case planLoadHeader => exact K.request h (K.quiet quiet_planLoad)
  case planLoadRules => exact K.request h (K.quiet quiet_planLoad)
  case planSwitch => exact K.request h K.planSwitch
  case planRead => exact K.request h (K.quiet quiet_planRead)
  case packRead => exact K.request h (K.quiet quiet_packRead)
  case packList => exact K.request h (K.quiet quiet_packList)
  case packClose => exact K.request h K.packClose
  case packRelease => exact K.request h K.packRelease
  case packReject => exact K.request h K.packReject
  case packRetire => exact K.request h K.packRetire
  case packNumberSet => exact K.request h (K.quiet quiet_packNumberSet)
  case templateLoadHeader => exact K.request h (K.quiet quiet_templateLoad)
  case templateLoadPlacement => exact K.request h (K.quiet quiet_templateLoad)
  case templateRead => exact K.request h (K.quiet quiet_templateRead)
  case labelReprint => exact K.request h K.labelReprint
  case labelRead => exact K.request h (K.quiet quiet_labelRead)
  case labelPortSet => exact K.request h (K.quiet quiet_labelPortSet)
  case labelPortClear => exact K.request h (K.quiet quiet_labelPortClear)
  case attnRead => exact K.request h (K.quiet quiet_attnRead)
  case attnAck => exact K.request h (K.quiet quiet_attnAck)
  case attnMask => exact K.request h (K.quiet quiet_attnMask)
  case minuteTick => exact fieldEvent h fun h => K.minuteTick (K.settle h)
  case workingLimitReached => exact fieldEvent h K.limitAction
  case roundTimerExpiry => exact fieldEvent h fun h => K.timerExpiry (K.settle h)
  case deferredRoundStart => exact fieldEvent h K.startDeferred
  case transaction => exact fieldEvent h fun h => K.beginTransaction (K.settle h)
  case setpointSent => exact fieldEvent h K.openWindow
  case scanReply => exact fieldEvent h fun h => K.receiveReply (K.settle h)
  case replyWindowClose => exact fieldEvent h fun h => K.closeWindow (K.settle h)
  case encPulse => exact fieldEvent h K.encPulse
  case edge => exact fieldEvent h K.takeEdge
  case expiry => exact fieldEvent h K.expiry
  case boardMessage => exact fieldEvent h K.boardChars
  case openEvent => exact fieldEvent h K.chainEvent
  case closeEvent => exact fieldEvent h K.chainEvent
  case composition => exact fieldEvent h K.composition
  case lblStart => exact fieldEvent h K.startPass
  case rowRead => exact fieldEvent h K.clockRows
  case lblEnd => exact fieldEvent h K.endPass
  case passTimeoutExpiry => exact fieldEvent h K.expirePass
  case startCharacter => exact fieldEvent h K.boardChar

/-- Every step keeps a property that the changes to the records keep. -/
theorem step (h : P s) (hx : step s = .next t) : P t := by
  unfold Machine.step at hx
  split at hx
  · cases hx
    exact h
  · exact K.exec (K.congr (by rfl) h) hx

end KeptByChanges
end Operations
end Sys2Proof.Machine
end

section
/-! The charge counts are kept by every step (O55), and the last scans of the chambers. -/

namespace Sys2Proof.Machine

/-! ## Charges that count the same boards -/

theorem Charge.SameCounts.refl (c : Charge) : c.SameCounts c := {}

theorem Charge.SameCounts.trans {a b c : Charge} (h : a.SameCounts b) (h' : b.SameCounts c) : a.SameCounts c where
  number := h'.number.trans h.number
  kiln := h'.kiln.trans h.kiln
  chamber := h'.chamber.trans h.chamber
  seen := h'.seen.trans h.seen
  measured := h'.measured.trans h.measured
  unmeasured := h'.unmeasured.trans h.unmeasured
  wetCount := h'.wetCount.trans h.wetCount
  overdry := h'.overdry.trans h.overdry
  mcSum := h'.mcSum.trans h.mcSum
  winMeasured := h'.winMeasured.trans h.winMeasured
  winWet := h'.winWet.trans h.winWet

/-- The same slots of the Charge Table are live in both states, and their counts are the same. -/
def State.ChargesAlike (s t : State) : Prop :=
  t.charges.length = s.charges.length ∧ ∀ i, Option.Rel Charge.SameCounts (s.charge? i) (t.charge? i)

theorem optionRel_refl {α : Type} {R : α → α → Prop} (hR : ∀ a, R a a) : ∀ o : Option α, Option.Rel R o o
  | none => .none
  | some a => .some (hR a)

theorem optionRel_map {α : Type} {R : α → α → Prop} {f : α → α} :
    ∀ o : Option α, (∀ a, o = some a → R a (f a)) → Option.Rel R o (o.map f)
  | none, _ => .none
  | some a, h => .some (h a rfl)

theorem State.ChargesAlike.of_eq {s t : State} (h : t.charges = s.charges) : s.ChargesAlike t := by
  refine ⟨by rw [h], fun i => ?_⟩
  rw [State.charge?, State.charge?, h]
  exact optionRel_refl Charge.SameCounts.refl _

theorem State.ChargesAlike.trans {s t u : State} (h : s.ChargesAlike t) (h' : t.ChargesAlike u) : s.ChargesAlike u := by
  refine ⟨h'.1.trans h.1, fun i => ?_⟩
  have h1 := h.2 i
  have h2 := h'.2 i
  revert h1 h2
  generalize s.charge? i = a, t.charge? i = b, u.charge? i = c
  rintro (h1 | _) (h2 | _)
  · exact .some (h1.trans h2)
  · exact .none

theorem State.chargesAlike_modifyCharge {s : State} {i : Nat} {f : Charge → Charge}
    (h : ∀ c, s.charge? i = some c → c.SameCounts (f c)) : s.ChargesAlike (s.modifyCharge i f) := by
  refine ⟨by simp [State.modifyCharge], fun j => ?_⟩
  rw [State.charge?_modifyCharge]
  split
  · subst_vars
    exact optionRel_map _ h
  · exact optionRel_refl Charge.SameCounts.refl _

theorem State.chargesAlike_modifyChargeOf {s : State} {i : Option Nat} {f : Charge → Charge}
    (h : ∀ c : Charge, c.SameCounts (f c)) : s.ChargesAlike (s.modifyChargeOf i f) := by
  cases i with
  | none => exact .of_eq rfl
  | some i => exact State.chargesAlike_modifyCharge fun c _ => h c

theorem State.chargesAlike_lowerPackRefs (s : State) (l : List Nat) : s.ChargesAlike (s.lowerPackRefs l) := by
  unfold State.lowerPackRefs
  induction l generalizing s with
  | nil => exact .of_eq rfl
  | cons i l ih => exact (State.chargesAlike_modifyCharge fun _ _ => {}).trans (ih _)

@[simp] theorem State.modifyRefCount_charges (s : State) (n : Nat) (f : Nat → Nat) :
    (s.modifyRefCount n f).charges = s.charges := by
  unfold State.modifyRefCount; split <;> rfl

@[simp] theorem State.modifyRefCount_chambers (s : State) (n : Nat) (f : Nat → Nat) :
    (s.modifyRefCount n f).chambers = s.chambers := by
  unfold State.modifyRefCount; split <;> rfl

@[simp] theorem State.modifyChargeOf_chambers (s : State) (i : Option Nat) (f : Charge → Charge) :
    (s.modifyChargeOf i f).chambers = s.chambers := by
  cases i <;> rfl

@[simp] theorem State.modifyChargeOf_schedules (s : State) (i : Option Nat) (f : Charge → Charge) :
    (s.modifyChargeOf i f).schedules = s.schedules := by
  cases i <;> rfl

theorem State.lowerPackRefs_frame (s : State) (l : List Nat) :
    (s.lowerPackRefs l).schedules = s.schedules ∧ (s.lowerPackRefs l).chambers = s.chambers := by
  unfold State.lowerPackRefs
  induction l generalizing s with
  | nil => exact ⟨rfl, rfl⟩
  | cons i l ih => exact ih _

/-! ## Properties of charges, schedules and chambers alone -/

/-- A property of the charge, schedule and chamber records that is kept by the changes to them; what a
charge's references are does not matter to it. -/
structure KeptOffTheLine (P : State → Prop) : Prop where
  reset : P State.reset
  alike {s t : State} : s.ChargesAlike t → t.schedules = s.schedules → t.chambers = s.chambers → P s → P t
  create {s : State} {i number species d t w loaded qmin qp : Nat} : P s → s.charges[i]? = some none →
    s.NoCharge number → 1 ≤ number → number ≤ 65535 →
    P (s.withCharge i (.created number species d t w loaded qmin qp))
  retire {s : State} {i : Nat} {c : Charge} : P s → s.charge? i = some c → c.state ≠ .kiln →
    P { s with charges := s.charges.set i none }
  board {s : State} {i : Nat} {c : Charge} {mc : Option Nat} {cls : MClass} : P s → s.charge? i = some c →
    c.takesBoards = true → (∀ m, mc = some m → m ≤ 600) → P (s.modifyCharge i (fun _ => c.addBoard mc cls))
  define {s : State} {n rev : Nat} {steps : List Step} : P s → 1 ≤ n → n ≤ 32 →
    (∀ sc, s.schedule? n = some sc → sc.refCount = 0) → rev ≤ Config.max16 → steps.length ≤ 16 →
    (⟨rev, steps, 0⟩ : Schedule).StepsOk → P (s.setSchedule n (some ⟨rev, steps, 0⟩))
  amend {s : State} {n rev i : Nat} {sc : Schedule} {t : Step} : P s → s.schedule? n = some sc →
    rev ≤ Config.max16 → t.Ok → P (s.setSchedule n (some { sc with revision := rev, steps := sc.steps.set i t }))
  delete {s : State} {n : Nat} {sc : Schedule} : P s → s.schedule? n = some sc → sc.refCount = 0 →
    P (s.setSchedule n none)
  chambers {s : State} {l : List Chamber} : P s → List.Forall₂ (Chamber.Follows s) s.chambers l →
    P { s with chambers := l }
  load {s : State} {n i k : Nat} {ch : Charge} {sc : Schedule} : P s → 1 ≤ n → n ≤ 12 →
    ((s.chamber? n).getD .reset).state = .empty → s.charge? i = some ch → ch.state = .staged →
    s.schedule? k = some sc →
    P (((s.setChamber n { Chamber.reset with state := .loaded, chargeSlot := some i, schedule := some k }).modifyRefCount
      k (· + 1)).modifyCharge i (fun ch => { ch with state := .kiln, chamber := some n }))
  unload {s : State} {n : Nat} {c : Chamber} {next : ChargeState} : P s → s.chamber? n = some c →
    c.state ≠ .empty → next ≠ .kiln →
    P (((s.setChamber n .reset).modifyRefCount (c.schedule.getD 0) (· - 1)).modifyChargeOf c.chargeSlot
      (fun ch => { ch with state := next, chamber := none }))

theorem KeptOffTheLine.unchanged {P : State → Prop} (K : KeptOffTheLine P) {s t : State} (h : P s)
    (hc : t.charges = s.charges := by rfl) (hs : t.schedules = s.schedules := by rfl)
    (hch : t.chambers = s.chambers := by rfl) : P t := K.alike (.of_eq hc) hs hch h

theorem KeptOffTheLine.keptByChanges {P : State → Prop} (K : KeptOffTheLine P) : KeptByChanges P where
  reset := K.reset
  congr h := by
    simp only [State.records, Prod.mk.injEq] at h
    obtain ⟨hc, hs, hch, -, -⟩ := h
    exact K.alike (.of_eq hc.symm) hs.symm hch.symm
  create := K.create
  retire h hc hk _ _ := K.retire h hc hk
  adjust h hf := K.alike (State.chargesAlike_modifyCharge fun c hc => (hf c hc).toSameCounts) rfl rfl h
  board := K.board
  define := K.define
  amend := K.amend
  delete := K.delete
  chambers := K.chambers
  load := K.load
  unload := K.unload
  tracker h _ _ _ := K.unchanged h
  enter h _ _ _ := K.unchanged h
  decide h _ _ := K.alike (State.chargesAlike_modifyChargeOf fun _ => {}) (by simp) (by simp) h
  redecide h _ _ _ := K.unchanged h
  leave h _ _ := K.alike (State.chargesAlike_modifyChargeOf fun _ => {}) (by simp) (by simp) h
  relabel h _ := K.unchanged h
  allocate h _ _ := K.unchanged h
  discard h _ _ := K.unchanged h
  piece {s i p _ d q} h _ _ _ :=
    have hp : P (s.modifyPack i (fun p => p.addPiece s.tracker.dimensions d q)) := K.unchanged h
    K.alike (State.chargesAlike_modifyChargeOf fun _ => {}) (by simp) (by simp) hp
  retirePack {s i p} h _ :=
    have ⟨hs, hch⟩ := s.lowerPackRefs_frame p.charges
    K.alike (s.chargesAlike_lowerPackRefs p.charges) hs hch h

/-! ## The counts of the charges (R2, R35) -/

theorem State.mem_liveCharges {s : State} {c : Charge} : c ∈ s.liveCharges ↔ ∃ i, s.charge? i = some c := by
  simp only [State.liveCharges, List.mem_filterMap, id, exists_eq_right, State.charge?, Option.join_eq_some_iff]
  exact List.mem_iff_getElem?

/-- The live charges of a table have different numbers when those of two slots do. -/
theorem nodup_numbers_iff {α : Type} (f : α → Nat) (l : List (Option α)) :
    ((l.filterMap id).map f).Nodup ↔
      ∀ (i j : Nat) (a b : α), (l[i]?).join = some a → (l[j]?).join = some b → f a = f b → i = j := by
  rw [List.Nodup, List.pairwise_map, List.pairwise_filterMap, List.pairwise_iff_getElem]
  simp only [Option.join_eq_some_iff, List.getElem?_eq_some_iff, id]
  constructor
  · rintro h i j a b ⟨hi, ha⟩ ⟨hj, hb⟩ hab
    rcases Nat.lt_trichotomy i j with hij | hij | hij
    · exact absurd hab (h i j hi hj hij a ha b hb)
    · exact hij
    · exact absurd hab.symm (h j i hj hi hij b hb a ha)
  · intro h i j hi hj hij a ha b hb hab
    exact absurd (h i j a b ⟨hi, ha⟩ ⟨hj, hb⟩ hab) (Nat.ne_of_lt hij)

/-- The Charge Table slot by slot. -/
theorem chargesOk_iff (s : State) : ChargesOk s ↔ s.charges.length = Config.chargeSlots ∧
    (∀ i c, s.charge? i = some c → c.CountsOk ∧ 1 ≤ c.number ∧ c.number ≤ 65535) ∧
    ∀ i j c d, s.charge? i = some c → s.charge? j = some d → c.number = d.number → i = j := by
  unfold ChargesOk
  refine and_congr_right fun _ => and_congr ?_ (nodup_numbers_iff _ _)
  constructor
  · exact fun h i c hc => h c (State.mem_liveCharges.mpr ⟨i, hc⟩)
  · intro h c hc
    obtain ⟨i, hi⟩ := State.mem_liveCharges.mp hc
    exact h i c hi

/-- Charges of the same numbers, whose counts stay in order. -/
theorem ChargesOk.of_rel {s t : State} (h : ChargesOk s) (hl : t.charges.length = s.charges.length)
    (hr : ∀ i d, t.charge? i = some d → ∃ c, s.charge? i = some c ∧ d.number = c.number ∧ (c.CountsOk → d.CountsOk)) :
    ChargesOk t := by
  rw [chargesOk_iff] at h ⊢
  obtain ⟨hlen, hok, hne⟩ := h
  refine ⟨hl.trans hlen, fun i d hd => ?_, fun i j c d hc hd he => ?_⟩
  · obtain ⟨c, hc, hn, hcounts⟩ := hr i d hd
    obtain ⟨h1, h2, h3⟩ := hok i c hc
    exact ⟨hcounts h1, by omega, by omega⟩
  · obtain ⟨c', hc', hn, -⟩ := hr i c hc
    obtain ⟨d', hd', hm, -⟩ := hr j d hd
    exact hne i j c' d' hc' hd' (by omega)

theorem Charge.SameCounts.countsOk {c d : Charge} (h : c.SameCounts d) (hc : c.CountsOk) : d.CountsOk := by
  obtain ⟨h1, h2, h3, h4, h5, h6⟩ := hc
  simp only [Charge.CountsOk, h.seen, h.measured, h.unmeasured, h.wetCount, h.overdry, h.mcSum]
  exact ⟨h1, h2, le_trans h.winMeasured h3, le_trans h.winWet h4, h5, h6⟩

theorem State.ChargesAlike.source {s t : State} (h : s.ChargesAlike t) {i : Nat} {d : Charge}
    (hd : t.charge? i = some d) : ∃ c, s.charge? i = some c ∧ c.SameCounts d := by
  have := h.2 i
  rw [hd] at this
  generalize s.charge? i = o at this
  cases this with
  | some h => exact ⟨_, rfl, h⟩

/-- One more board keeps the relations of the counts (R34, R35). -/
theorem Charge.CountsOk.addBoard {c : Charge} (h : c.CountsOk) (hs : c.seen < Config.max24) {mc : Option Nat}
    (hm : ∀ m, mc = some m → m ≤ 600) (cls : MClass) : (c.addBoard mc cls).CountsOk := by
  obtain ⟨h1, h2, h3, h4, h5, h6⟩ := h
  cases mc with
  | none => simp only [Charge.addBoard, Charge.CountsOk]; omega
  | some m =>
    have := hm m rfl
    cases cls <;> simp [Charge.addBoard, Charge.CountsOk] <;> omega

theorem charge?_set_none {s : State} {i j : Nat} {c : Charge} (hi : s.charge? i = some c) :
    ({ s with charges := s.charges.set i none } : State).charge? j = if i = j then none else s.charge? j :=
  join_set s.charges i j none (State.lt_of_charge? hi)

/-- The Charge Table alone matters. -/
theorem ChargesOk.congr {s t : State} (h : ChargesOk s) (ht : t.charges = s.charges) : ChargesOk t := by
  simpa only [ChargesOk, State.liveCharges, ht] using h

theorem ChargesOk.modifyCharge {s : State} (h : ChargesOk s) {i : Nat} {f : Charge → Charge}
    (hf : ∀ c, s.charge? i = some c → (f c).number = c.number ∧ (c.CountsOk → (f c).CountsOk)) :
    ChargesOk (s.modifyCharge i f) :=
  h.of_rel (by simp [State.modifyCharge]) fun j d hd => by
    rw [State.charge?_modifyCharge] at hd
    split at hd
    · subst_vars
      obtain ⟨c, hc, rfl⟩ := Option.map_eq_some_iff.mp hd
      exact ⟨c, hc, hf c hc⟩
    · exact ⟨d, hd, rfl, id⟩

theorem State.charge?_reset (i : Nat) : State.reset.charge? i = none := by
  simp only [State.charge?, State.reset, List.getElem?_replicate]
  split <;> rfl

theorem chargesOk_reset : ChargesOk State.reset := by
  rw [chargesOk_iff]
  exact ⟨List.length_replicate, by simp [State.charge?_reset], by simp [State.charge?_reset]⟩

theorem chargesOk_keptOffTheLine : KeptOffTheLine ChargesOk where
  reset := chargesOk_reset
  alike ha _ _ h := h.of_rel ha.1 fun i d hd => by
    obtain ⟨c, hc, hcd⟩ := ha.source hd
    exact ⟨c, hc, hcd.number, hcd.countsOk⟩
  create {s i number _ _ _ _ _ _ _} h hi hn h1 h2 := by
    have hl : i < s.charges.length := (List.getElem?_eq_some_iff.mp hi).1
    rw [chargesOk_iff] at h ⊢
    obtain ⟨hlen, hok, hne⟩ := h
    refine ⟨by simpa [State.withCharge] using hlen, fun j c hc => ?_, fun j k c d hc hd he => ?_⟩
    · rw [State.charge?_withCharge _ _ _ _ hl] at hc
      split at hc
      · cases hc
        exact ⟨by simp [Charge.CountsOk, Charge.created], h1, h2⟩
      · exact hok j c hc
    · rw [State.charge?_withCharge _ _ _ _ hl] at hc hd
      split at hc <;> split at hd
      · omega
      · cases hc
        exact absurd he.symm (hn k d hd)
      · cases hd
        exact absurd he (hn j c hc)
      · exact hne j k c d hc hd he
  retire h hi _ := h.of_rel (by simp) fun j d hd => by
    rw [charge?_set_none hi] at hd
    split at hd
    · cases hd
    · exact ⟨d, hd, rfl, id⟩
  board {s i c mc cls} h hc ht hm := h.modifyCharge fun d hd => by
    rw [hc, Option.some.injEq] at hd
    subst hd
    refine ⟨by unfold Charge.addBoard; cases mc <;> rfl, fun hok => hok.addBoard ?_ hm cls⟩
    simp only [Charge.takesBoards, Bool.and_eq_true, decide_eq_true_eq] at ht
    exact ht.2
  define h _ _ _ _ _ _ := h
  amend h _ _ _ := h
  delete h _ _ := h
  chambers h _ := h
  load h _ _ _ _ _ _ := (h.congr (by simp)).modifyCharge fun _ _ => ⟨rfl, id⟩
  unload {s n c next} h _ _ _ := by
    have hu : ChargesOk ((s.setChamber n .reset).modifyRefCount (c.schedule.getD 0) (· - 1)) := h.congr (by simp)
    cases c.chargeSlot with
    | none => exact hu
    | some i => exact hu.modifyCharge fun _ _ => ⟨rfl, id⟩

/-- Settles O55: the changes of the charge records keep the relations of their counts. -/
theorem everyStepKeepsTheChargeCounts : Obligations.EveryStepKeepsTheChargeCounts := by
  unfold Obligations.EveryStepKeepsTheChargeCounts
  exact fun _ _ h hx => chargesOk_keptOffTheLine.keptByChanges.step h hx

end Sys2Proof.Machine
end

section
/-! Chambers, schedules and kiln charges are kept in agreement by every step. -/

namespace Sys2Proof.Machine

/-! ## Records related one by one -/

theorem optionRel_left {α β : Type} {R : α → β → Prop} {a : α} {o : Option β} (h : Option.Rel R (some a) o) :
    ∃ b, o = some b ∧ R a b := by cases h with | some h => exact ⟨_, rfl, h⟩

theorem optionRel_right {α β : Type} {R : α → β → Prop} {b : β} {o : Option α} (h : Option.Rel R o (some b)) :
    ∃ a, o = some a ∧ R a b := by cases h with | some h => exact ⟨_, rfl, h⟩

theorem optionRel_imp {α β : Type} {R S : α → β → Prop} {a : Option α} {b : Option β}
    (hRS : ∀ {x y}, R x y → S x y) : Option.Rel R a b → Option.Rel S a b
  | .some h => .some (hRS h)
  | .none => .none

theorem optionRel_nth1 {α : Type} {R : α → α → Prop} {l l' : List α} (h : List.Forall₂ R l l') (n : Nat) :
    Option.Rel R (nth1 l n) (nth1 l' n) := by
  cases n with
  | zero => exact .none
  | succ k =>
    induction h generalizing k with
    | nil => exact .none
    | cons h _ ih => cases k with
      | zero => exact .some h
      | succ k => exact ih k

theorem State.chamber?_follows {s : State} {l : List Chamber} (h : List.Forall₂ (Chamber.Follows s) s.chambers l)
    (n : Nat) : Option.Rel (Chamber.Follows s) (s.chamber? n) (({ s with chambers := l } : State).chamber? n) :=
  optionRel_nth1 h n

/-! ## Scans (R55, R60) -/

theorem Chamber.scanOk_reset : Chamber.reset.ScanOk := by
  simp [Chamber.reset, Chamber.ScanOk]

theorem State.mem_chambers {s : State} {c : Chamber} : c ∈ s.chambers ↔ ∃ n, s.chamber? n = some c := by
  rw [List.mem_iff_getElem?]
  exact ⟨fun ⟨k, hk⟩ => ⟨k + 1, hk⟩, fun ⟨n, hn⟩ => by cases n with
    | zero => cases hn
    | succ k => exact ⟨k, hn⟩⟩

theorem scansOk_iff (s : State) : ScansOk s ↔ ∀ n c, s.chamber? n = some c → c.ScanOk := by
  simp only [ScansOk, State.mem_chambers]
  exact ⟨fun h n c hc => h c ⟨n, hc⟩, fun h c ⟨n, hc⟩ => h n c hc⟩

theorem ScansOk.congr {s t : State} (h : ScansOk s) (ht : t.chambers = s.chambers) : ScansOk t := by
  simpa only [ScansOk, ht] using h

theorem ScansOk.setChamber {s : State} (h : ScansOk s) {n : Nat} {c : Chamber} (hc : c.ScanOk) :
    ScansOk (s.setChamber n c) := by
  rw [scansOk_iff] at h ⊢
  intro m d hd
  rw [State.chamber?_setChamber] at hd
  split at hd
  · obtain ⟨-, -, rfl⟩ := Option.map_eq_some_iff.mp hd
    exact hc
  · exact h m d hd

theorem scansOk_keptOffTheLine : KeptOffTheLine ScansOk where
  reset c hc := (List.mem_replicate.mp hc).2 ▸ Chamber.scanOk_reset
  alike _ _ hc h := h.congr hc
  create h _ _ _ _ := h
  retire h _ _ := h
  board h _ _ _ := h
  define h _ _ _ _ _ _ := h
  amend h _ _ _ := h
  delete h _ _ := h
  chambers h hl := by
    rw [scansOk_iff] at h ⊢
    intro n c hc
    obtain ⟨b, hb, hbc⟩ := optionRel_right (hc ▸ State.chamber?_follows hl n)
    exact hbc.scan (h n b hb)
  load {s n i k ch sc} h _ _ _ _ _ _ := by
    have hset := h.setChamber (n := n) (c := { Chamber.reset with
      state := .loaded, chargeSlot := some i, schedule := some k }) Chamber.scanOk_reset
    exact hset.congr (by simp)
  unload {s n c next} h _ _ _ := (h.setChamber (n := n) Chamber.scanOk_reset).congr (by simp)

/-! ## The kiln side, record by record -/

/-- The agreement of chambers, schedules and charges, said of each record by its number (R1, R50, R55). -/
structure KilnSide (s : State) : Prop where
  chambers : s.chambers.length = Config.chambers
  schedules : s.schedules.length = Config.scheduleSlots
  chamber : ∀ n c, s.chamber? n = some c → c.Ok ∧ ChamberSchedule s c
  schedule : ∀ n sc, s.schedule? n = some sc → ScheduleOk s n sc
  named : ∀ n c i, s.chamber? n = some c → c.chargeSlot = some i →
    ∃ ch, s.charge? i = some ch ∧ ch.state = .kiln ∧ ch.chamber = some n
  idle : ∀ i ch, s.charge? i = some ch → ch.state ≠ .kiln → ch.chamber = none
  kiln : ∀ i ch, s.charge? i = some ch → ch.state = .kiln →
    ∃ n c, ch.chamber = some n ∧ s.chamber? n = some c ∧ c.chargeSlot = some i

/-- A number from 1 to the length of a table, or no number of it. -/
theorem nth1_lt {α : Type} {l : List α} {n : Nat} {a : α} (h : nth1 l n = some a) : ∃ k < l.length, n = k + 1 := by
  cases n with
  | zero => cases h
  | succ k => exact ⟨k, (List.getElem?_eq_some_iff.mp h).1, rfl⟩

theorem kilnSideOk_iff (s : State) : KilnSideOk s ↔ KilnSide s := by
  constructor
  · rintro ⟨h1, h2, h3, h4, h5, h6⟩
    have hsched : ∀ n sc, s.schedule? n = some sc → ScheduleOk s n sc := by
      intro n sc hsc
      obtain ⟨k, hk, rfl⟩ := nth1_lt (Option.join_eq_some_iff.mp hsc)
      exact h4 k (h2 ▸ hk) sc (by simp [hsc])
    have hcharge : ∀ i ch, s.charge? i = some ch → ChargeChamber s i ch :=
      fun i ch hch => h6 i (State.lt_of_charge? hch) ch (by simp [hch])
    refine ⟨h1, h2, fun n c hc => h3 c (State.mem_chambers.mpr ⟨n, hc⟩), hsched, fun n c i hc hi => ?_,
      fun i ch hch => (hcharge i ch hch).1, fun i ch hch hk => ?_⟩
    · obtain ⟨k, hk, rfl⟩ := nth1_lt hc
      have := h5 k (h1 ▸ hk) c (by simp [hc]) i (by simp [hi])
      simpa [Option.any_eq_true] using this
    · have := (hcharge i ch hch).2 hk
      rw [Option.any_eq_true] at this
      obtain ⟨c, hc, hi⟩ := this
      obtain ⟨n, hn, hc⟩ := Option.bind_eq_some_iff.mp hc
      exact ⟨n, c, hn, hc, by simpa using hi⟩
  · rintro ⟨h1, h2, h3, h4, h5, h6, h7⟩
    refine ⟨h1, h2, fun c hc => ?_, fun k _ sc hsc => h4 _ sc (Option.mem_toList.mp hsc), fun k _ c hc i hi => ?_,
      fun i _ ch hch => ?_⟩
    · obtain ⟨n, hn⟩ := State.mem_chambers.mp hc
      exact h3 n c hn
    · obtain ⟨ch, hch, hk, hn⟩ := h5 _ c i (Option.mem_toList.mp hc) (Option.mem_toList.mp hi)
      simp [hch, hk, hn]
    · have hch := Option.mem_toList.mp hch
      refine ⟨h6 i ch hch, fun hk => ?_⟩
      obtain ⟨n, c, hn, hc, hi⟩ := h7 i ch hch hk
      simp [hn, hc, hi]

/-- Two charges that are in the same chamber, or in none. -/
def Charge.SamePlace (c d : Charge) : Prop := (d.state = .kiln ↔ c.state = .kiln) ∧ d.chamber = c.chamber

/-- Charges that stay where they are leave the kiln side in agreement. -/
theorem KilnSide.of_samePlace {s t : State} (h : KilnSide s) (hs : t.schedules = s.schedules)
    (hc : t.chambers = s.chambers) (hr : ∀ i, Option.Rel Charge.SamePlace (s.charge? i) (t.charge? i)) :
    KilnSide t := by
  have hch : ∀ n, t.chamber? n = s.chamber? n := fun n => by rw [State.chamber?, State.chamber?, hc]
  have hsc : ∀ n, t.schedule? n = s.schedule? n := fun n => by rw [State.schedule?, State.schedule?, hs]
  refine ⟨hc ▸ h.chambers, hs ▸ h.schedules, fun n c hn => ?_, fun n sc hn => ?_, fun n c i hn hi => ?_,
    fun i d hd hk => ?_, fun i d hd hk => ?_⟩
  · simpa only [ChamberSchedule, hsc] using h.chamber n c (hch n ▸ hn)
  · simpa only [ScheduleOk, hc] using h.schedule n sc (hsc n ▸ hn)
  · obtain ⟨ch, hchi, hk, hm⟩ := h.named n c i (hch n ▸ hn) hi
    obtain ⟨d, hd, hkd, hmd⟩ := optionRel_left (hchi ▸ hr i)
    exact ⟨d, hd, hkd.mpr hk, hmd.trans hm⟩
  · obtain ⟨c, hci, hkc, hm⟩ := optionRel_right (hd ▸ hr i)
    exact hm.trans (h.idle i c hci (fun hx => hk (hkc.mpr hx)))
  · obtain ⟨c, hci, hkc, hm⟩ := optionRel_right (hd ▸ hr i)
    obtain ⟨n, x, hn, hx, hi⟩ := h.kiln i c hci (hkc.mp hk)
    exact ⟨n, x, hm.trans hn, hch n ▸ hx, hi⟩

/-- A slot whose charge is in no kiln, or which is free, is named by no chamber. -/
theorem KilnSide.not_named {s : State} (h : KilnSide s) {i : Nat}
    (hi : ∀ ch, s.charge? i = some ch → ch.state ≠ .kiln) {n : Nat} {c : Chamber} (hc : s.chamber? n = some c) :
    c.chargeSlot ≠ some i := by
  intro hn
  obtain ⟨ch, hch, hk, -⟩ := h.named n c i hc hn
  exact hi ch hch hk

/-- The charge of one slot, in no kiln and named by no chamber, replaced by another such charge or by none. -/
theorem KilnSide.set_charge {s : State} (h : KilnSide s) {i : Nat} {o : Option Charge} (hl : i < s.charges.length)
    (hi : ∀ ch, s.charge? i = some ch → ch.state ≠ .kiln)
    (ho : ∀ ch, o = some ch → ch.state ≠ .kiln ∧ ch.chamber = none) :
    KilnSide { s with charges := s.charges.set i o } := by
  have hget (j : Nat) : ({ s with charges := s.charges.set i o } : State).charge? j = if i = j then o else s.charge? j :=
    join_set s.charges i j o hl
  refine ⟨h.chambers, h.schedules, h.chamber, h.schedule, fun n c j hn hj => ?_, fun j d hd hk => ?_, fun j d hd hk => ?_⟩
  · have hne : i ≠ j := fun e => h.not_named hi hn (e ▸ hj)
    rw [hget, if_neg hne]
    exact h.named n c j hn hj
  · rw [hget] at hd
    split at hd
    · exact (ho d hd).2
    · exact h.idle j d hd hk
  · rw [hget] at hd
    split at hd
    · exact absurd hk (ho d hd).1
    · exact h.kiln j d hd hk

/-! ## Schedules -/

theorem ChamberSchedule.congr {s t : State} {c : Chamber} (h : ChamberSchedule s c)
    (hs : ∀ n, c.schedule = some n → t.schedule? n = s.schedule? n) : ChamberSchedule t c := by
  rw [chamberSchedule_iff] at h ⊢
  intro n hn
  rw [hs n hn]
  exact h n hn

/-- A schedule slot that is free, or whose schedule no chamber refers to, is named by none. -/
theorem KilnSide.schedule_not_named {s : State} (h : KilnSide s) {n : Nat}
    (h0 : ∀ sc, s.schedule? n = some sc → sc.refCount = 0) {c : Chamber} (hc : c ∈ s.chambers) :
    c.schedule ≠ some n := by
  intro hn
  obtain ⟨m, hm⟩ := State.mem_chambers.mp hc
  obtain ⟨sc, hsc, -⟩ := (chamberSchedule_iff s c).mp (h.chamber m c hm).2 n hn
  obtain ⟨-, -, -, -, href⟩ := h.schedule n sc hsc
  have := List.countP_eq_zero.mp (href.symm.trans (h0 sc hsc)) c hc
  exact this (by simpa using hn)

/-- A schedule that no chamber names replaced or deleted. -/
theorem KilnSide.setSchedule {s : State} (h : KilnSide s) {n : Nat} {o : Option Schedule} (h1 : 1 ≤ n)
    (h2 : n ≤ 32) (h0 : ∀ sc, s.schedule? n = some sc → sc.refCount = 0)
    (ho : ∀ sc, o = some sc → sc.StepsOk ∧ sc.steps.length ≤ 16 ∧ sc.revision ≤ Config.max16 ∧ sc.refCount = 0) :
    KilnSide (s.setSchedule n o) := by
  have hget (m : Nat) := State.schedule?_setSchedule s n m o h1 (h.schedules ▸ h2)
  refine ⟨h.chambers, by simpa [State.setSchedule] using h.schedules, fun m c hm => ?_, fun m sc hm => ?_,
    h.named, h.idle, h.kiln⟩
  · obtain ⟨hok, hsc⟩ := h.chamber m c hm
    refine ⟨hok, hsc.congr fun k hk => ?_⟩
    rw [hget, if_neg]
    rintro rfl
    exact h.schedule_not_named h0 (State.mem_chambers.mpr ⟨m, hm⟩) hk
  · rw [hget] at hm
    split at hm
    · subst_vars
      obtain ⟨⟨ha, hb⟩, hc, hd, he⟩ := ho sc rfl
      refine ⟨ha, hc, hb, hd, he.trans (List.countP_eq_zero.mpr fun c hc => ?_).symm⟩
      simpa using h.schedule_not_named h0 hc
    · exact h.schedule m sc hm

/-- A step of a defined schedule replaced (R47). -/
theorem KilnSide.amendStep {s : State} (h : KilnSide s) {n rev i : Nat} {sc : Schedule} {t : Step}
    (hn : s.schedule? n = some sc) (hr : rev ≤ Config.max16) (ht : t.Ok) :
    KilnSide (s.setSchedule n (some { sc with revision := rev, steps := sc.steps.set i t })) := by
  obtain ⟨k, hk, rfl⟩ := nth1_lt (Option.join_eq_some_iff.mp hn)
  have hget (m : Nat) := State.schedule?_setSchedule s (k + 1) m
    (some { sc with revision := rev, steps := sc.steps.set i t }) (by omega) hk
  refine ⟨h.chambers, by simpa [State.setSchedule] using h.schedules, fun m c hm => ?_, fun m sc' hm => ?_,
    h.named, h.idle, h.kiln⟩
  · obtain ⟨hok, hsc⟩ := h.chamber m c hm
    refine ⟨hok, ?_⟩
    rw [chamberSchedule_iff] at hsc ⊢
    intro j hj
    obtain ⟨sc', hsc', hi⟩ := hsc j hj
    rw [hget]
    split
    · subst_vars
      rw [hn, Option.some.injEq] at hsc'
      subst hsc'
      exact ⟨_, rfl, by simpa using hi⟩
    · exact ⟨sc', hsc', hi⟩
  · rw [hget] at hm
    split at hm
    · subst_vars
      cases hm
      obtain ⟨ha, hb, hc, -, hd⟩ := h.schedule _ sc hn
      exact ⟨by simpa using ha, by simpa using hb, fun u hu => (List.mem_or_eq_of_mem_set hu).elim (hc u) (· ▸ ht), hr, hd⟩
    · exact h.schedule m sc' hm

/-! ## Chambers -/

/-- Chambers changed in place. -/
theorem KilnSide.followed {s : State} (h : KilnSide s) {l : List Chamber}
    (hl : List.Forall₂ (Chamber.Follows s) s.chambers l) : KilnSide { s with chambers := l } := by
  have hcount (n : Nat) : l.countP (fun c => c.schedule = some n) = s.chambers.countP (fun c => c.schedule = some n) := by
    clear h
    generalize s.chambers = k at hl
    induction hl with
    | nil => rfl
    | cons hab _ ih => simp only [List.countP_cons, ih, hab.schedule]
  refine ⟨hl.length_eq ▸ h.chambers, h.schedules, fun n c hn => ?_, fun n sc hn => ?_, fun n c i hn hi => ?_,
    h.idle, fun i ch hch hk => ?_⟩
  · obtain ⟨b, hb, hbc⟩ := optionRel_right (hn ▸ State.chamber?_follows hl n)
    obtain ⟨hok, hsc⟩ := h.chamber n b hb
    exact hbc.ok (fun m sc hm hsc => have ⟨ha, _, hs, _⟩ := h.schedule m sc hsc; ⟨ha, hs⟩) hsc hok
  · obtain ⟨ha, hb, hc, hd, he⟩ := h.schedule n sc hn
    exact ⟨ha, hb, hc, hd, he.trans (hcount n).symm⟩
  · obtain ⟨b, hb, hbc⟩ := optionRel_right (hn ▸ State.chamber?_follows hl n)
    exact h.named n b i hb (hbc.chargeSlot ▸ hi)
  · obtain ⟨n, c, hn, hc, hi⟩ := h.kiln i ch hch hk
    obtain ⟨d, hd, hcd⟩ := optionRel_left (hc ▸ State.chamber?_follows hl n)
    exact ⟨n, d, hn, hd, hcd.chargeSlot.trans hi⟩

/-! ## A chamber loaded and unloaded (R68, R76) -/

/-- How many records satisfy a test after one is replaced. -/
theorem countP_set1 {α : Type} {l : List α} {n : Nat} {b : α} (h : nth1 l n = some b) (a : α) (q : α → Bool) :
    (set1 l n a).countP q + (if q b then 1 else 0) = l.countP q + (if q a then 1 else 0) := by
  obtain ⟨k, hk, rfl⟩ := nth1_lt h
  obtain ⟨-, rfl⟩ := List.getElem?_eq_some_iff.mp (show l[k]? = some b from h)
  have hpos : q l[k] = true → 0 < l.countP q := fun hq => List.countP_pos_iff.mpr ⟨_, List.getElem_mem hk, hq⟩
  rw [set1, List.countP_set hk]
  split <;> rename_i hq
  · have := hpos hq
    omega
  · omega

theorem State.schedule?_modifyRefCount {s : State} {k : Nat} {sc : Schedule} (h : s.schedule? k = some sc)
    (f : Nat → Nat) (m : Nat) : (s.modifyRefCount k f).schedule? m =
      if k = m then some { sc with refCount := f sc.refCount } else s.schedule? m := by
  obtain ⟨j, hj, rfl⟩ := nth1_lt (Option.join_eq_some_iff.mp h)
  rw [State.modifyRefCount, h]
  exact State.schedule?_setSchedule s (j + 1) m _ (by omega) hj

@[simp] theorem State.modifyRefCount_length (s : State) (k : Nat) (f : Nat → Nat) :
    (s.modifyRefCount k f).schedules.length = s.schedules.length := by
  unfold State.modifyRefCount
  split
  · rfl
  · simp [State.setSchedule]

/-- The reference count of one schedule does not bear on the steps that chambers are at. -/
theorem ChamberSchedule.modifyRefCount {s : State} {c : Chamber} (h : ChamberSchedule s c) {k : Nat} {sc : Schedule}
    (hk : s.schedule? k = some sc) (f : Nat → Nat) : ChamberSchedule (s.modifyRefCount k f) c := by
  rw [chamberSchedule_iff] at h ⊢
  intro m hm
  obtain ⟨sc', hsc', hi⟩ := h m hm
  rw [State.schedule?_modifyRefCount hk]
  split
  · subst_vars
    rw [hk, Option.some.injEq] at hsc'
    exact ⟨_, rfl, hsc' ▸ hi⟩
  · exact ⟨sc', hsc', hi⟩

section Exchange
variable {s : State} {n k i : Nat} {c d : Chamber} {sc : Schedule} {ch : Charge} {f : Nat → Nat} {g : Charge → Charge}

/-- One chamber's record, the reference count of its schedule and its charge changed together, as a load and
an unload do (R68, R76). -/
def State.exchange (s : State) (n : Nat) (d : Chamber) (k : Nat) (f : Nat → Nat) (i : Nat) (g : Charge → Charge) :
    State := ((s.setChamber n d).modifyRefCount k f).modifyCharge i g

theorem State.chamber?_exchange (m : Nat) :
    (s.exchange n d k f i g).chamber? m = if n = m then (s.chamber? m).map (fun _ => d) else s.chamber? m := by
  rw [← State.chamber?_setChamber]
  simp [State.chamber?, State.exchange]

theorem State.schedule?_exchange (hk : s.schedule? k = some sc) (m : Nat) : (s.exchange n d k f i g).schedule? m =
    if k = m then some { sc with refCount := f sc.refCount } else s.schedule? m :=
  State.schedule?_modifyRefCount (s := s.setChamber n d) hk f m

theorem State.charge?_exchange (j : Nat) :
    (s.exchange n d k f i g).charge? j = if i = j then (s.charge? j).map g else s.charge? j := by
  rw [State.exchange, State.charge?_modifyCharge]
  simp [State.charge?]

/-- What the exchange asks of the records: the schedule is counted once for each of its chambers, and the
charge is in the kiln exactly when the new record names it. -/
structure Exchanges (s : State) (n : Nat) (c d : Chamber) (k : Nat) (sc : Schedule) (f : Nat → Nat) (i : Nat)
    (ch : Charge) (g : Charge → Charge) : Prop where
  chamber : s.chamber? n = some c
  schedule : s.schedule? k = some sc
  charge : s.charge? i = some ch
  ok : d.Ok
  steps : ChamberSchedule s d
  counted : f sc.refCount + (if c.schedule = some k then 1 else 0) =
    sc.refCount + (if d.schedule = some k then 1 else 0)
  others : ∀ m, m ≠ k → (c.schedule = some m ↔ d.schedule = some m)
  slot : ∀ j, c.chargeSlot = some j → j = i
  slot' : ∀ j, d.chargeSlot = some j → j = i
  alone : ∀ m x, s.chamber? m = some x → m ≠ n → x.chargeSlot ≠ some i
  inKiln : (g ch).state = .kiln → (g ch).chamber = some n ∧ d.chargeSlot = some i
  outside : (g ch).state ≠ .kiln → (g ch).chamber = none ∧ d.chargeSlot = none

theorem KilnSide.exchange (h : KilnSide s) (e : Exchanges s n c d k sc f i ch g) : KilnSide (s.exchange n d k f i g) := by
  have hchambers : (s.exchange n d k f i g).chambers = set1 s.chambers n d := by simp [State.exchange, State.setChamber]
  refine ⟨by simpa [hchambers] using h.chambers, by simpa [State.exchange] using h.schedules, fun m x hx => ?_,
    fun m x hx => ?_, fun m x j hx hj => ?_, fun j x hx hk => ?_, fun j x hx hk => ?_⟩
  · have key : x.Ok ∧ ChamberSchedule s x := by
      rw [State.chamber?_exchange] at hx
      split at hx
      · obtain ⟨-, -, rfl⟩ := Option.map_eq_some_iff.mp hx
        exact ⟨e.ok, e.steps⟩
      · exact h.chamber m x hx
    refine ⟨key.1, (chamberSchedule_iff _ _).mpr fun j hj => ?_⟩
    obtain ⟨sc', hsc', hi⟩ := (chamberSchedule_iff _ _).mp key.2 j hj
    rw [State.schedule?_exchange e.schedule]
    split
    · subst_vars
      rw [e.schedule, Option.some.injEq] at hsc'
      exact ⟨_, rfl, hsc' ▸ hi⟩
    · exact ⟨sc', hsc', hi⟩
  · have hcount := countP_set1 e.chamber d (fun y => decide (y.schedule = some m))
    simp only [decide_eq_true_eq] at hcount
    have hcounted := e.counted
    rw [State.schedule?_exchange e.schedule] at hx
    unfold ScheduleOk
    rw [hchambers]
    split at hx
    · subst_vars
      cases hx
      obtain ⟨ha, hb, hs, hr, href⟩ := h.schedule _ sc e.schedule
      exact ⟨ha, hb, hs, hr, by dsimp only; omega⟩
    · rename_i hne
      obtain ⟨ha, hb, hs, hr, href⟩ := h.schedule m x hx
      simp only [e.others m (Ne.symm hne)] at hcount
      exact ⟨ha, hb, hs, hr, by omega⟩
  · rw [State.charge?_exchange]
    rw [State.chamber?_exchange] at hx
    split at hx
    · subst_vars
      obtain ⟨-, -, rfl⟩ := Option.map_eq_some_iff.mp hx
      obtain rfl := e.slot' j hj
      have hk : (g ch).state = .kiln := by
        by_contra hk
        rw [(e.outside hk).2] at hj
        cases hj
      exact ⟨g ch, by rw [if_pos rfl, e.charge]; rfl, hk, (e.inKiln hk).1⟩
    · rename_i hne
      rw [if_neg (fun hij : i = j => e.alone m x hx (Ne.symm hne) (hij ▸ hj))]
      exact h.named m x j hx hj
  · rw [State.charge?_exchange] at hx
    split at hx
    · subst_vars
      rw [e.charge] at hx
      cases hx
      exact (e.outside hk).1
    · exact h.idle j x hx hk
  · rw [State.charge?_exchange] at hx
    split at hx
    · subst_vars
      rw [e.charge] at hx
      cases hx
      exact ⟨n, d, (e.inKiln hk).1, by rw [State.chamber?_exchange, if_pos rfl, e.chamber]; rfl, (e.inKiln hk).2⟩
    · rename_i hne
      obtain ⟨m, y, hm, hy, hj⟩ := h.kiln j x hx hk
      refine ⟨m, y, hm, ?_, hj⟩
      rw [State.chamber?_exchange, if_neg, hy]
      rintro rfl
      rw [e.chamber, Option.some.injEq] at hy
      exact hne (e.slot j (hy ▸ hj)).symm

end Exchange

theorem KilnSide.load {s : State} (h : KilnSide s) {n i k : Nat} {ch : Charge} {sc : Schedule} (hn1 : 1 ≤ n)
    (hn2 : n ≤ 12) (he : ((s.chamber? n).getD .reset).state = .empty) (hi : s.charge? i = some ch)
    (hst : ch.state = .staged) (hk : s.schedule? k = some sc) :
    KilnSide (s.exchange n { Chamber.reset with state := .loaded, chargeSlot := some i, schedule := some k } k (· + 1)
      i (fun ch => { ch with state := .kiln, chamber := some n })) := by
  obtain ⟨c, hc⟩ : ∃ c, s.chamber? n = some c := by
    obtain ⟨j, rfl⟩ : ∃ j, n = j + 1 := ⟨n - 1, by omega⟩
    have : s.chambers.length = 12 := h.chambers
    exact ⟨_, List.getElem?_eq_getElem (i := j) (by omega)⟩
  obtain rfl : c = .reset := (h.chamber n c hc).1.1 (by simpa [hc] using he)
  exact h.exchange
    { chamber := hc
      schedule := hk
      charge := hi
      ok := by simp [Chamber.Ok, Chamber.reset, Causes.none]
      steps := (chamberSchedule_iff _ _).mpr fun m hm => by
        cases hm
        exact ⟨sc, hk, fun r hr => nomatch hr⟩
      counted := by simp [Chamber.reset]
      others := fun m hm => by simp [Chamber.reset, Ne.symm hm]
      slot := fun j hj => nomatch hj
      slot' := fun j hj => (Option.some.inj hj).symm
      alone := fun m x hx _ => h.not_named (fun d hd => by rw [hi, Option.some.injEq] at hd; simp [← hd, hst]) hx
      inKiln := fun _ => ⟨rfl, rfl⟩
      outside := fun hk => absurd rfl hk }

theorem KilnSide.unload {s : State} (h : KilnSide s) {n : Nat} {c : Chamber} {next : ChargeState}
    (hc : s.chamber? n = some c) (he : c.state ≠ .empty) (hnext : next ≠ .kiln) :
    KilnSide (((s.setChamber n .reset).modifyRefCount (c.schedule.getD 0) (· - 1)).modifyChargeOf c.chargeSlot
      (fun ch => { ch with state := next, chamber := none })) := by
  obtain ⟨hok, hsc⟩ := h.chamber n c hc
  obtain ⟨k, hk, hks, -⟩ := hok.scheduleOf hsc he
  obtain ⟨i, hi⟩ := Option.isSome_iff_exists.mp (hok.2.1 he).1
  obtain ⟨ch, hch, -, hn⟩ := h.named n c i hc hi
  rw [hk, hi, Option.getD_some]
  have hpos : 0 < (s.scheduleOf c).refCount := by
    obtain ⟨-, -, -, -, href⟩ := h.schedule k _ hks
    rw [href]
    exact List.countP_pos_iff.mpr ⟨c, State.mem_chambers.mpr ⟨n, hc⟩, by simpa using hk⟩
  exact h.exchange
    { chamber := hc
      schedule := hks
      charge := hch
      ok := by simp [Chamber.Ok, Chamber.reset]
      steps := (chamberSchedule_iff _ _).mpr fun m hm => nomatch hm
      counted := by simp [hk, Chamber.reset]; omega
      others := fun m hm => by simp [Chamber.reset, hk, Ne.symm hm]
      slot := fun j hj => by rw [hi, Option.some.injEq] at hj; exact hj.symm
      slot' := fun j hj => nomatch hj
      alone := fun m x hx hne hxi => by
        obtain ⟨ch', hch', -, hm⟩ := h.named m x i hx hxi
        rw [hch, Option.some.injEq] at hch'
        subst hch'
        rw [hn, Option.some.injEq] at hm
        exact hne hm.symm
      inKiln := fun hk => absurd hk hnext
      outside := fun _ => ⟨rfl, rfl⟩ }

/-! ## Every step -/

theorem Charge.samePlace_addBoard {c : Charge} (h : c.takesBoards = true) (mc : Option Nat) (cls : MClass) :
    c.SamePlace (c.addBoard mc cls) := by
  simp only [Charge.takesBoards, Bool.and_eq_true, Bool.or_eq_true, decide_eq_true_eq] at h
  obtain ⟨hst, -⟩ := h
  have hk : c.state ≠ .kiln := by rcases hst with (hst | hst) | hst <;> simp [hst]
  have key : (if c.state = .dried then ChargeState.inFeed else c.state) ≠ .kiln := by
    split
    · decide
    · exact hk
  cases mc <;> exact ⟨iff_of_false key hk, rfl⟩

theorem kilnSideOk_reset : KilnSideOk State.reset := by
  rw [kilnSideOk_iff]
  have hchamber : ∀ n c, State.reset.chamber? n = some c → c = .reset := fun n c hn =>
    (List.mem_replicate.mp (State.mem_chambers.mpr ⟨n, hn⟩)).2
  have hschedule : ∀ n, State.reset.schedule? n = none := by
    intro n
    rw [State.schedule?, Option.join_eq_none_iff]
    cases n with
    | zero => simp [nth1]
    | succ k => simp only [nth1, State.reset, List.getElem?_replicate]; split <;> simp
  refine ⟨List.length_replicate, List.length_replicate, fun n c hn => ?_, fun n sc hn => ?_, fun n c i hn hi => ?_,
    fun i ch hch => ?_, fun i ch hch => ?_⟩
  · rw [hchamber n c hn]
    exact ⟨by simp [Chamber.Ok, Chamber.reset], (chamberSchedule_iff _ _).mpr fun m hm => nomatch hm⟩
  · rw [hschedule] at hn
    cases hn
  · rw [hchamber n c hn] at hi
    cases hi
  · rw [State.charge?_reset] at hch
    cases hch
  · rw [State.charge?_reset] at hch
    cases hch

theorem kilnSideOk_keptOffTheLine : KeptOffTheLine KilnSideOk where
  reset := kilnSideOk_reset
  alike ha hs hc h := by
    rw [kilnSideOk_iff] at h ⊢
    exact h.of_samePlace hs hc fun i => optionRel_imp (fun h => ⟨h.kiln, h.chamber⟩) (ha.2 i)
  create {s i _ _ _ _ _ _ _ _} h hi _ _ _ := by
    rw [kilnSideOk_iff] at h ⊢
    refine h.set_charge (List.getElem?_eq_some_iff.mp hi).1 (fun ch hch => ?_) fun ch hch => ?_
    · rw [State.charge?, hi] at hch
      cases hch
    · cases hch
      exact ⟨by simp [Charge.created], rfl⟩
  retire h hi hk := by
    rw [kilnSideOk_iff] at h ⊢
    refine h.set_charge (State.lt_of_charge? hi) (fun ch hch => ?_) fun ch hch => nomatch hch
    rw [hi, Option.some.injEq] at hch
    exact hch ▸ hk
  board {s i c mc cls} h hc ht _ := by
    rw [kilnSideOk_iff] at h ⊢
    refine h.of_samePlace rfl rfl fun j => ?_
    rw [State.charge?_modifyCharge]
    split
    · subst_vars
      rw [hc]
      exact .some (c.samePlace_addBoard ht mc cls)
    · exact optionRel_refl (fun c => ⟨Iff.rfl, rfl⟩) _
  define h h1 h2 h0 hr hl hs := by
    rw [kilnSideOk_iff] at h ⊢
    exact h.setSchedule h1 h2 h0 fun sc hsc => by cases hsc; exact ⟨hs, hl, hr, rfl⟩
  amend h hn hr ht := by
    rw [kilnSideOk_iff] at h ⊢
    exact h.amendStep hn hr ht
  delete {s n sc} h hn h0 := by
    rw [kilnSideOk_iff] at h ⊢
    obtain ⟨k, hk, rfl⟩ := nth1_lt (Option.join_eq_some_iff.mp hn)
    have : s.schedules.length = 32 := h.schedules
    refine h.setSchedule (by omega) (by omega) (fun sc' hsc' => ?_) fun sc hsc => nomatch hsc
    rw [hn, Option.some.injEq] at hsc'
    exact hsc' ▸ h0
  chambers h hl := by
    rw [kilnSideOk_iff] at h ⊢
    exact h.followed hl
  load h hn1 hn2 he hi hst hk := by
    rw [kilnSideOk_iff] at h ⊢
    exact h.load hn1 hn2 he hi hst hk
  unload h hc he hnext := by
    rw [kilnSideOk_iff] at h ⊢
    exact h.unload hc he hnext

/-- Settles O57: the changes of charges, schedules and chambers keep them in agreement, and every scan taken
is in range. -/
theorem everyStepKeepsTheKilnSideInAgreement : Obligations.EveryStepKeepsTheKilnSideInAgreement := by
  unfold Obligations.EveryStepKeepsTheKilnSideInAgreement
  exact fun _ _ hx => ⟨fun h => kilnSideOk_keptOffTheLine.keptByChanges.step h hx,
    fun h => scansOk_keptOffTheLine.keptByChanges.step h hx⟩

end Sys2Proof.Machine
end

section
/-! The references of the charges are kept by every step. -/

namespace Sys2Proof.Machine

/-! ## Counts over the queue and over the packs -/

/-- The queue with other decisions, or with entries taken out, is in order. -/
theorem QueueOk.withQueue {s : State} (h : QueueOk s) {k : List Entry}
    (hk : (k.map (fun e => (e.sequence, e.capture))).Sublist (s.tracker.queue.map (fun e => (e.sequence, e.capture)))) :
    QueueOk (s.withQueue k) := by
  obtain ⟨h1, h2, h3, h4⟩ := h
  refine ⟨?_, ?_, fun e he => ?_, h4⟩
  · have hl : k.length ≤ s.tracker.queue.length := by simpa using hk.length_le
    exact le_trans hl h1
  · have := (hk.map Prod.fst)
    simp only [List.map_map] at this
    exact h2.sublist this
  · obtain ⟨x, hx, hxe⟩ := List.mem_map.mp (hk.subset (List.mem_map_of_mem (f := fun e => (e.sequence, e.capture)) he))
    simp only [Prod.mk.injEq] at hxe
    obtain ⟨hs, hc⟩ := hxe
    exact hs ▸ hc ▸ h3 x hx

theorem QueueOk.queueAt {s : State} (h : QueueOk s) {e : Entry} (he : e ∈ s.tracker.queue) :
    ∃ l r, s.QueueAt l e r := by
  obtain ⟨l, r, hq⟩ := List.append_of_mem he
  obtain ⟨-, hd, -⟩ := h
  rw [hq, List.map_append, List.map_cons, List.nodup_middle, List.nodup_cons, ← List.map_append] at hd
  exact ⟨l, r, hq, fun x hx h => hd.1 (h ▸ List.mem_map_of_mem hx)⟩

/-- A decision written at a place of the queue (R97). -/
theorem State.setDecision_of_queueAt {s : State} {l r : List Entry} {e : Entry} (h : s.QueueAt l e r) (d : Decision) :
    s.setDecision e.sequence d = s.withQueue (l ++ { e with decision := some d } :: r) := by
  obtain ⟨hq, hne⟩ := h
  have key : ∀ m : List Entry, (∀ x ∈ m, x.sequence ≠ e.sequence) →
      m.map (fun x => if x.sequence = e.sequence then { x with decision := some d } else x) = m := by
    intro m hm
    conv_rhs => rw [← List.map_id m]
    exact List.map_congr_left fun x hx => if_neg (hm x hx)
  simp only [State.setDecision, State.withQueue, hq, List.map_append, List.map_cons, if_true,
    key l (fun x hx => hne x (by simp [hx])), key r (fun x hx => hne x (by simp [hx]))]

/-- How many packs satisfy a test after one record is replaced. -/
theorem State.packCount_set {s : State} {i : Nat} {o : Option Pack} (h : s.packs.records[i]? = some o)
    (o' : Option Pack) (q : Pack → Bool) :
    ({ s with packs := { s.packs with records := s.packs.records.set i o' } } : State).packCount q +
      (if o.any q then 1 else 0) = s.packCount q + if o'.any q then 1 else 0 :=
  countP_set1 (n := i + 1) h o' (fun o => o.any q)

theorem State.record_of_pack? {s : State} {i : Nat} {p : Pack} (h : s.pack? i = some p) :
    s.packs.records[i]? = some (some p) := Option.join_eq_some_iff.mp h

/-! ## The references, record by record -/

/-- The references of the charge in slot `i` count what names it (R15, R16). -/
structure Charge.RefsOf (s : State) (i : Nat) (c : Charge) : Prop where
  transit : c.transitRef = s.decidedCount (fun d => d.chargeSlot = some i)
  pack : c.packRef = s.packCount (fun p => p.charges.contains i)

/-- The charge set of a pack is of live charges, ascending, and empty before the first piece (R17). -/
structure Pack.SetOk (s : State) (p : Pack) : Prop where
  live : ∀ i ∈ p.charges, (s.charge? i).isSome = true
  ascending : p.charges.Pairwise (· < ·)
  blank : p.pieces = 0 → p.charges = []

/-- What the references say of each record by its slot (R15 to R17). -/
structure References (s : State) : Prop where
  queue : QueueOk s
  refs : ∀ i c, s.charge? i = some c → c.RefsOf s i
  entries : ∀ e ∈ s.tracker.queue, ∀ d, e.decision = some d → ∀ i, d.chargeSlot = some i → (s.charge? i).isSome = true
  packs : ∀ j p, s.pack? j = some p → p.SetOk s

theorem State.mem_livePacks {s : State} {p : Pack} : p ∈ s.packs.records.filterMap id ↔ ∃ j, s.pack? j = some p := by
  simp only [List.mem_filterMap, id, exists_eq_right, State.pack?, Option.join_eq_some_iff]
  exact List.mem_iff_getElem?

theorem referencesOk_iff (s : State) : ReferencesOk s ↔ References s := by
  constructor
  · rintro ⟨h1, h2, h3, h4⟩
    refine ⟨h1, fun i c hi => ?_, fun e he d hd i hi => ?_, fun j p hj => ?_⟩
    · have ⟨ht, hp⟩ := h2 i (State.lt_of_charge? hi) c (Option.mem_toList.mpr hi)
      exact ⟨ht, hp⟩
    · exact h3 e he d (Option.mem_toList.mpr hd) i (Option.mem_toList.mpr hi)
    · have ⟨hl, ha, hb⟩ := h4 p (State.mem_livePacks.mpr ⟨j, hj⟩)
      exact ⟨hl, ha, hb⟩
  · intro h
    refine ⟨h.queue, fun i _ c hc => ?_, fun e he d hd i hi => ?_, fun p hp => ?_⟩
    · have ⟨ht, hp⟩ := h.refs i c (Option.mem_toList.mp hc)
      exact ⟨ht, hp⟩
    · exact h.entries e he d (Option.mem_toList.mp hd) i (Option.mem_toList.mp hi)
    · obtain ⟨j, hj⟩ := State.mem_livePacks.mp hp
      have ⟨hl, ha, hb⟩ := h.packs j p hj
      exact ⟨hl, ha, hb⟩

theorem referencesOk_forcesDistinctEdges : ForcesDistinctEdges ReferencesOk := fun _ h => h.1.2.1

theorem isSome_of_rel {α β : Type} {R : α → β → Prop} {a : Option α} {b : Option β} (h : Option.Rel R a b)
    (ha : a.isSome = true) : b.isSome = true := by
  obtain ⟨x, rfl⟩ := Option.isSome_iff_exists.mp ha
  obtain ⟨y, rfl, -⟩ := optionRel_left h
  rfl

/-- The references follow the records: the live slots stay, the references are counted anew, and what the
queue and the packs name was live before. -/
theorem References.move {s t : State} (h : References s) (hq : QueueOk t)
    (hr : ∀ i, Option.Rel (fun c d => c.RefsOf s i → d.RefsOf t i) (s.charge? i) (t.charge? i))
    (he : ∀ e ∈ t.tracker.queue, ∀ d, e.decision = some d → ∀ i, d.chargeSlot = some i → (s.charge? i).isSome = true)
    (hp : ∀ j p, t.pack? j = some p → p.SetOk s) : References t := by
  refine ⟨hq, fun i d hd => ?_, fun e hm d hd i hi => isSome_of_rel (hr i) (he e hm d hd i hi), fun j p hj => ?_⟩
  · obtain ⟨c, hc, hcd⟩ := optionRel_right (hd ▸ hr i)
    exact hcd (h.refs i c hc)
  · obtain ⟨hl, ha, hb⟩ := hp j p hj
    exact ⟨fun i hi => isSome_of_rel (hr i) (hl i hi), ha, hb⟩

/-- The charges of a state in which one optional slot has changed, related one by one. -/
theorem optionRel_modifyChargeOf {s t : State} (ht : t.charges = s.charges) {R : Nat → Charge → Charge → Prop}
    {o : Option Nat} {f : Charge → Charge} (hf : ∀ j c, s.charge? j = some c → o = some j → R j c (f c))
    (hself : ∀ j c, s.charge? j = some c → o ≠ some j → R j c c) (j : Nat) :
    Option.Rel (R j) (s.charge? j) ((t.modifyChargeOf o f).charge? j) := by
  have hc : t.charge? j = s.charge? j := by rw [State.charge?, State.charge?, ht]
  have hmap : (t.modifyChargeOf o f).charge? j = (s.charge? j).map (fun c => if o = some j then f c else c) := by
    rcases o with _ | i
    · simp [hc]
    · rw [State.modifyChargeOf_some, State.charge?_modifyCharge, hc]
      by_cases hij : i = j <;> simp [hij]
  rw [hmap]
  refine optionRel_map _ fun c hjc => ?_
  split
  · exact hf j c hjc ‹_›
  · exact hself j c hjc ‹_›

/-! ## Changes that leave the references alone -/

/-- Two charges with the same references. -/
def Charge.SameRefs (c d : Charge) : Prop := d.transitRef = c.transitRef ∧ d.packRef = c.packRef

/-- Charges that keep their references, under the same queue and the same packs. -/
theorem References.of_sameRefs {s t : State} (h : References s)
    (hr : ∀ i, Option.Rel Charge.SameRefs (s.charge? i) (t.charge? i))
    (ht : QueueOk t ∧ t.tracker.queue = s.tracker.queue) (hp : t.packs.records = s.packs.records) : References t := by
  obtain ⟨hq, ht⟩ := ht
  refine h.move hq (fun i => optionRel_imp (fun hcd hc => ?_) (hr i)) (ht ▸ h.entries) fun j p hj => ?_
  · obtain ⟨h1, h2⟩ := hcd
    exact ⟨by simpa only [State.decidedCount, ht] using h1.trans hc.transit,
      by simpa only [State.packCount, hp] using h2.trans hc.pack⟩
  · exact h.packs j p (by rwa [State.pack?, ← hp])

theorem sameRefs_of_charges {s t : State} (h : t.charges = s.charges) (i : Nat) :
    Option.Rel Charge.SameRefs (s.charge? i) (t.charge? i) := by
  rw [State.charge?, State.charge?, h]
  exact optionRel_refl (fun _ => ⟨rfl, rfl⟩) _

theorem sameRefs_modifyChargeOf {s t : State} (ht : t.charges = s.charges) {o : Option Nat} {f : Charge → Charge}
    (hf : ∀ i c, s.charge? i = some c → o = some i → c.SameRefs (f c)) (j : Nat) :
    Option.Rel Charge.SameRefs (s.charge? j) ((t.modifyChargeOf o f).charge? j) :=
  optionRel_modifyChargeOf ht hf (fun _ _ _ _ => ⟨rfl, rfl⟩) j

/-- The queue's order rests on the tracker alone. -/
theorem QueueOk.congr {s t : State} (h : QueueOk s) (ht : t.tracker = s.tracker) : QueueOk t := by
  simpa only [QueueOk, ht] using h

theorem References.same {s t : State} (h : References s)
    (hr : ∀ i, Option.Rel Charge.SameRefs (s.charge? i) (t.charge? i))
    (ht : t.tracker = s.tracker := by rfl) (hp : t.packs.records = s.packs.records := by rfl) : References t :=
  h.of_sameRefs hr ⟨h.queue.congr ht, by rw [ht]⟩ hp

theorem Charge.sameRefs_addBoard (c : Charge) (mc : Option Nat) (cls : MClass) : c.SameRefs (c.addBoard mc cls) := by
  cases mc <;> exact ⟨rfl, rfl⟩

/-! ## Charges made and retired (R5, R10) -/

/-- No entry and no pack names the slot. -/
structure State.Unnamed (s : State) (i : Nat) : Prop where
  entries : s.decidedCount (fun d => d.chargeSlot = some i) = 0
  packs : s.packCount (fun p => p.charges.contains i) = 0

theorem State.Unnamed.entry {s : State} {i : Nat} (h : s.Unnamed i) {e : Entry} (he : e ∈ s.tracker.queue)
    {d : Decision} (hd : e.decision = some d) : d.chargeSlot ≠ some i := by
  intro hi
  have := List.countP_eq_zero.mp h.entries e he
  simp [hd, hi] at this

theorem State.Unnamed.pack {s : State} {i : Nat} (h : s.Unnamed i) {j : Nat} {p : Pack} (hp : s.pack? j = some p) :
    i ∉ p.charges := by
  intro hi
  have := List.countP_eq_zero.mp h.packs (some p) (List.mem_of_getElem? (State.record_of_pack? hp))
  simp [hi] at this

theorem References.unnamed_of_free {s : State} (h : References s) {i : Nat} (hi : s.charge? i = none) : s.Unnamed i where
  entries := by
    refine List.countP_eq_zero.mpr fun e he ha => ?_
    rw [Option.any_eq_true] at ha
    obtain ⟨d, hd, hs⟩ := ha
    have := h.entries e he d hd i (by simpa using hs)
    simp [hi] at this
  packs := by
    refine List.countP_eq_zero.mpr fun o ho ha => ?_
    rw [Option.any_eq_true] at ha
    obtain ⟨p, rfl, hs⟩ := ha
    obtain ⟨j, hj⟩ := List.mem_iff_getElem?.mp ho
    have := (h.packs j p (by rw [State.pack?, hj]; rfl)).live i (by simpa using hs)
    simp [hi] at this

theorem References.unnamed_of_refs {s : State} (h : References s) {i : Nat} {c : Charge} (hi : s.charge? i = some c)
    (ht : c.transitRef = 0) (hp : c.packRef = 0) : s.Unnamed i :=
  ⟨(h.refs i c hi).transit.symm.trans ht, (h.refs i c hi).pack.symm.trans hp⟩

/-- The record of an unnamed slot made, or given up. -/
theorem References.set_charge {s : State} (h : References s) {i : Nat} (hl : i < s.charges.length)
    (hu : s.Unnamed i) {o : Option Charge} (ho : ∀ c, o = some c → c.transitRef = 0 ∧ c.packRef = 0) :
    References { s with charges := s.charges.set i o } := by
  have hget (j : Nat) : ({ s with charges := s.charges.set i o } : State).charge? j = if i = j then o else s.charge? j :=
    join_set s.charges i j o hl
  refine ⟨h.queue, fun j c hc => ?_, fun e he d hd j hj => ?_, fun k p hp => ?_⟩
  · rw [hget] at hc
    split at hc
    · subst_vars
      obtain ⟨ht, hp⟩ := ho c rfl
      exact ⟨ht.trans hu.entries.symm, hp.trans hu.packs.symm⟩
    · have ⟨ht, hp⟩ := h.refs j c hc
      exact ⟨ht, hp⟩
  · rw [hget, if_neg (fun hij : i = j => hu.entry he hd (hij ▸ hj))]
    exact h.entries e he d hd j hj
  · have ⟨hlive, ha, hb⟩ := h.packs k p hp
    refine ⟨fun j hj => ?_, ha, hb⟩
    rw [hget, if_neg (fun hij : i = j => hu.pack hp (hij ▸ hj))]
    exact hlive j hj

/-! ## The transit queue (R97) -/

/-- An entry decided, decided anew or taken out: the references follow the count of the entries that name
each charge. -/
theorem References.requeue {s t : State} (h : References s) {k : List Entry} {o : Option Nat} {f : Charge → Charge}
    (ht : t = (s.modifyChargeOf o f).withQueue k)
    (hk : (k.map (fun e => (e.sequence, e.capture))).Sublist (s.tracker.queue.map (fun e => (e.sequence, e.capture))))
    (hf : ∀ j c, s.charge? j = some c → (if o = some j then f c else c).packRef = c.packRef ∧
      (c.RefsOf s j → (if o = some j then f c else c).transitRef =
        k.countP (fun e => e.decision.any (fun d => d.chargeSlot = some j))))
    (he : ∀ e ∈ k, ∀ d, e.decision = some d → ∀ i, d.chargeSlot = some i → (s.charge? i).isSome = true) :
    References t := by
  subst ht
  have hq : (((s.modifyChargeOf o f).withQueue k)).tracker = (s.withQueue k).tracker := by
    simp [State.withQueue]
  have hpk : (((s.modifyChargeOf o f).withQueue k)).packs = s.packs := by
    cases o <;> rfl
  refine h.move ((h.queue.withQueue hk).congr hq)
    (optionRel_modifyChargeOf (t := s) rfl (R := fun j c d => c.RefsOf s j → d.RefsOf _ j)
      (fun j c hc hj hr => ?_) fun j c hc hj hr => ?_) he fun j p hj => h.packs j p (by rwa [State.pack?, ← hpk])
  · have := hf j c hc
    rw [if_pos hj] at this
    exact ⟨this.2 hr, by rw [this.1, State.packCount, hpk]; exact hr.pack⟩
  · have := hf j c hc
    rw [if_neg hj] at this
    exact ⟨this.2 hr, by rw [State.packCount, hpk]; exact hr.pack⟩

end Sys2Proof.Machine
end

section
/-! The references of the charges through every change of the records. -/

namespace Sys2Proof.Machine

theorem State.QueueAt.filter_eq {s : State} {l r : List Entry} {e : Entry} (h : s.QueueAt l e r) :
    s.tracker.queue.filter (fun x => x.sequence ≠ e.sequence) = l ++ r := by
  obtain ⟨hq, hne⟩ := h
  have key (m : List Entry) (hm : ∀ x ∈ m, x.sequence ≠ e.sequence) :
      m.filter (fun x => x.sequence ≠ e.sequence) = m :=
    List.filter_eq_self.mpr fun x hx => by simpa using hm x hx
  rw [hq, List.filter_append, List.filter_cons_of_neg (by simp), key l fun x hx => hne x (by simp [hx]),
    key r fun x hx => hne x (by simp [hx])]

/-- An entry waiting for its message is decided (R97, R105). -/
theorem References.decide {s : State} (h : References s) {e : Entry} {d : Decision} (hw : s.Waits e)
    (hd : ∀ i, d.chargeSlot = some i → (s.charge? i).isSome = true) :
    References ((s.modifyChargeOf d.chargeSlot (fun c => { c with transitRef := c.transitRef + 1 })).setDecision
      e.sequence d) := by
  obtain ⟨hm, hnone⟩ := hw
  obtain ⟨l, r, hq⟩ := h.queue.queueAt hm
  have hqt : (s.modifyChargeOf d.chargeSlot (fun c => { c with transitRef := c.transitRef + 1 })).QueueAt l e r := by
    simpa [State.QueueAt] using hq
  refine h.requeue (State.setDecision_of_queueAt hqt d) (by simp [hq.1]) (fun j c hc => ?_) fun x hx d' hd' i hi => ?_
  · refine ⟨by split <;> rfl, fun hr => ?_⟩
    have ht := hr.transit
    simp only [State.decidedCount, hq.1, List.countP_append, List.countP_cons, hnone, Option.any_none, Bool.false_eq_true, if_false] at ht
    simp only [List.countP_append, List.countP_cons, Option.any_some, decide_eq_true_eq]
    split <;> simp <;> omega
  · simp only [List.mem_append, List.mem_cons] at hx
    rcases hx with hx | rfl | hx
    · exact h.entries x (by simp [hq.1, hx]) d' hd' i hi
    · cases hd'
      exact hd i hi
    · exact h.entries x (by simp [hq.1, hx]) d' hd' i hi

/-- A decided entry is decided anew for the same charge. -/
theorem References.redecide {s : State} (h : References s) {e : Entry} {d d' : Decision} (hm : e ∈ s.tracker.queue)
    (hd : e.decision = some d) (hs : d'.chargeSlot = d.chargeSlot) : References (s.setDecision e.sequence d') := by
  obtain ⟨l, r, hq⟩ := h.queue.queueAt hm
  refine h.requeue (o := none) (f := id) (State.setDecision_of_queueAt hq d') (by simp [hq.1]) (fun j c hc => ?_)
    fun x hx d'' hd'' i hi => ?_
  · refine ⟨rfl, fun hr => ?_⟩
    have ht := hr.transit
    simp only [State.decidedCount, hq.1, List.countP_append, List.countP_cons, hd, Option.any_some] at ht
    simpa only [List.countP_append, List.countP_cons, Option.any_some, hs, reduceCtorEq, if_false] using ht
  · simp only [List.mem_append, List.mem_cons] at hx
    rcases hx with hx | rfl | hx
    · exact h.entries x (by simp [hq.1, hx]) d'' hd'' i hi
    · cases hd''
      exact h.entries e hm d hd i (hs ▸ hi)
    · exact h.entries x (by simp [hq.1, hx]) d'' hd'' i hi

/-- An entry leaves, and its charge has one reference less (R16). -/
theorem References.leave {s : State} (h : References s) {e : Entry} (hm : e ∈ s.tracker.queue) :
    References ((s.modifyChargeOf (e.decision.bind (·.chargeSlot)) (fun c => { c with transitRef := c.transitRef - 1 })).withQueue
      (s.tracker.queue.filter (fun x => x.sequence ≠ e.sequence))) := by
  obtain ⟨l, r, hq⟩ := h.queue.queueAt hm
  rw [State.QueueAt.filter_eq hq]
  refine h.requeue rfl (by simp [hq.1]) (fun j c hc => ?_) fun x hx d hd i hi => ?_
  · refine ⟨by split <;> rfl, fun hr => ?_⟩
    have ht := hr.transit
    have hany : e.decision.any (fun d => d.chargeSlot = some j) = true ↔ e.decision.bind (·.chargeSlot) = some j := by
      cases e.decision <;> simp
    simp only [State.decidedCount, hq.1, List.countP_append, List.countP_cons, hany] at ht
    rw [List.countP_append]
    split at ht
    · rw [if_pos ‹_›]
      simp only
      omega
    · rw [if_neg ‹_›]
      omega
  · exact h.entries x (by rw [hq.1]; simp only [List.mem_append, List.mem_cons] at hx ⊢; tauto) d hd i hi

/-- A queue that one undecided entry enters at the tail (R97). -/
theorem References.enter {s : State} (h : References s) {q : Nat} (hl : s.tracker.queue.length < Config.transitPlaces)
    (hq : q < 256) (hne : ∀ e ∈ s.tracker.queue, e.sequence ≠ q) :
    References (s.withQueue (s.tracker.queue ++ [⟨q, s.tracker.position, none⟩])) := by
  obtain ⟨h1, h2, h3, h4, h5⟩ := h.queue
  have hok : QueueOk (s.withQueue (s.tracker.queue ++ [⟨q, s.tracker.position, none⟩])) := by
    refine ⟨?_, ?_, fun e he => ?_, h4, h5⟩
    · simpa [State.withQueue] using hl
    · simp only [State.withQueue, List.map_append, List.map_cons, List.map_nil, List.nodup_append]
      refine ⟨h2, by simp, fun a ha b hb => ?_⟩
      obtain ⟨e, he, rfl⟩ := List.mem_map.mp ha
      simp only [List.mem_singleton] at hb
      exact hb ▸ hne e he
    · simp only [State.withQueue, List.mem_append, List.mem_singleton] at he
      rcases he with he | rfl
      · exact h3 e he
      · exact ⟨hq, h4⟩
  have hrefs (i : Nat) (c : Charge) (hc : c.RefsOf s i) :
      c.RefsOf (s.withQueue (s.tracker.queue ++ [⟨q, s.tracker.position, none⟩])) i :=
    ⟨by simpa [State.decidedCount, State.withQueue] using hc.transit, hc.pack⟩
  refine h.move hok (fun i => optionRel_refl (hrefs i) _) (fun e he d hd => ?_) h.packs
  · simp only [State.withQueue, List.mem_append, List.mem_singleton] at he
    rcases he with he | rfl
    · exact h.entries e he d hd
    · cases hd

/-! ## Packs (R131 to R147) -/

theorem Pack.addPiece_charges (p : Pack) (dims : Dimensions) (d : Decision) (q : Bool) :
    (p.addPiece dims d q).charges = d.chargeSlot.elim p.charges (fun c => insertAsc c p.charges) := by
  unfold Pack.addPiece Pack.addMoisture
  cases d.mc <;> rfl

theorem Pack.addPiece_pieces (p : Pack) (dims : Dimensions) (d : Decision) (q : Bool) :
    (p.addPiece dims d q).pieces = p.pieces + 1 := by
  unfold Pack.addPiece Pack.addMoisture
  cases d.mc <;> rfl

/-- The charge in slot `j` when a pack record `o` becomes `o'`: it has a pack reference less where the old one
named it, and one more where the new one does (R16). -/
structure Charge.Repacked (s : State) (o o' : Option Pack) (j : Nat) (c d : Charge) : Prop where
  transit : d.transitRef = c.transitRef
  pack : c.RefsOf s j → d.packRef + (if o.any (fun p => p.charges.contains j) then 1 else 0) =
    c.packRef + if o'.any (fun p => p.charges.contains j) then 1 else 0

/-- One pack record replaced, with the charges whose references that changes: each counts the packs that
name it, and the new record's charges are live. -/
theorem References.repack {s t : State} (h : References s) {i : Nat} {o o' : Option Pack}
    (hi : s.packs.records[i]? = some o) (hq : t.tracker = s.tracker) (hp : t.packs.records = s.packs.records.set i o')
    (hc : ∀ j, Option.Rel (Charge.Repacked s o o' j) (s.charge? j) (t.charge? j))
    (ho : ∀ p, o' = some p → p.SetOk s) : References t := by
  refine h.move (h.queue.congr hq) (fun j => optionRel_imp (fun hcd hr => ?_) (hc j)) (hq ▸ h.entries) fun j p hj => ?_
  · obtain ⟨h1, h2⟩ := hcd
    have hcount := State.packCount_set hi o' (fun p => p.charges.contains j)
    have h2 := h2 hr
    have h3 := hr.pack
    refine ⟨by simpa only [State.decidedCount, hq] using h1.trans hr.transit, ?_⟩
    rw [State.packCount, hp]
    rw [State.packCount] at hcount
    dsimp only at hcount
    omega
  · rw [State.pack?, hp, join_set _ _ _ _ (List.getElem?_eq_some_iff.mp hi).1] at hj
    split at hj
    · exact ho p hj
    · exact h.packs j p hj

/-- A record of the same charge set, or of none where the set is empty, changes no reference. -/
theorem References.repack_same {s t : State} (h : References s) {i : Nat} {o o' : Option Pack}
    (hi : s.packs.records[i]? = some o) (hq : t.tracker = s.tracker) (hp : t.packs.records = s.packs.records.set i o')
    (hc : t.charges = s.charges) (hs : (o'.elim [] (·.charges)) = o.elim [] (·.charges))
    (ho : ∀ p, o' = some p → p.SetOk s) : References t := by
  have hany (o : Option Pack) (j : Nat) : o.any (fun p => p.charges.contains j) = (o.elim [] (·.charges)).contains j := by
    cases o <;> rfl
  refine h.repack hi hq hp (fun j => ?_) ho
  rw [State.charge?, State.charge?, hc]
  exact optionRel_refl (fun c => ⟨rfl, fun _ => by rw [hany, hany, hs]⟩) _

/-- An absent pack is not changed. -/
theorem State.modifyPack_of_none {s : State} {i : Nat} (h : s.pack? i = none) (f : Pack → Pack) :
    s.modifyPack i f = s := by
  have key : s.packs.records.modify i (Option.map f) = s.packs.records := by
    refine List.ext_getElem? fun j => ?_
    rw [List.getElem?_modify]
    split
    · rename_i hij
      rw [State.pack?, hij] at h
      rcases hx : s.packs.records[j]? with _ | _ | p
      · rfl
      · rfl
      · rw [hx] at h
        cases h
    · simp
  rw [State.modifyPack, key]

theorem References.relabel {s : State} (h : References s) {i : Nat} {f : Pack → Pack}
    (hf : ∀ p, (f p).charges = p.charges ∧ (f p).pieces = p.pieces) : References (s.modifyPack i f) := by
  rcases hp : s.pack? i with _ | p
  · rwa [State.modifyPack_of_none hp]
  · obtain ⟨hc, hn⟩ := hf p
    obtain ⟨hl, ha, hb⟩ := h.packs i p hp
    rw [State.modifyPack_eq_withPack hp]
    refine h.repack_same (State.record_of_pack? hp) rfl rfl rfl hc fun p' hp' => ?_
    cases hp'
    exact ⟨hc ▸ hl, hc ▸ ha, fun h0 => hc.trans (hb (hn ▸ h0))⟩

/-- The first pieces a pack takes of a charge are the ones that raise its pack references (R16). -/
theorem Pack.freshCharge_eq_some {p : Pack} {d : Decision} {j : Nat} :
    p.freshCharge d = some j ↔ d.chargeSlot = some j ∧ j ∉ p.charges := by
  simp [Pack.freshCharge, Option.filter_eq_some_iff]

theorem Pack.mem_addPiece_charges {p : Pack} {dims : Dimensions} {d : Decision} {q : Bool} {j : Nat} :
    j ∈ (p.addPiece dims d q).charges ↔ j ∈ p.charges ∨ d.chargeSlot = some j := by
  rw [p.addPiece_charges]
  rcases d.chargeSlot with _ | c
  · simp
  · simp [mem_insertAsc, or_comm, eq_comm]

theorem References.piece {s : State} (h : References s) {i : Nat} {p : Pack} {e : Entry} {d : Decision} {q : Bool}
    (hp : s.pack? i = some p) (he : e ∈ s.tracker.queue) (hd : e.decision = some d) :
    References ((s.modifyPack i (fun p => p.addPiece s.tracker.dimensions d q)).modifyChargeOf (p.freshCharge d)
      (fun c => { c with packRef := c.packRef + 1 })) := by
  obtain ⟨hl, ha, -⟩ := h.packs i p hp
  rw [State.modifyPack_eq_withPack hp]
  refine h.repack (State.record_of_pack? hp) (by simp) (o' := some (p.addPiece s.tracker.dimensions d q))
    (by cases p.freshCharge d <;> rfl) (fun j => ?_) fun p' hp' => ?_
  · refine optionRel_modifyChargeOf (by exact rfl) (fun j c _ hj => ⟨rfl, fun _ => ?_⟩)
      (fun j c _ hj => ⟨rfl, fun _ => ?_⟩) j
    · have hj := Pack.freshCharge_eq_some.mp hj
      simp [Pack.mem_addPiece_charges, hj]
    · have hj : j ∈ p.charges ∨ d.chargeSlot = some j ↔ j ∈ p.charges := by
        rw [ne_eq, Pack.freshCharge_eq_some] at hj
        tauto
      simp [Pack.mem_addPiece_charges, hj]
  · cases hp'
    refine ⟨fun j hj => ?_, ?_, fun h0 => ?_⟩
    · rcases Pack.mem_addPiece_charges.mp hj with hj | hj
      · exact hl j hj
      · exact h.entries e he d hd j hj
    · rw [p.addPiece_charges]
      rcases d.chargeSlot with _ | c
      · exact ha
      · exact pairwise_insertAsc c _ ha
    · rw [p.addPiece_pieces] at h0
      cases h0

theorem State.charge?_lowerPackRefs {l : List Nat} (hl : l.Nodup) (s : State) (j : Nat) :
    (s.lowerPackRefs l).charge? j =
      (s.charge? j).map (fun c => if j ∈ l then { c with packRef := c.packRef - 1 } else c) := by
  induction l generalizing s with
  | nil => simp [State.lowerPackRefs]
  | cons i l ih =>
    obtain ⟨hi, hl⟩ := List.nodup_cons.mp hl
    rw [State.lowerPackRefs, List.foldl_cons, ← State.lowerPackRefs, ih hl, State.charge?_modifyCharge]
    by_cases hij : i = j
    · subst hij
      simp [hi, Function.comp_def]
    · simp [hij, Ne.symm hij]

theorem State.lowerPackRefs_apart (s : State) (l : List Nat) :
    (s.lowerPackRefs l).tracker = s.tracker ∧ (s.lowerPackRefs l).packs = s.packs := by
  unfold State.lowerPackRefs
  induction l generalizing s with
  | nil => exact ⟨rfl, rfl⟩
  | cons i l ih => exact ih _

theorem References.retirePack {s : State} (h : References s) {i : Nat} {p : Pack} (hp : s.pack? i = some p) :
    References ((s.lowerPackRefs p.charges).freePack i) := by
  obtain ⟨hl, ha, -⟩ := h.packs i p hp
  obtain ⟨ht, hpk⟩ := s.lowerPackRefs_apart p.charges
  refine h.repack (State.record_of_pack? hp) ht (o' := none) (by simp [State.freePack, hpk]) (fun j => ?_)
    fun p' hp' => nomatch hp'
  have hc : ((s.lowerPackRefs p.charges).freePack i).charge? j = (s.lowerPackRefs p.charges).charge? j := rfl
  rw [hc, State.charge?_lowerPackRefs (ha.imp fun h => Nat.ne_of_lt h)]
  refine optionRel_map _ fun c hj => ⟨by split <;> rfl, fun hr => ?_⟩
  by_cases hm : j ∈ p.charges
  · have hpos : 0 < c.packRef := by
      rw [hr.pack]
      exact List.countP_pos_iff.mpr ⟨some p, List.mem_of_getElem? (State.record_of_pack? hp), by simpa using hm⟩
    simp [hm]
    omega
  · simp [hm]

/-! ## Every step -/

@[simp] theorem State.modifyRefCount_tracker (s : State) (n : Nat) (f : Nat → Nat) :
    (s.modifyRefCount n f).tracker = s.tracker := by
  unfold State.modifyRefCount; split <;> rfl

@[simp] theorem State.modifyRefCount_packs (s : State) (n : Nat) (f : Nat → Nat) :
    (s.modifyRefCount n f).packs = s.packs := by
  unfold State.modifyRefCount; split <;> rfl

@[simp] theorem State.modifyChargeOf_packs (s : State) (o : Option Nat) (f : Charge → Charge) :
    (s.modifyChargeOf o f).packs = s.packs := by
  cases o <;> rfl

theorem State.pack?_reset (i : Nat) : State.reset.pack? i = none := by
  simp only [State.pack?, State.reset, PackTable.reset, List.getElem?_replicate]
  split <;> rfl

theorem referencesOk_reset : ReferencesOk State.reset := by
  rw [referencesOk_iff]
  refine ⟨by simp [QueueOk, State.reset, Tracker.reset], fun i c hi => ?_, fun e he => ?_, fun j p hj => ?_⟩
  · rw [State.charge?_reset] at hi
    cases hi
  · cases he
  · rw [State.pack?_reset] at hj
    cases hj

theorem referencesOk_keptByChanges : KeptByChanges ReferencesOk where
  reset := referencesOk_reset
  congr {s t} hrec h := by
    simp only [State.records, Prod.mk.injEq] at hrec
    obtain ⟨hc, -, -, ht, hp⟩ := hrec
    rw [referencesOk_iff] at h ⊢
    exact h.same (sameRefs_of_charges hc.symm) ht.symm hp.symm
  create {s i _ _ _ _ _ _ _ _} h hi _ _ _ := by
    rw [referencesOk_iff] at h ⊢
    refine h.set_charge (List.getElem?_eq_some_iff.mp hi).1 (h.unnamed_of_free (by rw [State.charge?, hi]; rfl)) fun c hc => ?_
    cases hc
    exact ⟨rfl, rfl⟩
  retire h hc _ ht hp := by
    rw [referencesOk_iff] at h ⊢
    exact h.set_charge (State.lt_of_charge? hc) (h.unnamed_of_refs hc ht hp) fun c hc => nomatch hc
  adjust {s i f} h hf := by
    rw [referencesOk_iff] at h ⊢
    refine h.same (sameRefs_modifyChargeOf (t := s) (o := some i) rfl fun j c hc hj => ?_)
    cases hj
    exact ⟨(hf c hc).transitRef, (hf c hc).packRef⟩
  board {s i c mc cls} h hc _ _ := by
    rw [referencesOk_iff] at h ⊢
    refine h.same (sameRefs_modifyChargeOf (t := s) (o := some i) rfl fun j c' hc' hj => ?_)
    cases hj
    rw [hc, Option.some.injEq] at hc'
    exact hc' ▸ c.sameRefs_addBoard mc cls
  define h _ _ _ _ _ _ := by
    rw [referencesOk_iff] at h ⊢
    exact h.same (sameRefs_of_charges rfl)
  amend h _ _ _ := by
    rw [referencesOk_iff] at h ⊢
    exact h.same (sameRefs_of_charges rfl)
  delete h _ _ := by
    rw [referencesOk_iff] at h ⊢
    exact h.same (sameRefs_of_charges rfl)
  chambers h _ := by
    rw [referencesOk_iff] at h ⊢
    exact h.same (sameRefs_of_charges rfl)
  load {s n i k _ _} h _ _ _ _ _ _ := by
    rw [referencesOk_iff] at h ⊢
    exact h.same (sameRefs_modifyChargeOf (o := some i) (by simp [State.setChamber]) fun _ _ _ _ => ⟨rfl, rfl⟩)
      (State.modifyRefCount_tracker _ _ _) (by simp [State.setChamber])
  unload {s n c next} h _ _ _ := by
    rw [referencesOk_iff] at h ⊢
    exact h.same (sameRefs_modifyChargeOf (by simp [State.setChamber]) fun _ _ _ _ => ⟨rfl, rfl⟩)
      (by simp [State.setChamber]) (by simp [State.setChamber])
  tracker {s k} h hq hp he := by
    rw [referencesOk_iff] at h ⊢
    refine h.of_sameRefs (sameRefs_of_charges rfl) ⟨?_, hq⟩ rfl
    obtain ⟨h1, h2, h3, h4, h5⟩ := h.queue
    exact ⟨by rwa [hq], by rwa [hq], by rwa [hq], hp.elim (fun hp => hp ▸ h4) id, he.elim (fun he => he ▸ h5) id⟩
  enter h hl hq hne := by
    rw [referencesOk_iff] at h ⊢
    exact h.enter hl hq hne
  decide h hw hd := by
    rw [referencesOk_iff] at h ⊢
    exact h.decide (hw referencesOk_forcesDistinctEdges) hd
  redecide h he hd hs := by
    rw [referencesOk_iff] at h ⊢
    exact h.redecide (State.mem_of_entry? he).1 hd hs
  leave h he hl := by
    rw [referencesOk_iff] at h ⊢
    rw [hl referencesOk_forcesDistinctEdges]
    exact h.leave (State.mem_of_entry? he).1
  relabel h hf := by
    rw [referencesOk_iff] at h ⊢
    exact h.relabel hf
  allocate h hi hc := by
    rw [referencesOk_iff] at h ⊢
    refine h.repack_same hi rfl rfl rfl hc fun p hp => ?_
    cases hp
    exact ⟨by simp [hc], by simp [hc], fun _ => hc⟩
  discard {s i p} h hi h0 := by
    rw [referencesOk_iff] at h ⊢
    exact h.repack_same (State.record_of_pack? hi) rfl (o' := none) rfl rfl ((h.packs i p hi).blank h0).symm fun p hp => nomatch hp
  piece h hi he hd := by
    rw [referencesOk_iff] at h ⊢
    exact h.piece hi he hd
  retirePack h hi := by
    rw [referencesOk_iff] at h ⊢
    exact h.retirePack hi

/-- Settles O58: every change of the records moves the references together with what names the charges. -/
theorem everyStepKeepsTheChargeReferences : Obligations.EveryStepKeepsTheChargeReferences := by
  unfold Obligations.EveryStepKeepsTheChargeReferences
  exact fun _ _ h hx => referencesOk_keptByChanges.step h hx

end Sys2Proof.Machine
end

section
/-! The state after power-on, and the invariants that it meets. -/

namespace Sys2Proof.Machine

/-! ## What the reset state holds -/

theorem State.packIs_reset (i : Nat) (st : PackState) : State.reset.packIs i st = false := by
  simp [State.packIs, State.pack?_reset]

theorem State.reset_queue : State.reset.tracker.queue = [] := rfl

theorem queueOk_reset : QueueOk State.reset := referencesOk_reset.1

theorem currentPacksOk_reset : CurrentPacksOk State.reset := by
  refine ⟨rfl, rfl, fun b _ slot h => ?_, fun slot _ p h => ?_⟩
  · have hb : State.reset.currentPack b = none := by
      simp only [State.currentPack, State.reset, PackTable.reset, List.getElem?_replicate]
      split <;> rfl
    simp [hb] at h
  · simp [State.pack?_reset] at h

theorem transitOk_reset : TransitOk State.reset := by
  have hg : State.reset.tracker.geometry.Ok := by
    simp [Geometry.Ok, State.reset, Tracker.reset]
  exact ⟨hg, by decide, by simp [State.reset_queue], by simp [State.reset_queue], by simp [State.reset_queue]⟩

theorem awaitingAtTail_reset : AwaitingAtTail State.reset := by simp [AwaitingAtTail, State.reset_queue]

theorem waitingSequencesRise_reset : WaitingSequencesRise State.reset := by
  simp [WaitingSequencesRise, State.waiting, State.reset_queue]

/-- The plan that decides boards after power-on (R114). -/
theorem Plan.default_ok : Plan.default.Ok := ⟨by decide, rfl, rfl, nofun, Nat.le_refl 0, nofun⟩

theorem sorterOk_reset : SorterOk State.reset := by
  have h0 : State.reset.sorter.slot0.Ok :=
    ⟨fun pl h => Option.mem_some.mp (Option.mem_toList.mp h) ▸ Plan.default_ok, fun _ => rfl, fun _ => rfl, nofun⟩
  have h1 : State.reset.sorter.slot1.Ok := ⟨nofun, fun h => absurd rfl h, fun _ => rfl, nofun⟩
  exact ⟨by decide, h0, h1, rfl, rfl, rfl, by decide, by simp [State.reset_queue]⟩

theorem packsOk_reset : PacksOk State.reset := by
  have hplans : ∀ pl ∈ State.reset.sorter.slot0.plan.toList ++ State.reset.sorter.slot1.plan.toList, pl.Ok :=
    fun pl h => List.mem_singleton.mp h ▸ Plan.default_ok
  refine ⟨queueOk_reset, currentPacksOk_reset, hplans, fun slot _ p h => ?_, by simp [State.reset_queue], ?_, by decide, by decide⟩
  · simp [State.pack?_reset] at h
  · simp [State.reset, PackTable.reset]

theorem frameOk_reset : FrameOk State.reset Frame.reset := by
  refine ⟨fun _ => rfl, nofun, nofun, rfl, by decide⟩

theorem labelsOk_reset : LabelsOk State.reset := by
  refine ⟨currentPacksOk_reset, .nil, .nil, nofun, fun slot _ h => ?_, frameOk_reset, frameOk_reset, nofun, by decide,
    nofun, fun slot _ h => ?_, by decide, by decide, by decide, by decide, by decide, rfl, by decide, by decide⟩
  · simp [State.packIs_reset] at h
  · simp [State.packIs_reset] at h

theorem templatesOk_reset : TemplatesOk State.reset := by
  refine ⟨rfl, fun l hl => ?_, nofun⟩
  obtain rfl : l = [] := (List.mem_replicate.mp hl).2
  simp

theorem attentionOk_reset : AttentionOk State.reset := by
  intro c _
  have hc : State.reset.attention.get c = .reset := by cases c <;> rfl
  rw [hc]
  exact ⟨fun _ => ⟨rfl, rfl⟩, nofun⟩

/-- Settles O54, one invariant at a time; most of the tables are empty. -/
theorem resetMeetsEveryInvariant : Obligations.ResetMeetsEveryInvariant := by
  unfold Obligations.ResetMeetsEveryInvariant
  exact ⟨chargesOk_reset, queueOk_reset, transitOk_reset, awaitingAtTail_reset, waitingSequencesRise_reset, sorterOk_reset, kilnSideOk_reset,
    scansOk_keptOffTheLine.reset, referencesOk_reset, packsOk_reset, labelsOk_reset, templatesOk_reset,
    attentionOk_reset⟩

/-- Settles O3: power-on gives the reset state with the commands that wait. -/
theorem powerOnLeavesTheSpecifiedValues : Obligations.PowerOnLeavesTheSpecifiedValues := by
  unfold Obligations.PowerOnLeavesTheSpecifiedValues
  intro s
  refine ⟨{ State.reset with pending := s.pending }, rfl, rfl, rfl, rfl, rfl, ⟨rfl, fun c hc => ?_⟩, rfl, rfl, rfl, rfl,
    ⟨rfl, rfl, rfl, rfl, rfl, rfl, rfl, rfl, rfl, rfl, rfl⟩, fun k => ?_, rfl, rfl, rfl, rfl⟩
  · obtain rfl : c = .reset := (List.mem_replicate.mp hc).2
    exact ⟨rfl, rfl, rfl, rfl, rfl, rfl, rfl, rfl, rfl, rfl⟩
  · cases k <;> rfl

end Sys2Proof.Machine
end

section
/-! The answers of the charge requests: what the fields of a payload read, what the lookup of a charge finds,
and what its owner answers. -/

namespace Sys2Proof.Machine

/-! ## The fields of a payload (R181) -/

/-- Bytes before a field are passed over. -/
@[simp] theorem field_append_of_le {l r : List Byte} {pos w : Nat} (h : l.length ≤ pos) :
    field (l ++ r) pos w = field r (pos - l.length) w := by
  rw [field, List.drop_append, List.drop_eq_nil_of_le h, List.nil_append, field]

@[simp] theorem field_bytes_append (w n : Nat) (r : List Byte) : field (bytes w n ++ r) 0 w = n % 256 ^ w := by
  rw [field, List.drop_zero, List.take_left' (length_bytes w n), beNat_bytes]

@[simp] theorem field_bytes_zero (w n : Nat) : field (bytes w n) 0 w = n % 256 ^ w := by
  simpa using field_bytes_append w n []

/-! ## What an owner's reply makes of a request (R174, R179) -/

section Owner
variable {request : Byte → List Byte → Instr} {code : Byte} {owner : List Byte → State → Reply} {p : List Byte}
  {s : State}

/-- The request reaches its owner with the state as it stands. -/
def Reaches (request : Byte → List Byte → Instr) (code : Byte) (owner : List Byte → State → Reply) (s : State) : Prop :=
  ∀ d bs, exec (request d bs) s = .next (s.request code owner d bs)

theorem Reaches.answers (h : Reaches request code owner s) (hr : s.linkReady = true) (hp : p.length ≤ 250)
    {a : List Byte} {t : State} (ho : owner p s = .ok a t) : Answers request code p s .ok a t := by
  intro pad
  rw [h, State.request_ready hr code owner p pad hp, ho]

theorem Reaches.refused (h : Reaches request code owner s) (hr : s.linkReady = true) (hp : p.length ≤ 250)
    {st : Status} (ho : owner p s = .refuse st) : Refused request code p s st := by
  intro pad
  rw [h, State.request_ready hr code owner p pad hp, ho]

end Owner

/-! ## The lookup of a charge (R2) -/

theorem State.findCharge_of_onlyCharge {s : State} {n i : Nat} {c : Charge} (h : s.OnlyCharge n i c) :
    s.findCharge n = some (i, c) := by
  obtain ⟨hi, hn, hu⟩ := h
  rcases hf : s.findCharge n with _ | ⟨j, d⟩
  · have := findLive_none.mp hf c (List.mem_of_getElem? (Option.join_eq_some_iff.mp hi))
    simp [hn] at this
  · obtain ⟨hj, hd⟩ := State.charge?_of_findCharge hf
    obtain rfl := hu j d hj hd
    rw [hi, Option.some.injEq] at hj
    rw [hj]

theorem State.findCharge_of_noCharge {s : State} {n : Nat} (h : s.NoCharge n) : s.findCharge n = none := by
  rcases hf : s.findCharge n with _ | ⟨j, d⟩
  · rfl
  · obtain ⟨hj, hd⟩ := State.charge?_of_findCharge hf
    exact absurd hd (h j d hj)

theorem State.findCharge_isSome {s : State} {n i : Nat} {c : Charge} (hi : s.charge? i = some c) (hn : c.number = n) :
    (s.findCharge n).isSome = true := by
  by_contra hf
  exact State.noCharge_of_findCharge (by simpa using hf) i c hi hn

theorem freeSlot_of_lowestFree {α : Type} {l : List (Option α)} {i : Nat} (h : LowestFree l i) :
    freeSlot 0 l = some i := by
  obtain ⟨hi, hlow⟩ := h
  rcases hf : freeSlot 0 l with _ | j
  · exact absurd rfl (freeSlot_none.mp hf none (List.mem_of_getElem? hi))
  · obtain ⟨-, hj, hlow'⟩ := freeSlot_some hf
    rw [Nat.sub_zero] at hj hlow'
    rcases Nat.lt_trichotomy i j with hij | rfl | hij
    · obtain ⟨a, ha⟩ := hlow' i hij
      simp [hi] at ha
    · rfl
    · obtain ⟨a, ha⟩ := hlow j hij
      simp [hj] at ha

theorem limitsOk_iff {d t w : Nat} : limitsOk d t w = true ↔ d < t ∧ t < w ∧ w ≤ 600 := by
  simp [limitsOk, and_assoc]

theorem quarantineOk_iff {qmin qp : Nat} : quarantineOk qmin qp = true ↔ 20 ≤ qmin ∧ qmin ≤ 1000 ∧ qp ≤ 1000 := by
  simp [quarantineOk, and_assoc]

/-! ## CHARGE_CREATE (R5) -/

/-- The first 11 bytes of CHARGE_CREATE. -/
def createShort (number species d t w loaded : Nat) : List Byte :=
  bytes 2 number ++ bytes 1 species ++ bytes 2 d ++ bytes 2 t ++ bytes 2 w ++ bytes 2 loaded

/-- CHARGE_CREATE on the values that its payload carries. -/
def State.createCharge (s : State) (number species d t w loaded qmin qp : Nat) : Reply :=
  if number = 0 ∨ 15 < species ∨ limitsOk d t w = false ∨ quarantineOk qmin qp = false then .refuse .badField
  else if (s.findCharge number).isSome then .refuse .duplicate
  else match freeSlot 0 s.charges with
    | none => .refuse .full
    | some i => .ok (bytes 1 i) (s.withCharge i (.created number species d t w loaded qmin qp))

section Create
variable {s : State} {number species d t w loaded qmin qp : Nat}

theorem chargeCreate_short (hn : number ≤ 65535) (hs : species ≤ 255) (h : ∀ x ∈ [d, t, w, loaded], x ≤ 65535) :
    chargeCreate (createShort number species d t w loaded) s = s.createCharge number species d t w loaded 50 1000 := by
  simp only [List.forall_mem_cons] at h
  obtain ⟨hd, ht, hw, hl, -⟩ := h
  have hm (x : Nat) (hx : x ≤ 65535) : x % 65536 = x := by omega
  have hm' : species % 256 = species := by omega
  simp [chargeCreate, createShort, State.createCharge, hm, hm', hn, hd, ht, hw, hl]
  rfl

theorem chargeCreate_long (hn : number ≤ 65535) (hs : species ≤ 255) (h : ∀ x ∈ [d, t, w, loaded, qmin, qp], x ≤ 65535) :
    chargeCreate (createShort number species d t w loaded ++ bytes 2 qmin ++ bytes 2 qp) s =
      s.createCharge number species d t w loaded qmin qp := by
  simp only [List.forall_mem_cons] at h
  obtain ⟨hd, ht, hw, hl, hq, hp, -⟩ := h
  have hm (x : Nat) (hx : x ≤ 65535) : x % 65536 = x := by omega
  have hm' : species % 256 = species := by omega
  simp [chargeCreate, createShort, State.createCharge, hm, hm', hn, hd, ht, hw, hl, hq, hp]
  rfl

end Create

/-- What CHARGE_CREATE answers on a payload that carries values in their ranges (R5). -/
theorem chargeCreate_outcomes {s : State} {number species d t w loaded qmin qp : Nat} {payload : List Byte}
    (hr : s.linkReady = true) (hp : payload.length ≤ 250) (hn : number ≠ 0) (hs : species ≤ 15)
    (hl : limitsOk d t w = true) (hq : quarantineOk qmin qp = true)
    (ho : chargeCreate payload s = s.createCharge number species d t w loaded qmin qp) :
    (∀ i, s.NoCharge number → LowestFree s.charges i → Answers .chargeCreate 16 payload s .ok (bytes 1 i)
      (s.withCharge i (.created number species d t w loaded qmin qp))) ∧
    (∀ i c, s.charge? i = some c → c.number = number → Refused .chargeCreate 16 payload s .duplicate) ∧
    (s.NoCharge number → (∀ o ∈ s.charges, o ≠ none) → Refused .chargeCreate 16 payload s .full) := by
  have hx : Reaches .chargeCreate 16 chargeCreate s := fun _ _ => rfl
  have hok : ¬(number = 0 ∨ 15 < species ∨ limitsOk d t w = false ∨ quarantineOk qmin qp = false) := by
    simp [hn, hl, hq, hs]
  rw [State.createCharge, if_neg hok] at ho
  refine ⟨fun i hno hi => hx.answers hr hp ?_, fun i c hi hc => hx.refused hr hp ?_, fun hno hfull => hx.refused hr hp ?_⟩
  · rw [ho, State.findCharge_of_noCharge hno, freeSlot_of_lowestFree hi]
    rfl
  · rw [ho, if_pos (State.findCharge_isSome hi hc)]
  · rw [ho, State.findCharge_of_noCharge hno, freeSlot_none.mpr hfull]
    rfl

/-- Settles O11, for the short and the long payload alike. -/
theorem chargeCreateFillsTheLowestFreeSlot : Obligations.ChargeCreateFillsTheLowestFreeSlot := by
  unfold Obligations.ChargeCreateFillsTheLowestFreeSlot
  intro s number species d t w loaded hr hn1 hn hs hd ht hw hl
  have hlim : limitsOk d t w = true := limitsOk_iff.mpr ⟨hd, ht, hw⟩
  have hx : ∀ x ∈ [d, t, w, loaded], x ≤ 65535 := by simp; omega
  have hshort := chargeCreate_outcomes (payload := createShort number species d t w loaded) hr (by simp [createShort])
    (by omega) hs hlim (qmin := 50) (qp := 1000) rfl (chargeCreate_short hn (by omega) hx)
  have hlong (qmin qp : Nat) (h1 : 20 ≤ qmin) (h2 : qmin ≤ 1000) (h3 : qp ≤ 1000) := chargeCreate_outcomes
    (payload := createShort number species d t w loaded ++ bytes 2 qmin ++ bytes 2 qp) hr (by simp [createShort])
    (by omega) hs hlim (quarantineOk_iff.mpr ⟨h1, h2, h3⟩) (chargeCreate_long hn (by omega) (by simp; omega))
  refine ⟨fun i hno hi => ⟨hshort.1 i hno hi, fun qmin qp h1 h2 h3 => (hlong qmin qp h1 h2 h3).1 i hno hi⟩, ?_⟩
  rintro payload (rfl | ⟨qmin, qp, h1, h2, h3, rfl⟩)
  · exact hshort.2
  · exact (hlong qmin qp h1 h2 h3).2

/-! ## CHARGE_READ and CHARGE_LIST (R6, R7) -/

theorem onCharge_bytes {s : State} {n : Nat} (hn : n ≤ 65535) (f : Nat → Charge → Reply) :
    onCharge (bytes 2 n) s f = match s.findCharge n with
      | none => .refuse .noSuch
      | some (i, c) => f i c := by
  have hm : n % 65536 = n := by omega
  simp [onCharge, hm] <;> rfl

theorem onCharge_only {s : State} {n i : Nat} {c : Charge} (hn : n ≤ 65535) (h : s.OnlyCharge n i c)
    (f : Nat → Charge → Reply) : onCharge (bytes 2 n) s f = f i c := by
  rw [onCharge_bytes hn, State.findCharge_of_onlyCharge h]

theorem onCharge_no {s : State} {n : Nat} (hn : n ≤ 65535) (h : s.NoCharge n) (f : Nat → Charge → Reply) :
    onCharge (bytes 2 n) s f = .refuse .noSuch := by
  rw [onCharge_bytes hn, State.findCharge_of_noCharge h]

theorem Charge.remaining_eq (c : Charge) : c.remaining = match c.loaded with
    | none => 16777215
    | some l => if c.seen < l then l - c.seen else 0 := by
  unfold Charge.remaining
  cases c.loaded with
  | none => rfl
  | some l =>
    dsimp only
    split <;> omega

theorem ChargeState.code_eq (x : ChargeState) : x.code = match x with
    | .staged => 1 | .kiln => 2 | .dried => 3 | .inFeed => 4 | .fed => 5 := rfl

theorem ChargeState.setCode_eq_two_pow (x : ChargeState) : x.setCode = 2 ^ (x.code - 1) := by
  cases x <;> rfl

theorem Charge.listed_iff {start states filter : Nat} {c : Charge} : c.listed start states filter = true ↔
    start ≤ c.number ∧ states.testBit (c.state.code - 1) = true ∧ (filter = 0 ∨ c.quarantined = true) := by
  simp [Charge.listed, ChargeState.setCode_eq_two_pow, hasCode_two_pow, and_assoc]

/-- The slots of a table stand in ascending order. -/
theorem pairwise_liveSlots {α : Type} (i : Nat) (l : List (Option α)) :
    (liveSlots i l).Pairwise (fun a b => a.1 < b.1) := by
  induction l generalizing i with
  | nil => exact .nil
  | cons o l ih => cases o with
    | none => exact ih (i + 1)
    | some a => exact .cons (fun b hb => (mem_liveSlots (j := b.1) (a := b.2)).mp hb |>.1) (ih (i + 1))

theorem State.mem_chargesListed {s : State} {start states filter i : Nat} {c : Charge} :
    (i, c) ∈ s.chargesListed start states filter ↔ s.charge? i = some c ∧ c.listed start states filter = true := by
  rw [State.chargesListed, (perm_sortBy _ _).mem_iff, List.mem_filter, mem_liveSlots]
  simp [State.charge?, Option.join_eq_some_iff]

theorem State.nodup_chargesListed (s : State) (start states filter : Nat) :
    (s.chargesListed start states filter).Nodup := by
  rw [State.chargesListed, (perm_sortBy _ _).nodup_iff]
  refine List.Nodup.filter _ ((pairwise_liveSlots 0 s.charges).imp fun hab h => ?_)
  exact absurd hab (h ▸ Nat.lt_irrefl _)

theorem chargeList_bytes {s : State} {start states filter : Nat} (h1 : start ≤ 65535) (h2 : states ≤ 255)
    (h3 : filter ≤ 255) (hok : ¬(states = 0 ∨ 31 < states ∨ 1 < filter)) :
    let found := s.chargesListed start states filter
    chargeList (bytes 2 start ++ bytes 1 states ++ bytes 1 filter) s =
      .ok (bytes 1 (found.take 40).length ++ bytes 2 ((found[40]?).elim 0 (fun x => x.2.number)) ++
        (found.take 40).flatMap (fun x => x.2.entry x.1)) s := by
  have hm : start % 65536 = start := by omega
  have hm2 : states % 256 = states := by omega
  have hm3 : filter % 256 = filter := by omega
  simp only [chargeList, List.length_append, length_bytes, field_bytes_append, List.append_assoc]
  simp [hm, hm2, hm3, hok]

/-- Settles O12: CHARGE_READ field by field, and CHARGE_LIST as the first 40 of the sorted matches. -/
theorem chargeReadAndListReport : Obligations.ChargeReadAndListReport := by
  unfold Obligations.ChargeReadAndListReport
  constructor
  · intro s n hr hn
    have hx : Reaches .chargeRead 17 chargeRead s := fun _ _ => rfl
    constructor
    · intro i c h
      have ho : chargeRead (bytes 2 n) s = .ok (c.report i) s := onCharge_only hn h _
      refine hx.answers hr (by simp) (ho.trans (congrArg (Reply.ok · s) ?_))
      unfold Charge.report
      rewrite [Charge.remaining_eq, h.2.1, ChargeState.code_eq]
      rfl
    · exact fun h => hx.refused hr (by simp) (onCharge_no hn h _)
  · intro s start states filter hr hstart h1 h31 hfilter
    have hx : Reaches .chargeList 18 chargeList s := fun _ _ => rfl
    have hown := chargeList_bytes (s := s) hstart (by omega) (by omega) (by omega : ¬(states = 0 ∨ 31 < states ∨ 1 < filter))
    refine ⟨(s.chargesListed start states filter).take 40, (s.chargesListed start states filter).drop 40, ?_⟩
    rw [List.take_append_drop]
    refine ⟨s.nodup_chargesListed start states filter, fun i c => ?_, sorted_sortBy _ _, List.length_take, ?_⟩
    · rw [State.mem_chargesListed, Charge.listed_iff]
      rfl
    · dsimp only at hown
      rw [← List.head?_drop] at hown
      rcases hd : (s.chargesListed start states filter).drop 40 with _ | ⟨x, r⟩
      · rw [hd] at hown
        exact hx.answers hr (by simp) hown
      · rw [hd] at hown
        exact hx.answers hr (by simp) hown

end Sys2Proof.Machine
end

section
/-! The requests that change a charge or retire it: CHARGE_LIMITS, CHARGE_RELEASE, CHARGE_FEED_END and
CHARGE_RETIRE. -/

namespace Sys2Proof.Machine

/-! ## The owners on the values of a payload -/

section Values
variable {s : State} {n : Nat}

theorem chargeLimits_bytes {d t w qmin qp : Nat} (hn : n ≤ 65535) (h : ∀ x ∈ [d, t, w, qmin, qp], x ≤ 65535) :
    chargeLimits (bytes 2 n ++ bytes 2 d ++ bytes 2 t ++ bytes 2 w ++ bytes 2 qmin ++ bytes 2 qp) s =
      if limitsOk d t w = false ∨ quarantineOk qmin qp = false then .refuse .badField
      else match s.findCharge n with
        | none => .refuse .noSuch
        | some (i, _) => .ok [] (s.modifyCharge i (fun c => { c with dry := d, target := t, wet := w, qmin := qmin, qp := qp })) := by
  simp only [List.forall_mem_cons] at h
  obtain ⟨hd, ht, hw, hq, hp, -⟩ := h
  have hm (x : Nat) (hx : x ≤ 65535) : x % 65536 = x := by omega
  simp [chargeLimits, hm, hn, hd, ht, hw, hq, hp] <;> rfl

theorem chargeRelease_bytes {qp : Nat} (hn : n ≤ 65535) (hp : qp ≤ 65535) :
    chargeRelease (bytes 2 n ++ bytes 2 qp) s =
      if 1000 < qp then .refuse .badField
      else match s.findCharge n with
        | none => .refuse .noSuch
        | some (i, c) =>
          if c.quarantined = false then .refuse .wrongState
          else .ok [] (s.modifyCharge i (fun c => { c with quarantined := false, qp := qp, winMeasured := 0, winWet := 0 })) := by
  have hm (x : Nat) (hx : x ≤ 65535) : x % 65536 = x := by omega
  simp [chargeRelease, hm, hn, hp] <;> rfl

end Values

/-- Settles O13: what each owner answers on the values of its payload, on the charge that the lookup finds. -/
theorem chargeLimitsAndRelease : Obligations.ChargeLimitsAndRelease := by
  unfold Obligations.ChargeLimitsAndRelease
  intro s n slot c hr hn hc
  have hfind := State.findCharge_of_onlyCharge hc
  have hlimits : Reaches .chargeLimits 19 chargeLimits s := fun _ _ => rfl
  have hrelease : Reaches .chargeRelease 20 chargeRelease s := fun _ _ => rfl
  refine ⟨fun d t w qmin qp h1 h2 h3 h4 h5 h6 => hlimits.answers hr (by simp) ?_,
    fun qp h1 hq => hrelease.answers hr (by simp) ?_, fun qp h1 hq => hrelease.refused hr (by simp) ?_⟩
  · have hl : limitsOk d t w = true := limitsOk_iff.mpr ⟨h1, h2, h3⟩
    have hq : quarantineOk qmin qp = true := quarantineOk_iff.mpr ⟨h4, h5, h6⟩
    rw [chargeLimits_bytes hn (by simp; omega), if_neg (by simp [hl, hq]), hfind]
    dsimp only
    rw [State.modifyCharge_eq_withCharge hc.1]
  · rw [chargeRelease_bytes hn (by omega), if_neg (by omega), hfind]
    dsimp only
    rw [if_neg (by simp [hq]), State.modifyCharge_eq_withCharge hc.1]
  · rw [chargeRelease_bytes hn (by omega), if_neg (by omega), hfind]
    exact if_pos hq

/-- Settles O14, one case for each state that the requests accept or refuse. -/
theorem chargeFeedEndAndRetire : Obligations.ChargeFeedEndAndRetire := by
  unfold Obligations.ChargeFeedEndAndRetire
  intro s n slot c hr hn hc
  have hfeed : Reaches .chargeFeedEnd 21 chargeFeedEnd s := fun _ _ => rfl
  have hretire : Reaches .chargeRetire 22 chargeRetire s := fun _ _ => rfl
  refine ⟨fun hst => hfeed.answers hr (by simp) ?_, fun hst => hfeed.refused hr (by simp) ?_,
    fun hst ht hp => hretire.answers hr (by simp) ?_, fun hst href => hretire.refused hr (by simp) ?_,
    fun hst => hretire.refused hr (by simp) ?_⟩
  · rw [chargeFeedEnd, onCharge_only hn hc, if_pos hst, State.modifyCharge_eq_withCharge hc.1]
  · rw [chargeFeedEnd, onCharge_only hn hc, if_neg]
    rcases hst with hst | hst | hst <;> simp [hst]
  · rw [chargeRetire, onCharge_only hn hc, if_neg, if_neg (by omega)]
    rcases hst with hst | hst <;> simp [hst]
  · rw [chargeRetire, onCharge_only hn hc, if_neg, if_pos href]
    rcases hst with hst | hst <;> simp [hst]
  · rw [chargeRetire, onCharge_only hn hc, if_pos]
    rcases hst with hst | hst | hst <;> simp [hst]

end Sys2Proof.Machine
end

section
/-! A charge's entry into quarantine, slot by slot over the Pack Table. -/

namespace Sys2Proof.Machine

/-! ## Packs withdrawn from the label side (R140, R157, R159) -/

/-- The pack is withdrawn from the label side when the charge enters quarantine (R140). -/
def Pack.pulled (charge : Nat) (p : Pack) : Bool :=
  p.charges.contains charge && (p.state = .labelQueued || p.state = .labelReady)

theorem Pack.pulled_of_holds {charge : Nat} {p : Pack} (h : p.charges.contains charge = true) :
    p.pulled charge = true ↔ p.state = .labelQueued ∨ p.state = .labelReady := by
  rw [Pack.pulled, h]
  simp

theorem Pack.pulled_of_not_holds {charge : Nat} {p : Pack} (h : p.charges.contains charge = false) :
    p.pulled charge = false := by
  rw [Pack.pulled, h, Bool.false_and]

/-- The pack after the entry of the charge into quarantine (R140). -/
def Pack.withdrawn (charge : Nat) (p : Pack) : Pack :=
  if p.charges.contains charge then
    { p with quarantineMix := true, state := if p.pulled charge then .held else p.state }
  else p

/-- A READY frame whose pack satisfies `q` is freed (R159). -/
def Frame.without (q : Nat → Bool) (f : Frame) : Frame :=
  if f.state = .ready ∧ f.pack.any q = true then f.freed else f

/-- The packs that satisfy `q` taken out of the label queue and of the READY frames (R157, R159). -/
def Labels.without (q : Nat → Bool) (l : Labels) : Labels :=
  { l with
    queue := l.queue.filter (fun k => !q k), frame0 := l.frame0.without q, frame1 := l.frame1.without q
    ready := l.ready.filter (fun n => ((l.frame n).without q).state = .ready) }

@[simp] theorem Labels.frame_without (q : Nat → Bool) (l : Labels) (n : Nat) :
    (l.without q).frame n = (l.frame n).without q := by
  unfold Labels.frame
  split <;> rfl

theorem Frame.without_of_unheld {q : Nat → Bool} {f : Frame} (h : f.state = .ready → f.pack.any q = false) :
    f.without q = f := by
  rw [Frame.without, if_neg]
  rintro ⟨hs, hp⟩
  simp [h hs] at hp

/-- Frames that no pack satisfying `q` holds READY stay as they are, and so does the list of READY frames. -/
theorem Labels.without_of_unheld {q : Nat → Bool} {l : Labels}
    (hready : ∀ n ∈ l.ready, (l.frame n).state = .ready)
    (h : ∀ n, (l.frame n).state = .ready → (l.frame n).pack.any q = false) :
    l.without q = { l with queue := l.queue.filter (fun k => !q k) } := by
  have h0 : l.frame0.without q = l.frame0 := Frame.without_of_unheld (h 0)
  have h1 : l.frame1.without q = l.frame1 := Frame.without_of_unheld (h 1)
  have hr : l.ready.filter (fun n => ((l.frame n).without q).state = .ready) = l.ready := by
    refine List.filter_eq_self.mpr fun n hn => ?_
    rw [Frame.without_of_unheld (h n)]
    simpa using hready n hn
  rw [Labels.without, h0, h1, hr]

theorem Frame.without_without (q r : Nat → Bool) (f : Frame) :
    (f.without q).without r = f.without (fun k => q k || r k) := by
  have hany : f.pack.any (fun k => q k || r k) = (f.pack.any q || f.pack.any r) := by cases f.pack <;> simp
  by_cases hs : f.state = .ready
  · cases hq : f.pack.any q <;> cases hr : f.pack.any r <;> simp [Frame.without, Frame.freed, hany, hs, hq, hr]
  · simp [Frame.without, hs]

theorem Frame.ready_of_without {q : Nat → Bool} {f : Frame} (h : (f.without q).state = .ready) : f.state = .ready := by
  unfold Frame.without at h
  split at h
  · exact absurd h (by simp [Frame.freed])
  · exact h

theorem Labels.without_without (q r : Nat → Bool) (l : Labels) :
    (l.without q).without r = l.without (fun k => q k || r k) := by
  have hready : (l.without q).ready.filter (fun n => (((l.without q).frame n).without r).state = .ready) =
      l.ready.filter (fun n => ((l.frame n).without (fun k => q k || r k)).state = .ready) := by
    rw [Labels.without, List.filter_filter]
    refine List.filter_congr fun n _ => ?_
    have hf := Labels.frame_without q l n
    rw [Labels.without] at hf
    rw [hf, Frame.without_without]
    by_cases h : ((l.frame n).without (fun k => q k || r k)).state = .ready
    · have := Frame.ready_of_without (q := r) (f := (l.frame n).without q) (by rw [Frame.without_without]; exact h)
      simp [h, this]
    · simp [h]
  rw [Labels.without, hready]
  simp only [Labels.without, List.filter_filter, Frame.without_without, Bool.not_or, Bool.and_comm]

/-! ## One slot (R140) -/

/-- The label side agrees with the pack `p` in slot `k`: what the entry into quarantine rests on. -/
structure State.Placed (s : State) (k : Nat) (p : Pack) : Prop where
  pack : s.pack? k = some p
  queue : p.state ≠ .labelQueued → k ∉ s.labels.queue
  frame : ∀ n, (s.labels.frame n).state = .ready → (s.labels.frame n).pack = some k → p.state = .labelReady
  ready : ∀ n ∈ s.labels.ready, n < 2 ∧ (s.labels.frame n).state = .ready
  held : p.state = .labelReady →
    ∃ n < 2, (s.labels.frame n).state = .ready ∧ (s.labels.frame n).pack = some k ∧ (s.labels.frame (1 - n)).pack ≠ some k

/-- The slot `k` alone, or no slot. -/
def onlySlot (k : Nat) (b : Bool) (x : Nat) : Bool := decide (x = k) && b

@[simp] theorem onlySlot_self (k : Nat) (b : Bool) : onlySlot k b k = b := by simp [onlySlot]

theorem onlySlot_of_ne {x k : Nat} (h : x ≠ k) (b : Bool) : onlySlot k b x = false := by simp [onlySlot, h]

theorem any_onlySlot_of_ne {o : Option Nat} {k : Nat} (h : o ≠ some k) (b : Bool) : o.any (onlySlot k b) = false := by
  rcases o with _ | x
  · rfl
  · exact onlySlot_of_ne (fun hx => h (congrArg some hx)) b

theorem filter_onlySlot_of_not_mem {k : Nat} {l : List Nat} (h : k ∉ l) (b : Bool) :
    l.filter (fun x => !onlySlot k b x) = l :=
  List.filter_eq_self.mpr fun x hx => by
    have hxk : x ≠ k := fun hxk => h (hxk ▸ hx)
    simp [onlySlot_of_ne hxk b]

section Slot
variable {s : State} {charge k : Nat} {p : Pack}

theorem State.Placed.without_of_not_held (h : s.Placed k p) (b : Bool) (hst : p.state ≠ .labelReady) :
    s.labels.without (onlySlot k b) =
      { s.labels with queue := s.labels.queue.filter (fun x => !onlySlot k b x) } :=
  Labels.without_of_unheld (fun n hn => (h.ready n hn).2)
    fun n hn => any_onlySlot_of_ne (fun hp => hst (h.frame n hn hp)) b

theorem State.Placed.without_false (h : s.Placed k p) : s.labels.without (onlySlot k false) = s.labels := by
  have hq (x : Nat) : onlySlot k false x = false := by simp [onlySlot]
  rw [Labels.without_of_unheld (fun n hn => (h.ready n hn).2) fun n _ => by cases (s.labels.frame n).pack <;> simp [hq]]
  simp [hq]

/-- A pack that is not withdrawn leaves the labels as they are. -/
theorem State.Placed.without_of_not_pulled (h : s.Placed k p) (hp : p.pulled charge = false) :
    s.labels.without (onlySlot k (p.charges.contains charge)) = s.labels := by
  rcases hc : p.charges.contains charge with _ | _
  · exact h.without_false
  · have hst : ¬(p.state = .labelQueued ∨ p.state = .labelReady) := by simp [← Pack.pulled_of_holds hc, hp]
    rw [h.without_of_not_held _ fun hr => hst (.inr hr), filter_onlySlot_of_not_mem (h.queue fun hq => hst (.inl hq))]

/-- A queued pack leaves the label queue (R157). -/
theorem State.Placed.unqueue (h : s.Placed k p) (hst : p.state = .labelQueued) :
    s.unqueue k = { s with labels := s.labels.without (onlySlot k true) } := by
  have hq : s.labels.queue.filter (fun x => !onlySlot k true x) = s.labels.queue.filter (· ≠ k) :=
    List.filter_congr fun x _ => by simp [onlySlot]
  rw [h.without_of_not_held true (by simp [hst]), hq, State.unqueue]

/-- A pack in a READY frame leaves it (R159). -/
theorem State.Placed.withdrawFrame (h : s.Placed k p) (hst : p.state = .labelReady) :
    s.withdrawFrame k = { s with labels := s.labels.without (onlySlot k true) } := by
  have hqueue := filter_onlySlot_of_not_mem (h.queue (by simp [hst])) true
  obtain ⟨n, hn, hready, hpack, hother⟩ := h.held hst
  have hfree : (s.labels.frame n).without (onlySlot k true) = (s.labels.frame n).freed := by
    simp [Frame.without, hready, hpack]
  have hkeep : (s.labels.frame (1 - n)).without (onlySlot k true) = s.labels.frame (1 - n) :=
    Frame.without_of_unheld fun _ => any_onlySlot_of_ne hother true
  have hlist : s.labels.ready.filter (fun m => ((s.labels.frame m).without (onlySlot k true)).state = .ready) =
      s.labels.ready.filter (· ≠ n) := by
    refine List.filter_congr fun m hm => ?_
    obtain ⟨hm2, hmr⟩ := h.ready m hm
    rcases eq_or_ne m n with rfl | hmn
    · simp [hfree, Frame.freed]
    · obtain rfl : m = 1 - n := by omega
      simp [hkeep, hmr, hmn]
  have h01 : n = 0 ∨ n = 1 := by omega
  rcases h01 with rfl | rfl
  · have hfree : s.labels.frame0.without (onlySlot k true) = s.labels.frame0.freed := hfree
    have hkeep : s.labels.frame1.without (onlySlot k true) = s.labels.frame1 := hkeep
    rw [State.withdrawFrame, if_pos ⟨hready, hpack⟩, Labels.without, hqueue, hlist, hfree, hkeep]
  · have hfree : s.labels.frame1.without (onlySlot k true) = s.labels.frame1.freed := hfree
    have hkeep : s.labels.frame0.without (onlySlot k true) = s.labels.frame0 := hkeep
    rw [State.withdrawFrame, if_neg (fun h0 => hother h0.2), if_pos ⟨hready, hpack⟩, Labels.without, hqueue, hlist,
      hfree, hkeep]

/-- A pack that is withdrawn is HELD. -/
theorem State.Placed.holdPack {t : State} (h : s.Placed k p) (hp : p.pulled charge = true)
    (ht : t = { s.withPack k { p with quarantineMix := true } with labels := s.labels.without (onlySlot k true) }) :
    t.holdPack k p.number = { s with
      packs := { s.packs with records := s.packs.records.set k (some (p.withdrawn charge)) }
      labels := s.labels.without (onlySlot k (p.charges.contains charge))
      attention := if p.pulled charge then (s.raise .packHeld (.pack p.number)).attention else s.attention } := by
  have hc : p.charges.contains charge = true := by
    by_contra hc
    rw [Pack.pulled_of_not_holds (by simpa using hc)] at hp
    cases hp
  have hpack : t.pack? k = some { p with quarantineMix := true } := by
    subst ht
    exact (State.pack?_withPack s k k _ (State.lt_of_pack? h.pack)).trans (if_pos rfl)
  rw [State.holdPack_eq hpack, Pack.withdrawn, hp, hc, if_pos rfl, if_pos rfl, if_pos rfl]
  subst ht
  simp only [State.withPack, List.set_set]
  rfl

/-- The entry into quarantine at one slot (R140). -/
theorem State.Placed.withdrawPack (h : s.Placed k p) (charge : Nat) : s.withdrawPack charge k =
    { s with
      packs := { s.packs with records := s.packs.records.set k (some (p.withdrawn charge)) }
      labels := s.labels.without (onlySlot k (p.charges.contains charge))
      attention := if p.pulled charge then (s.raise .packHeld (.pack p.number)).attention else s.attention } := by
  unfold State.withdrawPack
  rw [h.pack]
  dsimp only
  by_cases hc : p.charges.contains charge = true
  · have hmarked : (s.withPack k { p with quarantineMix := true }).Placed k { p with quarantineMix := true } :=
      { pack := (State.pack?_withPack s k k _ (State.lt_of_pack? h.pack)).trans (if_pos rfl)
        queue := h.queue, frame := h.frame, ready := h.ready, held := h.held }
    rw [if_pos hc, State.modifyPack_eq_withPack h.pack]
    split
    · rename_i hst
      exact h.holdPack ((Pack.pulled_of_holds hc).mpr (.inl hst)) (hmarked.unqueue hst)
    · rename_i hst
      exact h.holdPack ((Pack.pulled_of_holds hc).mpr (.inr hst)) (hmarked.withdrawFrame hst)
    · rename_i h1 h2
      have hp : p.pulled charge = false := by
        simpa [← Pack.pulled_of_holds hc] using not_or.mpr ⟨h1, h2⟩
      rw [h.without_of_not_pulled hp, Pack.withdrawn, if_pos hc, hp]
      rfl
  · have hp := Pack.pulled_of_not_holds (by simpa using hc)
    have hset : s.packs.records.set k (some p) = s.packs.records := by
      obtain ⟨hk, hg⟩ := List.getElem?_eq_some_iff.mp (State.record_of_pack? h.pack)
      rw [← hg, List.set_getElem_self]
    rw [if_neg hc, h.without_of_not_pulled hp, Pack.withdrawn, if_neg hc, hp, hset]
    rfl

end Slot

/-! ## All slots (R18, R140) -/

/-- The packs of the first `K` slots that hold the charge. -/
def State.holders (s : State) (charge K k : Nat) : Bool :=
  decide (k < K) && (s.pack? k).any (fun p => p.charges.contains charge)

/-- The packs of the first `K` slots that are withdrawn, in ascending slot order. -/
def State.pulledPacks (s : State) (charge K : Nat) : List Pack :=
  (List.range K).filterMap (fun k => (s.pack? k).bind (fun p => if p.pulled charge then some p else none))

/-- PACK_HELD raised for each of the packs (R140). -/
def State.raiseHeld (s : State) (l : List Pack) : State := l.foldl (fun u p => u.raise .packHeld (.pack p.number)) s

/-- The pack records when the entry of the charge into quarantine has reached the first `K` slots. -/
def State.withdrawnRecords (s : State) (charge K : Nat) : List (Option Pack) :=
  s.packs.records.mapIdx (fun k o => if k < K then o.map (Pack.withdrawn charge) else o)

/-- The state when the entry of the charge into quarantine has reached the first `K` slots. -/
def State.withdrawnTo (s : State) (charge K : Nat) : State :=
  { s with
    packs := { s.packs with records := s.withdrawnRecords charge K }
    labels := s.labels.without (s.holders charge K)
    attention := (s.raiseHeld (s.pulledPacks charge K)).attention }

theorem State.pack?_withdrawnTo (s : State) (charge K k : Nat) :
    (s.withdrawnTo charge K).pack? k = if k < K then (s.pack? k).map (Pack.withdrawn charge) else s.pack? k := by
  simp only [State.pack?, State.withdrawnTo, State.withdrawnRecords, List.getElem?_mapIdx]
  rcases s.packs.records[k]? with _ | _ | p <;> split <;> simp

/-- The label side of the reset of the packs' states: what LabelsOk says of one slot. -/
theorem LabelsOk.placed {s : State} (h : LabelsOk s) {k : Nat} {p : Pack} (hp : s.pack? k = some p) : s.Placed k p := by
  obtain ⟨⟨hlen, -⟩, -, -, hqueue, -, h0, h1, hready, hlist, hdistinct, hplace, -⟩ := h
  have hk : k < Config.packSlots := hlen ▸ State.lt_of_pack? hp
  have his {st : PackState} : s.packIs k st = true ↔ p.state = st := by simp [State.packIs, hp]
  have hframe (n : Nat) : FrameOk s (s.labels.frame n) := by
    unfold Labels.frame
    split
    · exact h0
    · exact h1
  have hreadyOf (n : Nat) (hst : p.state = .labelReady) (hn : (s.labels.frame n).pack = some k) :
      (s.labels.frame n).state = .ready := by
    obtain ⟨hfree, -, hprint, -⟩ := hframe n
    rcases hs : (s.labels.frame n).state
    · rw [hfree hs] at hn
      cases hn
    · rfl
    · have := hprint hs
      rw [hn, Option.any_some, his, hst] at this
      cases this
  refine ⟨hp, fun hst hq => hst (his.mp (hqueue k hq)), fun n hn hnp => ?_, fun n hn => ⟨hready n hn, ?_⟩, fun hst => ?_⟩
  · have := (hframe n).2.1 hn
    rwa [hnp, Option.any_some, his] at this
  · exact (hlist n (hready n hn)).mp hn
  · rcases hplace k hk (.inl (his.mpr hst)) with hf | hf
    · exact ⟨0, by decide, hreadyOf 0 hst hf, hf, hdistinct k (Option.mem_toList.mpr hf)⟩
    · refine ⟨1, by decide, hreadyOf 1 hst hf, hf, fun hf0 => ?_⟩
      exact hdistinct k (Option.mem_toList.mpr hf0) hf

/-- The slots reached before `k` leave what stands at `k` alone. -/
theorem State.Placed.withdrawnTo {s : State} {k : Nat} {p : Pack} (h : s.Placed k p) (charge : Nat) :
    (s.withdrawnTo charge k).Placed k p := by
  have hk : s.holders charge k k = false := by simp [State.holders]
  have hframe (n : Nat) : ((s.withdrawnTo charge k).labels.frame n) = (s.labels.frame n).without (s.holders charge k) :=
    Labels.frame_without _ _ n
  have hsame {n : Nat} (hn : ((s.labels.frame n).without (s.holders charge k)).state = .ready) :
      (s.labels.frame n).without (s.holders charge k) = s.labels.frame n := by
    unfold Frame.without at hn ⊢
    split at hn
    · exact absurd hn (by simp [Frame.freed])
    · rw [if_neg ‹_›]
  refine ⟨by rw [State.pack?_withdrawnTo, if_neg (Nat.lt_irrefl k), h.pack], fun hst hq => ?_, fun n hn hp => ?_,
    fun n hn => ?_, fun hst => ?_⟩
  · exact h.queue hst (List.mem_of_mem_filter hq)
  · rw [hframe] at hn hp
    have hs := hsame hn
    rw [hs] at hn hp
    exact h.frame n hn hp
  · obtain ⟨hm, hs⟩ := List.mem_filter.mp hn
    exact ⟨(h.ready n hm).1, by rw [hframe]; simpa using hs⟩
  · obtain ⟨n, hn, hr, hp, ho⟩ := h.held hst
    have hkeep : (s.labels.frame n).without (s.holders charge k) = s.labels.frame n :=
      Frame.without_of_unheld fun _ => by rw [hp, Option.any_some, hk]
    refine ⟨n, hn, by rw [hframe, hkeep, hr], by rw [hframe, hkeep, hp], fun hc => ho ?_⟩
    rw [hframe] at hc
    unfold Frame.without at hc
    split at hc
    · cases hc
    · exact hc

theorem State.withdrawnRecords_succ_of_none {s : State} {K : Nat} (h : s.pack? K = none) (charge : Nat) :
    s.withdrawnRecords charge (K + 1) = s.withdrawnRecords charge K := by
  refine List.ext_getElem? fun k => ?_
  simp only [State.withdrawnRecords, List.getElem?_mapIdx]
  rcases Nat.lt_trichotomy k K with hk | rfl | hk
  · simp [hk, Nat.lt_succ_of_lt hk]
  · rw [State.pack?] at h
    rcases hg : s.packs.records[k]? with _ | _ | p
    · rfl
    · simp
    · rw [hg] at h
      cases h
  · simp [Nat.not_lt.mpr (Nat.le_of_lt hk), Nat.not_lt.mpr (Nat.succ_le_of_lt hk)]

theorem State.withdrawnRecords_succ {s : State} {K : Nat} {p : Pack} (h : s.pack? K = some p) (charge : Nat) :
    s.withdrawnRecords charge (K + 1) = (s.withdrawnRecords charge K).set K (some (p.withdrawn charge)) := by
  have hlen := State.lt_of_pack? h
  refine List.ext_getElem? fun k => ?_
  simp only [State.withdrawnRecords, List.getElem?_set, List.getElem?_mapIdx, List.length_mapIdx]
  rcases Nat.lt_trichotomy k K with hk | rfl | hk
  · simp [hk, Nat.lt_succ_of_lt hk, Nat.ne_of_gt hk]
  · obtain ⟨_, hg⟩ := List.getElem?_eq_some_iff.mp (State.record_of_pack? h)
    simp [hlen, hg]
  · simp [Nat.not_lt.mpr (Nat.le_of_lt hk), Nat.not_lt.mpr (Nat.succ_le_of_lt hk), Nat.ne_of_lt hk]

theorem State.holders_succ (s : State) (charge K : Nat) : s.holders charge (K + 1) = fun x =>
    s.holders charge K x || onlySlot K ((s.pack? K).any (fun p => p.charges.contains charge)) x := by
  funext x
  rcases Nat.lt_trichotomy x K with hx | rfl | hx
  · simp [State.holders, onlySlot, hx, Nat.lt_succ_of_lt hx, Nat.ne_of_lt hx]
  · simp [State.holders]
  · simp [State.holders, onlySlot, Nat.not_lt.mpr (Nat.le_of_lt hx), Nat.not_lt.mpr (Nat.succ_le_of_lt hx), Nat.ne_of_gt hx]

theorem State.pulledPacks_succ (s : State) (charge K : Nat) : s.pulledPacks charge (K + 1) =
    s.pulledPacks charge K ++ ((s.pack? K).bind (fun p => if p.pulled charge then some p else none)).toList := by
  rw [State.pulledPacks, List.range_succ, List.filterMap_append, State.pulledPacks]
  cases h : (s.pack? K).bind (fun p => if p.pulled charge then some p else none) <;>
    simp only [List.filterMap_cons, List.filterMap_nil, h, Option.toList]

/-- The entry into quarantine reaches one more slot (R140). -/
theorem State.withdrawPack_withdrawnTo {s : State} (h : LabelsOk s) (charge K : Nat) :
    (s.withdrawnTo charge K).withdrawPack charge K = s.withdrawnTo charge (K + 1) := by
  rcases hp : s.pack? K with _ | p
  · have hnone : (s.withdrawnTo charge K).pack? K = none := by
      rw [State.pack?_withdrawnTo, if_neg (Nat.lt_irrefl K), hp]
    have hholders : s.holders charge (K + 1) = s.holders charge K := by
      rw [State.holders_succ, hp]
      simp [onlySlot]
    rw [State.withdrawPack, hnone, State.withdrawnTo, State.withdrawnTo, State.withdrawnRecords_succ_of_none hp,
      hholders, State.pulledPacks_succ, hp, Option.bind_none, Option.toList_none, List.append_nil]
  · have hlabels : (s.withdrawnTo charge K).labels.without (onlySlot K (p.charges.contains charge)) =
        s.labels.without (s.holders charge (K + 1)) := by
      rw [State.withdrawnTo, Labels.without_without, State.holders_succ, hp, Option.any_some]
    have hattn : (if p.pulled charge then ((s.withdrawnTo charge K).raise .packHeld (.pack p.number)).attention
        else (s.withdrawnTo charge K).attention) = (s.raiseHeld (s.pulledPacks charge (K + 1))).attention := by
      rw [State.pulledPacks_succ, hp, Option.bind_some, State.raiseHeld, List.foldl_append, ← State.raiseHeld]
      split <;> rfl
    rw [((h.placed hp).withdrawnTo charge).withdrawPack, hlabels, hattn, State.withdrawnTo, State.withdrawnTo,
      State.withdrawnRecords_succ hp]

theorem State.withdrawPacks_eq {s : State} (h : LabelsOk s) (charge : Nat) :
    s.withdrawPacks charge = s.withdrawnTo charge Config.packSlots := by
  have hstart : s.withdrawnTo charge 0 = s := by
    have hready : ∀ n ∈ s.labels.ready, (s.labels.frame n).state = .ready := fun n hn => by
      obtain ⟨-, -, -, -, -, -, -, hready, hlist, -⟩ := h
      exact (hlist n (hready n hn)).mp hn
    have hno (x : Nat) : s.holders charge 0 x = false := by simp [State.holders]
    have hlabels : s.labels.without (s.holders charge 0) = s.labels := by
      rw [Labels.without_of_unheld hready fun n _ => by cases (s.labels.frame n).pack <;> simp [hno]]
      simp [hno]
    have hrecords : s.withdrawnRecords charge 0 = s.packs.records :=
      List.ext_getElem? fun k => by simp [State.withdrawnRecords, List.getElem?_mapIdx]
    rw [State.withdrawnTo, hlabels, hrecords]
    rfl
  have hrange (K : Nat) : (List.range K).foldl (fun s k => s.withdrawPack charge k) s = s.withdrawnTo charge K := by
    induction K with
    | zero => exact hstart.symm
    | succ K ih => rw [List.range_succ, List.foldl_append, ih, List.foldl_cons, List.foldl_nil,
        State.withdrawPack_withdrawnTo h]
  exact hrange _

/-- The slots that hold the charge, among all slots. -/
theorem LabelsOk.holders_packSlots {s : State} (h : LabelsOk s) (charge : Nat) :
    s.holders charge Config.packSlots = fun k => (s.pack? k).any (fun p => p.charges.contains charge) := by
  obtain ⟨⟨hlen, -⟩, -⟩ := h
  funext k
  rcases hp : s.pack? k with _ | p
  · simp [State.holders, hp]
  · have hk : k < Config.packSlots := hlen ▸ State.lt_of_pack? hp
    simp [State.holders, hp, hk]

theorem State.raiseHeld_attention_congr {s t : State} (h : s.attention = t.attention) (l : List Pack) :
    (s.raiseHeld l).attention = (t.raiseHeld l).attention := by
  induction l generalizing s t with
  | nil => exact h
  | cons p l ih => exact ih (by simp [State.raise, h])

/-- Settles O43, by induction on the slots that the entry has reached. -/
theorem quarantineEntryHoldsPacks : Obligations.QuarantineEntryHoldsPacks := by
  unfold Obligations.QuarantineEntryHoldsPacks
  intro s slot c h hc
  set u := (s.modifyCharge slot (fun c => { c with quarantined := true })).raise .quarantine (.charge c.number) with hu
  have hok : LabelsOk u := h
  have ht : s.enterQuarantine slot c.number = u.withdrawnTo slot Config.packSlots := State.withdrawPacks_eq hok slot
  have hfree (f : Frame) : f.without (fun k => (s.pack? k).any (fun p => p.charges.contains slot)) =
      if f.state = .ready ∧ (f.pack.bind s.pack?).any (fun p => p.charges.contains slot) = true then
        { f with state := .free, pack := none }
      else f := by
    cases hp : f.pack <;> simp [Frame.without, Frame.freed, hp]
  have hlabels : u.labels.without (fun k => (u.pack? k).any (fun p => p.charges.contains slot)) =
      s.labels.without (fun k => (s.pack? k).any (fun p => p.charges.contains slot)) := rfl
  rw [ht]
  refine ⟨?_, ?_, fun k => ?_⟩
  · rw [State.withdrawnTo, hok.holders_packSlots, hlabels, Labels.without,
      State.raiseHeld_attention_congr (s := u) (t := s.raise .quarantine (.charge c.number)) rfl, hu,
      State.modifyCharge_eq_withCharge hc]
    simp only [hfree]
    rfl
  · simp [State.withdrawnTo, State.withdrawnRecords, hu]
  · obtain ⟨⟨hlen, -⟩, -⟩ := h
    have hk (p : Pack) (hp : s.pack? k = some p) : k < Config.packSlots := hlen ▸ State.lt_of_pack? hp
    rw [State.pack?_withdrawnTo]
    rcases hp : s.pack? k with _ | p
    · have : u.pack? k = none := hp
      simp [this]
    · have hpu : u.pack? k = some p := hp
      rw [if_pos (hk p hp), hpu]
      rfl

end Sys2Proof.Machine
end

section
/-! The requests refused for their length (R181). -/

namespace Sys2Proof.Machine

/-! ## Nothing outstanding (R64, R81) -/

theorem State.settle_of_settled {s : State} (h : s.Settled) : s.settle = s := by
  obtain ⟨hdue, hport⟩ := h
  have hlimit (n : Nat) : s.limitAction n = s :=
    State.limitAction_not_due fun c hc => hdue c (State.mem_chambers.mpr ⟨n, hc⟩)
  have hticks : s.settleTicks = s := by
    unfold State.settleTicks
    induction (List.range Config.chambers) with
    | nil => rfl
    | cons n l ih => rw [List.foldl_cons, hlimit, ih]
  unfold State.settle State.fieldEvent
  split
  · rfl
  · dsimp only
    rw [hticks, State.startDeferred, if_neg hport]

section Requests
variable {request : Byte → List Byte → Instr} {code : Byte} {p : List Byte} {s : State}

/-- A request on the kiln side reaches its owner as the state stands when nothing is outstanding. -/
theorem reaches_of_settled (hs : s.Settled) {owner : List Byte → State → Reply}
    (hx : ∀ d bs, exec (request d bs) s = .next (s.settle.request code owner d bs)) : Reaches request code owner s := by
  intro d bs
  rw [hx, State.settle_of_settled hs]

theorem refused_of_length_ne (hr : s.linkReady = true) (hp : p.length ≤ 250) {n : Nat} (owner : List Byte → State → Reply)
    (hx : Reaches request code owner s) (ho : p.length ≠ n → owner p s = .refuse .badLength) :
    p.length ∉ [n] → Refused request code p s .badLength := by
  intro h
  exact hx.refused hr hp (ho (by simpa using h))

theorem refused_of_lengths_ne (hr : s.linkReady = true) (hp : p.length ≤ 250) {n m : Nat} (owner : List Byte → State → Reply)
    (hx : Reaches request code owner s) (ho : p.length ≠ n ∧ p.length ≠ m → owner p s = .refuse .badLength) :
    p.length ∉ [n, m] → Refused request code p s .badLength := by
  intro h
  exact hx.refused hr hp (ho (by simpa using h))

end Requests

/-- The requests of one or two lengths, with their codes and their lengths (R181). -/
def lengthTable : List ((Byte → List Byte → Instr) × Byte × List Nat) :=
  [(.partIdent, 1, [0]), (.chargeCreate, 16, [11, 15]), (.chargeRead, 17, [2]),
    (.chargeList, 18, [4]), (.chargeLimits, 19, [12]), (.chargeRelease, 20, [4]),
    (.chargeFeedEnd, 21, [2]), (.chargeRetire, 22, [2]), (.speciesSet, 32, [20]),
    (.speciesRead, 33, [1]), (.mcTest, 34, [6, 12]), (.schedAmend, 49, [13]), (.schedRead, 50, [1]),
    (.schedDelete, 51, [1]), (.chamberLoad, 64, [4]), (.chamberStart, 65, [1]),
    (.chamberHold, 66, [1]), (.chamberResume, 67, [1]), (.chamberSkip, 68, [1]),
    (.chamberReload, 69, [1]), (.chamberAbort, 70, [1]), (.chamberUnload, 71, [1]),
    (.chamberRead, 72, [1]), (.kilnPortSet, 80, [5]), (.kilnPortRead, 81, [0]), (.lineSet, 96, [37]),
    (.dimensionSet, 97, [80]), (.transitRead, 98, [1]), (.lineRestart, 99, [0]),
    (.planSwitch, 113, [0]), (.planRead, 114, [2]), (.packRead, 128, [3]), (.packList, 129, [6]),
    (.packClose, 130, [3]), (.packRelease, 131, [3]), (.packReject, 132, [3]), (.packRetire, 133, [3]),
    (.packNumberSet, 134, [3]), (.templateRead, 145, [2]), (.labelReprint, 146, [3]),
    (.labelRead, 147, [2]), (.labelPortSet, 148, [1]), (.labelPortClear, 149, [0]),
    (.attnRead, 160, [0]), (.attnAck, 161, [1]), (.attnMask, 162, [2])]

theorem refused_of_lengthTable {s : State} {p : List Byte} (hr : s.linkReady = true) (hs : s.Settled)
    (hp : p.length ≤ 250) : ∀ r ∈ lengthTable, p.length ∉ r.2.2 → Refused r.1 r.2.1 p s .badLength := by
  have one {request : Byte → List Byte → Instr} {code : Byte} {n : Nat} (owner : List Byte → State → Reply)
      (hx : Reaches request code owner s) (ho : p.length ≠ n → owner p s = .refuse .badLength) :=
    refused_of_length_ne hr hp owner hx ho
  have two {request : Byte → List Byte → Instr} {code : Byte} {n m : Nat} (owner : List Byte → State → Reply)
      (hx : Reaches request code owner s) (ho : p.length ≠ n ∧ p.length ≠ m → owner p s = .refuse .badLength) :=
    refused_of_lengths_ne hr hp owner hx ho
  have kiln {request : Byte → List Byte → Instr} {code : Byte} {n : Nat} (owner : List Byte → State → Reply)
      (hx : ∀ d bs, exec (request d bs) s = .next (s.settle.request code owner d bs))
      (ho : p.length ≠ n → owner p s = .refuse .badLength) :=
    refused_of_length_ne hr hp owner (reaches_of_settled hs hx) ho
  simp only [lengthTable, List.forall_mem_cons]
  exact ⟨one partIdent (fun _ _ => rfl) (fun h => if_pos h), two chargeCreate (fun _ _ => rfl) (fun h => if_pos h),
    one chargeRead (fun _ _ => rfl) (fun h => if_pos h), one chargeList (fun _ _ => rfl) (fun h => if_pos h),
    one chargeLimits (fun _ _ => rfl) (fun h => if_pos h), one chargeRelease (fun _ _ => rfl) (fun h => if_pos h),
    one chargeFeedEnd (fun _ _ => rfl) (fun h => if_pos h), one chargeRetire (fun _ _ => rfl) (fun h => if_pos h),
    one speciesSet (fun _ _ => rfl) (fun h => if_pos h), one speciesRead (fun _ _ => rfl) (fun h => if_pos h),
    two mcTest (fun _ _ => rfl) (fun h => if_pos h), one schedAmend (fun _ _ => rfl) (fun h => if_pos h),
    one schedRead (fun _ _ => rfl) (fun h => if_pos h), one schedDelete (fun _ _ => rfl) (fun h => if_pos h),
    kiln chamberLoad (fun _ _ => rfl) (fun h => if_pos h), kiln chamberStart (fun _ _ => rfl) (fun h => if_pos h),
    kiln chamberHold (fun _ _ => rfl) (fun h => if_pos h), kiln chamberResume (fun _ _ => rfl) (fun h => if_pos h),
    kiln chamberSkip (fun _ _ => rfl) (fun h => if_pos h), kiln chamberReload (fun _ _ => rfl) (fun h => if_pos h),
    kiln chamberAbort (fun _ _ => rfl) (fun h => if_pos h), kiln chamberUnload (fun _ _ => rfl) (fun h => if_pos h),
    kiln chamberRead (fun _ _ => rfl) (fun h => if_pos h), kiln kilnPortSet (fun _ _ => rfl) (fun h => if_pos h),
    kiln kilnPortRead (fun _ _ => rfl) (fun h => if_pos h), one lineSet (fun _ _ => rfl) (fun h => if_pos h),
    one dimensionSet (fun _ _ => rfl) (fun h => if_pos h), one transitRead (fun _ _ => rfl) (fun h => if_pos h),
    one lineRestart (fun _ _ => rfl) (fun h => if_pos h), one planSwitch (fun _ _ => rfl) (fun h => if_pos h),
    one planRead (fun _ _ => rfl) (fun h => if_pos h), one packRead (fun _ _ => rfl) (fun h => if_pos h),
    one packList (fun _ _ => rfl) (fun h => if_pos h), one packClose (fun _ _ => rfl) (fun h => if_pos h),
    one packRelease (fun _ _ => rfl) (fun h => if_pos h), one packReject (fun _ _ => rfl) (fun h => if_pos h),
    one packRetire (fun _ _ => rfl) (fun h => if_pos h), one packNumberSet (fun _ _ => rfl) (fun h => if_pos h),
    one templateRead (fun _ _ => rfl) (fun h => if_pos h), one labelReprint (fun _ _ => rfl) (fun h => if_pos h),
    one labelRead (fun _ _ => rfl) (fun h => if_pos h), one labelPortSet (fun _ _ => rfl) (fun h => if_pos h),
    one labelPortClear (fun _ _ => rfl) (fun h => if_pos h), one attnRead (fun _ _ => rfl) (fun h => if_pos h),
    one attnAck (fun _ _ => rfl) (fun h => if_pos h), one attnMask (fun _ _ => rfl) (fun h => if_pos h), nofun⟩

/-! ## Requests whose length depends on a byte of theirs (R44, R119, R152) -/

section Lengths
variable {s : State} {p : List Byte}

theorem schedDefine_badLength (h : ∀ count, p[1]? = some count → p.length ≠ 2 + 11 * count.toNat) :
    schedDefine p s = .refuse .badLength := by
  refine if_pos ?_
  rcases Nat.lt_or_ge p.length 2 with hp | hp
  · exact .inl hp
  · have hbyte : field p 1 1 = p[1].toNat := field_one _ _ _ (List.getElem?_eq_getElem hp)
    exact .inr (hbyte ▸ h p[1] (List.getElem?_eq_getElem hp))

theorem not_rulePartLength (h : ∀ m, 1 ≤ m → m ≤ 16 → p.length ≠ 2 + 9 * m) : rulePartLength p.length = false := by
  by_contra hr
  simp only [rulePartLength, Bool.not_eq_false, Bool.and_eq_true, decide_eq_true_eq] at hr
  exact h ((p.length - 2) / 9) (by omega) (by omega) (by omega)

theorem planLoad_badLength (h0 : p[0]? ≠ some 0 ∨ p.length ≠ 54)
    (h1 : p[0]? ≠ some 1 ∨ rulePartLength p.length = false) : planLoad p s = .refuse .badLength := by
  cases p with
  | nil => rfl
  | cons k l =>
    simp only [List.getElem?_cons_zero, ne_eq, Option.some.injEq] at h0 h1
    rw [planLoad]
    split_ifs with hk0 hk1
    · exact if_pos (h0.resolve_left (not_not_intro hk0))
    · exact if_pos (by rw [h1.resolve_left (not_not_intro hk1)]; rfl)
    · rfl

theorem templateLoad_badLength (h0 : p[0]? ≠ some 0 ∨ p.length ≠ 3) (h1 : p[0]? ≠ some 1 ∨ p.length < 9) :
    templateLoad p s = .refuse .badLength := by
  cases p with
  | nil => rfl
  | cons k l =>
    simp only [List.getElem?_cons_zero, ne_eq, Option.some.injEq] at h0 h1
    rw [templateLoad]
    split_ifs with hk0 hk1
    · exact if_pos (h0.resolve_left (not_not_intro hk0))
    · exact if_pos (.inl (h1.resolve_left (not_not_intro hk1)))
    · rfl

end Lengths

/-- Every payload of a length that its request does not allow is BAD_LENGTH (R181). -/
theorem wrongLengths_refused {s : State} {p : List Byte} (hr : s.linkReady = true) (hs : s.Settled)
    (hp : p.length ≤ 250) :
    (∀ r ∈ lengthTable, p.length ∉ r.2.2 → Refused r.1 r.2.1 p s .badLength) ∧
    ((∀ count, p[1]? = some count → p.length ≠ 2 + 11 * count.toNat) → Refused .schedDefine 48 p s .badLength) ∧
    (p[0]? ≠ some 0 ∨ p.length ≠ 54 → p[0]? ≠ some 1 ∨ (∀ m, 1 ≤ m → m ≤ 16 → p.length ≠ 2 + 9 * m) →
      Refused .planLoadHeader 112 p s .badLength ∧ Refused .planLoadRules 112 p s .badLength) ∧
    (p[0]? ≠ some 0 ∨ p.length ≠ 3 → p[0]? ≠ some 1 ∨ p.length < 9 →
      Refused .templateLoadHeader 144 p s .badLength ∧ Refused .templateLoadPlacement 144 p s .badLength) := by
  have hdefine : Reaches .schedDefine 48 schedDefine s := fun _ _ => rfl
  have hheader : Reaches .planLoadHeader 112 planLoad s := fun _ _ => rfl
  have hrules : Reaches .planLoadRules 112 planLoad s := fun _ _ => rfl
  have htemplate : Reaches .templateLoadHeader 144 templateLoad s := fun _ _ => rfl
  have hplacement : Reaches .templateLoadPlacement 144 templateLoad s := fun _ _ => rfl
  refine ⟨refused_of_lengthTable hr hs hp, fun h => hdefine.refused hr hp (schedDefine_badLength h), fun h0 h1 => ?_,
    fun h0 h1 => ?_⟩
  · have ho := planLoad_badLength (s := s) h0 (h1.imp_right not_rulePartLength)
    exact ⟨hheader.refused hr hp ho, hrules.refused hr hp ho⟩
  · have ho := templateLoad_badLength (s := s) h0 h1
    exact ⟨htemplate.refused hr hp ho, hplacement.refused hr hp ho⟩

end Sys2Proof.Machine
end

section
/-! The requests refused for a field out of its range, or for a charge that is not live. -/

namespace Sys2Proof.Machine

/-! ## Charges (R5, R7, R8, R20) -/

section Charges
variable {s : State} {number species d t w loaded qmin qp : Nat}

theorem limitsOk_eq_false : limitsOk d t w = false ↔ ¬(d < t ∧ t < w ∧ w ≤ 600) := by
  rw [← limitsOk_iff, Bool.not_eq_true]

theorem quarantineOk_eq_false : quarantineOk qmin qp = false ↔ ¬(20 ≤ qmin ∧ qmin ≤ 1000 ∧ qp ≤ 1000) := by
  rw [← quarantineOk_iff, Bool.not_eq_true]

theorem createCharge_badField (h : number = 0 ∨ 15 < species ∨ ¬(d < t ∧ t < w ∧ w ≤ 600) ∨
    ¬(20 ≤ qmin ∧ qmin ≤ 1000 ∧ qp ≤ 1000)) :
    s.createCharge number species d t w loaded qmin qp = .refuse .badField :=
  if_pos (by rwa [limitsOk_eq_false, quarantineOk_eq_false])

/-- The fields of CHARGE_CREATE, CHARGE_LIMITS and CHARGE_RELEASE out of range, and the charge requests on a
number that no live charge has. -/
theorem chargeFields_refused (hr : s.linkReady = true) (hn : number ≤ 65535) (hs : species ≤ 255)
    (hx : ∀ x ∈ [d, t, w, loaded, qmin, qp], x ≤ 65535) :
    let short := bytes 2 number ++ bytes 1 species ++ bytes 2 d ++ bytes 2 t ++ bytes 2 w ++ bytes 2 loaded
    let limits := bytes 2 number ++ bytes 2 d ++ bytes 2 t ++ bytes 2 w ++ bytes 2 qmin ++ bytes 2 qp
    let ordered := d < t ∧ t < w ∧ w ≤ 600
    let tested := 20 ≤ qmin ∧ qmin ≤ 1000 ∧ qp ≤ 1000
    (number = 0 ∨ 15 < species ∨ ¬ordered → Refused .chargeCreate 16 short s .badField) ∧
    (number = 0 ∨ 15 < species ∨ ¬ordered ∨ ¬tested →
      Refused .chargeCreate 16 (short ++ bytes 2 qmin ++ bytes 2 qp) s .badField) ∧
    (¬ordered ∨ ¬tested → Refused .chargeLimits 19 limits s .badField) ∧
    (1000 < qp → Refused .chargeRelease 20 (bytes 2 number ++ bytes 2 qp) s .badField) ∧
    (s.NoCharge number → (ordered → tested → Refused .chargeLimits 19 limits s .noSuch) ∧
      (qp ≤ 1000 → Refused .chargeRelease 20 (bytes 2 number ++ bytes 2 qp) s .noSuch) ∧
      Refused .chargeFeedEnd 21 (bytes 2 number) s .noSuch ∧
      Refused .chargeRetire 22 (bytes 2 number) s .noSuch) := by
  intro short limits ordered tested
  have hshort : short.length ≤ 250 := by simp [short]
  have hlimits : limits.length ≤ 250 := by simp [limits]
  obtain ⟨hd, ht, hw, hl, hq, hqp⟩ : d ≤ 65535 ∧ t ≤ 65535 ∧ w ≤ 65535 ∧ loaded ≤ 65535 ∧ qmin ≤ 65535 ∧ qp ≤ 65535 := by
    simpa using hx
  have hx4 : ∀ x ∈ [d, t, w, loaded], x ≤ 65535 := by simp [hd, ht, hw, hl]
  have hx5 : ∀ x ∈ [d, t, w, qmin, qp], x ≤ 65535 := by simp [hd, ht, hw, hq, hqp]
  have create : Reaches .chargeCreate 16 chargeCreate s := fun _ _ => rfl
  have limit : Reaches .chargeLimits 19 chargeLimits s := fun _ _ => rfl
  have release : Reaches .chargeRelease 20 chargeRelease s := fun _ _ => rfl
  have feedEnd : Reaches .chargeFeedEnd 21 chargeFeedEnd s := fun _ _ => rfl
  have retire : Reaches .chargeRetire 22 chargeRetire s := fun _ _ => rfl
  refine ⟨fun h => create.refused hr hshort ?_, fun h => create.refused hr (by simp [short]) ?_,
    fun h => limit.refused hr hlimits ?_, fun h => release.refused hr (by simp) ?_,
    fun hno => ⟨fun ho ht => limit.refused hr hlimits ?_, fun hq => release.refused hr (by simp) ?_,
      feedEnd.refused hr (by simp) (onCharge_no hn hno _), retire.refused hr (by simp) (onCharge_no hn hno _)⟩⟩
  · exact (chargeCreate_short hn hs hx4).trans (createCharge_badField (h.imp_right (·.imp_right .inl)))
  · exact (chargeCreate_long hn hs hx).trans (createCharge_badField h)
  · rw [chargeLimits_bytes hn hx5, if_pos (by rwa [limitsOk_eq_false, quarantineOk_eq_false])]
  · rw [chargeRelease_bytes hn hqp, if_pos h]
  · have hok : ¬(limitsOk d t w = false ∨ quarantineOk qmin qp = false) := by
      rw [limitsOk_eq_false, quarantineOk_eq_false]
      exact not_or.mpr ⟨not_not_intro ho, not_not_intro ht⟩
    rw [chargeLimits_bytes hn hx5, if_neg hok, State.findCharge_of_noCharge hno]
  · rw [chargeRelease_bytes hn hqp, if_neg (by omega), State.findCharge_of_noCharge hno]

end Charges

theorem chargeList_refused {s : State} (hr : s.linkReady = true) {start states filter : Nat}
    (h2 : states ≤ 255) (h3 : filter ≤ 255) (h : states = 0 ∨ 31 < states ∨ 1 < filter) :
    Refused .chargeList 18 (bytes 2 start ++ bytes 1 states ++ bytes 1 filter) s .badField := by
  have hx : Reaches .chargeList 18 chargeList s := fun _ _ => rfl
  have hm2 : states % 256 = states := by omega
  have hm3 : filter % 256 = filter := by omega
  refine hx.refused hr (by simp) ?_
  simp only [chargeList, List.length_append, length_bytes, field_bytes_append, List.append_assoc]
  simp [hm2, hm3, h]

/-! ## Species and MC_TEST (R22, R38) -/

/-- A signed field of two bytes is read back (R181). -/
theorem signedField_eq {x : Int} (h1 : -32768 ≤ x) (h2 : x ≤ 32767) {p : List Byte} {pos : Nat}
    (h : field p pos 2 = (x % 65536).toNat) : signedField p pos 2 = x := by
  rw [signedField, h]
  exact twosComplement_signed 2 x (by decide) (by omega) (by omega)

/-- A calibration's fields fit their widths (R22). -/
def Calibration.Fits (k : Calibration) : Prop :=
  k.slope ≤ 65535 ∧ -32768 ≤ k.offset ∧ k.offset ≤ 32767 ∧ k.coeff ≤ 255

theorem readCalibration_eq {k : Calibration} (h : k.Fits) {p : List Byte} {pos : Nat}
    (h1 : field p pos 2 = k.slope % 65536) (h2 : field p (pos + 2) 2 = (k.offset % 65536).toNat % 65536)
    (h3 : field p (pos + 4) 1 = k.coeff % 256) : readCalibration p pos = k := by
  obtain ⟨hs, ho1, ho2, hc⟩ := h
  rw [readCalibration, signedField_eq ho1 ho2 (by omega : field p (pos + 2) 2 = (k.offset % 65536).toNat), h1, h3,
    Nat.mod_eq_of_lt (by omega), Nat.mod_eq_of_lt (by omega)]

/-- The payload of SPECIES_SET (R22). -/
def speciesPayload (code : Nat) (e : Species) : List Byte :=
  bytes 1 code ++ bytes 1 e.group ++ e.name ++ bytes 2 e.meter.slope ++ signedBytes 2 e.meter.offset ++
    bytes 1 e.meter.coeff ++ bytes 2 e.probe.slope ++ signedBytes 2 e.probe.offset ++ bytes 1 e.probe.coeff

theorem speciesSet_payload {s : State} {code : Nat} {e : Species} (hc : code ≤ 255) (hg : e.group ≤ 255)
    (hn : e.name.length = 8) (hm : e.meter.Fits) (hp : e.probe.Fits) : speciesSet (speciesPayload code e) s =
      if 15 < code ∨ 7 < e.group ∨ e.name.all printable = false ∨ e.meter.inRange = false ∨ e.probe.inRange = false then
        .refuse .badField
      else .ok [] { s with species := s.species.set code e } := by
  have hcode : field (speciesPayload code e) 0 1 = code := by
    simp [speciesPayload]
    omega
  have hgroup : field (speciesPayload code e) 1 1 = e.group := by
    simp [speciesPayload]
    omega
  have hname : ((speciesPayload code e).drop 2).take 8 = e.name := by
    simp [speciesPayload, bytes_one, ← hn]
  have hmeter : readCalibration (speciesPayload code e) 10 = e.meter := by
    refine readCalibration_eq hm ?_ ?_ ?_ <;> simp [speciesPayload, hn, signedBytes]
  have hprobe : readCalibration (speciesPayload code e) 15 = e.probe := by
    refine readCalibration_eq hp ?_ ?_ ?_ <;> simp [speciesPayload, hn, signedBytes]
  have hlen : (speciesPayload code e).length = 20 := by simp [speciesPayload, hn]
  rw [speciesSet, if_neg (by simp [hlen])]
  simp only [hcode, hgroup, hname, hmeter, hprobe, Bool.not_eq_eq_eq_not, Bool.not_true]

theorem speciesSet_refused {s : State} (hr : s.linkReady = true) {code : Nat} {e : Species} (hc : code ≤ 255)
    (hg : e.group ≤ 255) (hn : e.name.length = 8) (hk : ∀ k ∈ [e.meter, e.probe], k.Fits)
    (h : 15 < code ∨ 7 < e.group ∨ (∃ b ∈ e.name, b.toNat < 32 ∨ 126 < b.toNat) ∨
      (∃ k ∈ [e.meter, e.probe], k.slope = 0 ∨ 4095 < k.slope ∨ k.offset < -500 ∨ 500 < k.offset)) :
    Refused .speciesSet 32 (speciesPayload code e) s .badField := by
  have hx : Reaches .speciesSet 32 speciesSet s := fun _ _ => rfl
  have hname : e.name.all printable = false ↔ ∃ b ∈ e.name, b.toNat < 32 ∨ 126 < b.toNat := by
    simp only [List.all_eq_false, printable, Bool.and_eq_true, decide_eq_true_eq, not_and_or, Nat.not_le]
  have hrange (k : Calibration) : k.inRange = false ↔ k.slope = 0 ∨ 4095 < k.slope ∨ k.offset < -500 ∨ 500 < k.offset := by
    simp only [Calibration.inRange, Bool.and_eq_false_iff, decide_eq_false_iff_not]
    omega
  obtain ⟨hm, hp⟩ : e.meter.Fits ∧ e.probe.Fits := by simpa using hk
  refine hx.refused hr (by simp [speciesPayload, hn]) ?_
  rw [speciesSet_payload hc hg hn hm hp, if_pos]
  rw [hname, hrange, hrange]
  simpa using h

/-- The fields of MC_TEST out of their ranges (R38). -/
def testBad (code source raw : Nat) (temp : Int) : Prop :=
  15 < code ∨ (source ≠ 1 ∧ source ≠ 2) ∨ 4095 < raw ∨ (source = 1 ∧ (temp < -128 ∨ 127 < temp)) ∨
    (source = 2 ∧ (temp < -400 ∨ 1500 < temp))

/-- MC_TEST refuses a payload that carries a field out of range. -/
theorem mcTest_badField {s : State} {p : List Byte} {code source raw d t w : Nat} {temp : Int}
    (hlen : p.length = 6 ∨ p.length = 12) (hcode : field p 0 1 = code) (hsource : field p 1 1 = source)
    (hraw : field p 2 2 = raw) (htemp : signedField p 4 2 = temp)
    (hlim : p.length = 12 → field p 6 2 = d ∧ field p 8 2 = t ∧ field p 10 2 = w)
    (h : testBad code source raw temp ∨ (p.length = 12 ∧ ¬(d < t ∧ t < w ∧ w ≤ 600))) :
    mcTest p s = .refuse .badField := by
  have hbad : testTempBad source temp = true ↔
      (source = 1 ∧ (temp < -128 ∨ 127 < temp)) ∨ (source = 2 ∧ (temp < -400 ∨ 1500 < temp)) := by
    simp [testTempBad]
  rw [mcTest, if_neg (by omega)]
  refine if_pos ?_
  rw [hcode, hsource, hraw, htemp, hbad]
  rcases h with h | ⟨h12, h⟩
  · rcases h with h | h | h | h | h
    exacts [.inl h, .inr (.inl h), .inr (.inr (.inl h)), .inr (.inr (.inr (.inl (.inl h)))),
      .inr (.inr (.inr (.inl (.inr h))))]
  · obtain ⟨hd, ht, hw⟩ := hlim h12
    rw [hd, ht, hw, limitsOk_eq_false.mpr h]
    exact .inr (.inr (.inr (.inr ⟨h12, rfl⟩)))

theorem mcTest_refused {s : State} (hr : s.linkReady = true) {code source raw d t w : Nat} {temp : Int} (hc : code ≤ 255)
    (hs : source ≤ 255) (hraw : raw ≤ 65535) (h1 : -32768 ≤ temp) (h2 : temp ≤ 32767) (hx : ∀ x ∈ [d, t, w], x ≤ 65535) :
    let short := bytes 1 code ++ bytes 1 source ++ bytes 2 raw ++ signedBytes 2 temp
    (testBad code source raw temp → Refused .mcTest 34 short s .badField) ∧
    (testBad code source raw temp ∨ ¬(d < t ∧ t < w ∧ w ≤ 600) →
      Refused .mcTest 34 (short ++ bytes 2 d ++ bytes 2 t ++ bytes 2 w) s .badField) := by
  intro short
  obtain ⟨hd, ht, hw⟩ : d ≤ 65535 ∧ t ≤ 65535 ∧ w ≤ 65535 := by simpa using hx
  have hreach : Reaches .mcTest 34 mcTest s := fun _ _ => rfl
  have hm (x : Nat) (hx : x ≤ 65535) : x % 65536 = x := by omega
  have hm1 (x : Nat) (hx : x ≤ 255) : x % 256 = x := by omega
  have htemp : (temp % 65536).toNat % 65536 = (temp % 65536).toNat := by omega
  have hshort : short.length = 6 := by simp [short]
  refine ⟨fun h => hreach.refused hr (by omega) ?_, fun h => hreach.refused hr (by simp [short]) ?_⟩
  · refine mcTest_badField (d := 0) (t := 0) (w := 0) (.inl hshort) ?_ ?_ ?_ (signedField_eq h1 h2 ?_) (by omega) (.inl h)
    · simp [short, hm1, hc]
    · simp [short, hm1, hs]
    · simp [short, hm, hraw]
    · simp [short, signedBytes, htemp]
  · have hlen : (short ++ bytes 2 d ++ bytes 2 t ++ bytes 2 w).length = 12 := by simp [short]
    refine mcTest_badField (.inr hlen) ?_ ?_ ?_ (signedField_eq h1 h2 ?_) (fun _ => ⟨?_, ?_, ?_⟩)
      (h.imp_right fun h => ⟨hlen, h⟩)
    · simp [short, hm1, hc]
    · simp [short, hm1, hs]
    · simp [short, hm, hraw]
    · simp [short, signedBytes, htemp]
    · simp [short, hm, hd]
    · simp [short, hm, ht]
    · simp [short, hm, hw]

/-! ## Schedules (R41, R44, R47) -/

/-- A step record out of the ranges of its fields (R41). -/
def stepBad (target depression ramp kind threshold duration action : Nat) : Prop :=
  target < 200 ∨ 1300 < target ∨ 400 < depression ∨ 100 < ramp ∨ kind = 0 ∨ 3 < kind ∨ duration = 0 ∨
    (kind ≠ 1 ∧ (600 < threshold ∨ action = 0 ∨ 2 < action))

section Steps
variable {target depression ramp kind threshold duration action : Nat}

/-- The 11 bytes of a step record (R41). -/
def stepPart (target depression ramp kind threshold duration action : Nat) : List Byte :=
  bytes 2 target ++ bytes 2 depression ++ bytes 1 ramp ++ bytes 1 kind ++ bytes 2 threshold ++ bytes 2 duration ++
    bytes 1 action

theorem readStep_bad (hx : ∀ x ∈ [target, depression, threshold, duration], x ≤ 65535)
    (hy : ∀ x ∈ [ramp, kind, action], x ≤ 255) (h : stepBad target depression ramp kind threshold duration action)
    (rest : List Byte) : readStep (stepPart target depression ramp kind threshold duration action ++ rest) = none := by
  obtain ⟨htarget, hdep, hthr, hdur⟩ :
      target ≤ 65535 ∧ depression ≤ 65535 ∧ threshold ≤ 65535 ∧ duration ≤ 65535 := by simpa using hx
  obtain ⟨hramp, hkind, haction⟩ : ramp ≤ 255 ∧ kind ≤ 255 ∧ action ≤ 255 := by simpa using hy
  have hm (x : Nat) (hx : x ≤ 65535) : x % 65536 = x := by omega
  have hm1 (x : Nat) (hx : x ≤ 255) : x % 256 = x := by omega
  rw [stepBad] at h
  simp only [readStep, stepPart, List.append_assoc, field_append_of_le, length_bytes, field_bytes_append, Nat.reduceLeDiff,
    Nat.reduceSub, Nat.reducePow, hm _ htarget, hm _ hdep, hm _ hthr, hm _ hdur, hm1 _ hramp, hm1 _ hkind, hm1 _ haction]
  split_ifs with h1 h2 h3
  · rfl
  · omega
  · rfl
  · omega

/-- One step record out of range spoils the list of records that it stands in (R44). -/
theorem readSteps_bad {part rest before : List Byte} {i j : Nat} (hb : before.length = 11 * i)
    (h : readStep (part ++ rest) = none) : readSteps (i + 1 + j) (before ++ part ++ rest) = none := by
  induction i generalizing before with
  | zero =>
    obtain rfl : before = [] := List.length_eq_zero_iff.mp (by omega)
    rw [Nat.zero_add, Nat.add_comm, readSteps, List.nil_append, h]
  | succ i ih =>
    have hdrop : (before ++ part ++ rest).drop 11 = before.drop 11 ++ part ++ rest := by
      rw [List.append_assoc, List.drop_append_of_le_length (by omega), ← List.append_assoc]
    rw [show i + 1 + 1 + j = i + 1 + j + 1 by omega, readSteps, hdrop, ih (by rw [List.length_drop]; omega)]
    cases readStep (before ++ part ++ rest) <;> rfl

end Steps

end Sys2Proof.Machine
end

section
/-! Fields of the schedule and chamber requests out of range, and all refusals together. -/

namespace Sys2Proof.Machine

section Requests
variable {s : State} {n : Nat}

theorem badSchedule_iff : badSchedule n = true ↔ n = 0 ∨ 32 < n := by
  simp [badSchedule]

theorem badChamber_iff : badChamber n = true ↔ n = 0 ∨ 12 < n := by
  simp [badChamber]

/-! ## Schedules (R43, R44, R47) -/

theorem schedDefine_badField {p : List Byte} {count : Nat} (hlen : p.length = 2 + 11 * count)
    (hn : field p 0 1 = n) (hc : field p 1 1 = count)
    (h : (n = 0 ∨ 32 < n) ∨ count = 0 ∨ 16 < count ∨ readSteps count (p.drop 2) = none) :
    schedDefine p s = .refuse .badField := by
  rw [schedDefine, if_neg (by omega), hn, hc]
  dsimp only
  split
  · rfl
  · rename_i hok
    rw [badSchedule_iff] at hok
    have hsteps : readSteps count (p.drop 2) = none := by
      rcases h with h | h | h | h
      · exact absurd (.inl h) hok
      · exact absurd (.inr (.inl (by omega))) hok
      · exact absurd (.inr (.inr h)) hok
      · exact h
    rw [hsteps]

theorem schedAmend_badField {p : List Byte} {i : Nat} (hlen : p.length = 13) (hn : field p 0 1 = n)
    (hi : field p 1 1 = i) (h : (n = 0 ∨ 32 < n) ∨ 15 < i ∨ readStep (p.drop 2) = none) :
    schedAmend p s = .refuse .badField := by
  rw [schedAmend, if_neg (by omega), hn, hi]
  dsimp only
  split
  · rfl
  · rename_i hok
    rw [badSchedule_iff] at hok
    have hstep : readStep (p.drop 2) = none := by
      rcases h with h | h | h
      · exact absurd (.inl h) hok
      · exact absurd (.inr h) hok
      · exact h
    rw [hstep]

theorem schedFields_refused (hr : s.linkReady = true) {i j target depression ramp kind threshold duration action : Nat}
    {before after : List Byte} (hn : n ≤ 255) (hx : ∀ x ∈ [target, depression, threshold, duration], x ≤ 65535)
    (hy : ∀ x ∈ [ramp, kind, action], x ≤ 255) (hb : before.length = 11 * i) (ha : after.length = 11 * j)
    (hij : i + 1 + j ≤ 22) :
    let part := stepPart target depression ramp kind threshold duration action
    let badStep := stepBad target depression ramp kind threshold duration action
    let badNumber := n = 0 ∨ 32 < n
    (badNumber ∨ 16 < i + 1 + j ∨ badStep →
      Refused .schedDefine 48 (bytes 1 n ++ bytes 1 (i + 1 + j) ++ before ++ part ++ after) s .badField) ∧
    Refused .schedDefine 48 (bytes 1 n ++ [0]) s .badField ∧
    ∀ index ≤ 255, badNumber ∨ 15 < index ∨ badStep →
      Refused .schedAmend 49 (bytes 1 n ++ bytes 1 index ++ part) s .badField := by
  intro part badStep badNumber
  have hdefine : Reaches .schedDefine 48 schedDefine s := fun _ _ => rfl
  have hamend : Reaches .schedAmend 49 schedAmend s := fun _ _ => rfl
  have hpart : part.length = 11 := by simp [part, stepPart]
  have hm1 (x : Nat) (hx : x ≤ 255) : x % 256 = x := by omega
  refine ⟨fun h => ?_, ?_, fun index hindex h => ?_⟩
  · have hlen : (bytes 1 n ++ bytes 1 (i + 1 + j) ++ before ++ part ++ after).length = 2 + 11 * (i + 1 + j) := by
      simp only [List.length_append, length_bytes, hb, ha, hpart]
      omega
    refine hdefine.refused hr (by omega) (schedDefine_badField (n := n) hlen ?_ ?_ ?_)
    · simp [hm1 n hn]
    · simp [hm1 (i + 1 + j) (by omega)]
    · rcases h with h | h | h
      · exact .inl h
      · exact .inr (.inr (.inl h))
      · have hdrop : (bytes 1 n ++ bytes 1 (i + 1 + j) ++ before ++ part ++ after).drop 2 = before ++ part ++ after := by
          simp [bytes_one]
        rw [hdrop]
        exact .inr (.inr (.inr (readSteps_bad hb (readStep_bad hx hy h after))))
  · refine hdefine.refused hr (by simp) (schedDefine_badField (count := 0) (by simp) rfl ?_ (.inr (.inl rfl)))
    simp [field, beNat]
  · refine hamend.refused hr (by simp [hpart]) (schedAmend_badField (n := n) (i := index) (by simp [hpart]) ?_ ?_ ?_)
    · simp [hm1 n hn]
    · simp [hm1 index hindex]
    · have hdrop : (bytes 1 n ++ bytes 1 index ++ part).drop 2 = part := by simp [bytes_one]
      rw [hdrop, ← List.append_nil part]
      exact h.imp_right (·.imp_right fun h => readStep_bad hx hy h [])

/-! ## Chambers (R67) -/

theorem onChamber_badField (hn : n ≤ 255) (h : n = 0 ∨ 12 < n) (f : Nat → Chamber → Reply) :
    onChamber (bytes 1 n) s f = .refuse .badField := by
  have hm : n % 256 = n := by omega
  rw [onChamber, if_neg (by simp)]
  refine if_pos ?_
  rw [badChamber_iff]
  simpa [hm] using h

theorem chamberFields_refused (hr : s.linkReady = true) (hs : s.Settled) {number k : Nat} (hn : n ≤ 255)
    (hk : k ≤ 255) :
    let badNumber := n = 0 ∨ 12 < n
    (badNumber ∨ k = 0 ∨ 32 < k →
      Refused .chamberLoad 64 (bytes 1 n ++ bytes 2 number ++ bytes 1 k) s .badField) ∧
    (badNumber → ∀ r ∈ ([(.chamberStart, 65), (.chamberHold, 66), (.chamberResume, 67),
        (.chamberSkip, 68), (.chamberReload, 69), (.chamberAbort, 70), (.chamberUnload, 71),
        (.chamberRead, 72)] : List ((Byte → List Byte → Instr) × Byte)),
      Refused r.1 r.2 (bytes 1 n) s .badField) := by
  intro badNumber
  have hm1 (x : Nat) (hx : x ≤ 255) : x % 256 = x := by omega
  refine ⟨fun h => ?_, fun h => ?_⟩
  · have hload : Reaches .chamberLoad 64 chamberLoad s := reaches_of_settled hs fun _ _ => rfl
    have hbad : badChamber n = true ∨ badSchedule k = true := by rwa [badChamber_iff, badSchedule_iff]
    refine hload.refused hr (by simp) ?_
    rw [chamberLoad, if_neg (by simp)]
    refine if_pos ?_
    simpa [hm1 n hn, hm1 k hk] using hbad
  · have one {request : Byte → List Byte → Instr} {code : Byte} (owner : List Byte → State → Reply)
        (hx : ∀ d bs, exec (request d bs) s = .next (s.settle.request code owner d bs))
        (ho : owner (bytes 1 n) s = .refuse .badField) : Refused request code (bytes 1 n) s .badField :=
      (reaches_of_settled hs hx).refused hr (by simp) ho
    simp only [List.forall_mem_cons]
    exact ⟨one chamberStart (fun _ _ => rfl) (onChamber_badField hn h _),
      one chamberHold (fun _ _ => rfl) (onChamber_badField hn h _),
      one chamberResume (fun _ _ => rfl) (onChamber_badField hn h _),
      one chamberSkip (fun _ _ => rfl) (onChamber_badField hn h _),
      one chamberReload (fun _ _ => rfl) (onChamber_badField hn h _),
      one chamberAbort (fun _ _ => rfl) (onChamber_badField hn h _),
      one chamberUnload (fun _ _ => rfl) (onChamber_badField hn h _),
      one chamberRead (fun _ _ => rfl) (onChamber_badField hn h _), nofun⟩

end Requests

/-- Settles O8: lengths first, then the fields of each group of requests. -/
theorem wrongLengthsAndOutOfRangeFieldsAreRefused : Obligations.WrongLengthsAndOutOfRangeFieldsAreRefused := by
  unfold Obligations.WrongLengthsAndOutOfRangeFieldsAreRefused
  intro s hr hs
  refine ⟨⟨fun p hp => wrongLengths_refused hr hs hp, fun number species d t w loaded qmin qp hn hsp hx =>
    chargeFields_refused hr hn hsp hx, fun start states filter _ h2 h3 h => chargeList_refused hr h2 h3 h⟩, ?_, ?_, ?_, ?_⟩
  · exact fun code e hc hg hn hk h => speciesSet_refused hr hc hg hn hk h
  · exact fun code source raw temp d t w hc hso hraw h1 h2 hx => mcTest_refused hr hc hso hraw h1 h2 hx
  · exact fun n i j target depression ramp kind threshold duration action before after hn hx hy hb ha hij =>
      schedFields_refused hr hn hx hy hb ha hij
  · exact fun n number k hn _ hk => chamberFields_refused hr hs hn hk

end Sys2Proof.Machine
end

section
/-! The board-arrival operation for a bin that does not build packs. -/

namespace Sys2Proof.Machine

/-! ## The charge of a board (R13, R14, R34 to R37) -/

/-- The statistics update, with the transit reference that the decision adds (R14, R34, R105). -/
theorem Charge.Counted.eq_addBoard {c c' : Charge} {mc : Option Nat} {cls : MClass} (h : c.Counted mc cls c') :
    c' = { c.addBoard mc cls with transitRef := (c.addBoard mc cls).transitRef + 1 } := by
  have hlow (m : Nat) : lowerOf c.lowest m = some (min m (c.lowest.getD m)) := by
    cases c.lowest with
    | none => simp [lowerOf]
    | some l => simp only [lowerOf, Option.getD_some, Nat.min_def]; split <;> split <;> grind
  have hhigh (m : Nat) : higherOf c.highest m = some (max m (c.highest.getD m)) := by
    cases c.highest with
    | none => simp [higherOf]
    | some l => simp only [higherOf, Option.getD_some, Nat.max_def]; split <;> split <;> grind
  unfold Charge.Counted at h
  subst h
  cases mc with
  | none => rfl
  | some m => cases cls <;> simp [Charge.addBoard, hlow, hhigh]

theorem Charge.trips_iff {c c' : Charge} {mc : Option Nat} (h : c' = { c with transitRef := c.transitRef + 1 }) :
    c'.Trips mc ↔ (mc.isSome && !c.quarantined && c.testTrips) = true := by
  subst h
  simp [Charge.Trips, Charge.testTrips, and_assoc]

theorem Charge.addBoard_kept (c : Charge) (mc : Option Nat) (cls : MClass) :
    (c.addBoard mc cls).number = c.number ∧ (c.addBoard mc cls).quarantined = c.quarantined := by
  cases mc <;> exact ⟨rfl, rfl⟩

theorem State.lookupForBoard_of_only {s : State} {n i : Nat} {c : Charge} (h : s.OnlyCharge n i c)
    (ht : c.takesBoards = true) : s.lookupForBoard n = some (i, c) := by
  obtain ⟨hi, hn, hu⟩ := h
  rcases hf : s.lookupForBoard n with _ | ⟨j, d⟩
  · have := findLive_none.mp hf c (List.mem_of_getElem? (Option.join_eq_some_iff.mp hi))
    simp [hn, ht] at this
  · obtain ⟨-, hj, hd, -⟩ := findLive_some hf
    rw [Nat.sub_zero] at hj
    have hj : s.charge? j = some d := Option.join_eq_some_iff.mpr hj
    simp only [Bool.and_eq_true, decide_eq_true_eq] at hd
    obtain rfl := hu j d hj hd.1
    rw [hi, Option.some.injEq] at hj
    rw [hj]

theorem State.lookupForBoard_eq_none {s : State} {n : Nat}
    (h : ∀ i c, s.charge? i = some c → c.number = n → c.takesBoards = false) : s.lookupForBoard n = none := by
  refine findLive_none.mpr fun c hc => ?_
  obtain ⟨i, hi⟩ := List.mem_iff_getElem?.mp hc
  by_cases hn : c.number = n
  · simp [h i c (Option.join_eq_some_iff.mpr hi) hn]
  · simp [hn]

/-! ## The plan (R116, R117) -/

theorem Rule.matchesBoard_iff (r : Rule) (group grade lengthClass thicknessClass : Nat) (cls : MClass) :
    r.matchesBoard ⟨group, grade, lengthClass, thicknessClass, cls⟩ = true ↔
      group ∈ r.groups ∧ grade ∈ r.grades ∧ r.lengthLo ≤ lengthClass ∧ lengthClass ≤ r.lengthHi ∧
        thicknessClass ∈ r.thickness ∧ cls ∈ r.moisture := by
  simp [Rule.matchesBoard, and_assoc]

theorem Plan.FirstMatch.find? {p : Plan} {group grade lengthClass thicknessClass : Nat} {cls : MClass} {r : Option Rule}
    (h : p.FirstMatch group grade lengthClass thicknessClass cls r) :
    p.rules.find? (fun r => r.matchesBoard ⟨group, grade, lengthClass, thicknessClass, cls⟩) = r := by
  cases r with
  | none =>
    refine List.find?_eq_none.mpr fun x hx hm => h x hx ?_
    exact (Rule.matchesBoard_iff x _ _ _ _ _).mp hm
  | some x =>
    obtain ⟨hx, before, after, hrules, hbefore⟩ := h
    refine List.find?_eq_some_iff_append.mpr ⟨(Rule.matchesBoard_iff x _ _ _ _ _).mpr hx, before, after, hrules,
      fun y hy => ?_⟩
    rw [Bool.not_eq_true', ← Bool.not_eq_true, Rule.matchesBoard_iff]
    exact hbefore y hy

theorem Plan.Decides.eq {p : Plan} {q : Bool} {group grade lengthClass thicknessClass bin : Nat} {cls : MClass}
    {reason : Reason} (h : p.Decides q group grade lengthClass thicknessClass cls bin reason) :
    p.decide q ⟨group, grade, lengthClass, thicknessClass, cls⟩ = (bin, reason) := by
  cases q with
  | true =>
    obtain ⟨rfl, rfl⟩ := h
    rfl
  | false =>
    rw [Plan.decide, if_neg (by decide)]
    rcases h with ⟨r, hm, rfl, rfl⟩ | ⟨hm, rfl, rfl⟩
    · rw [hm.find?]
    · rw [hm.find?]

theorem State.ActivePlan.eq {s : State} {n : Nat} {pl : Plan} (h : s.ActivePlan n pl) :
    s.sorter.activeSlot = n ∧ s.sorter.planOf n = pl := by
  obtain ⟨hn, hp⟩ := h
  exact ⟨hn.symm, by rw [Sorter.planOf, hp, Option.getD_some]⟩

/-! ## The decision written (R95, R105) -/

theorem State.decideEntry_eq {s t : State} (h : t.tracker = s.tracker) (e : Entry) (m : BoardMessage) (slot : Option Nat)
    (mc : Option Nat) (cls : MClass) (reason : Reason) (bin n : Nat) (pack : Option Nat) :
    t.decideEntry e m slot mc cls reason bin n pack =
      t.decidedAs e (s.decisionFor e m slot mc cls reason bin n pack) := by
  simp only [State.decideEntry, h]
  rfl

theorem State.decidedAs_tracker_congr {s t : State} (h : t.tracker = s.tracker) (e : Entry) (d : Decision) :
    (t.decidedAs e d).tracker = (s.decidedAs e d).tracker := by
  simp only [State.decidedAs, State.withQueue, h]

/-- An entry whose gate has not been reached is not due after its decision (R95). -/
theorem State.takeReached_decided {s t : State} {l r : List Entry} {e : Entry} {d : Decision}
    (ht : t.tracker = (s.decidedAs e d).tracker) (hq : s.QueueAt l e r) (hg : d.gateOpen = false)
    (hr : ¬s.Reached d.openPos) (fuel : Nat) : t.takeReached fuel e.sequence = t := by
  have hentry : t.entry? e.sequence = some { e with decision := some d } := by
    refine State.entry?_of_queueAt (l := l) (r := r) (e := { e with decision := some d }) ⟨?_, hq.2⟩
    rw [ht, ← State.setDecision_eq, State.setDecision_of_queueAt hq]
    rfl
  have hpos : t.tracker.position = s.tracker.position := by rw [ht]; rfl
  refine State.takeReached_of_not_due ?_ fuel
  rw [State.dueEvent, hentry]
  refine if_neg ?_
  simp only [State.targetOf, hg, hpos]
  exact fun h => hr ((positionReached_iff s _).mp h)

/-! ## The entry into quarantine leaves the rest alone (R18) -/

theorem State.withdrawFrame_labels (s : State) (k : Nat) :
    s.withdrawFrame k = { s with labels := (s.withdrawFrame k).labels } := by
  simp only [State.withdrawFrame]
  split_ifs <;> rfl

theorem State.withdrawFrame_labels_congr {s t : State} (h : s.labels = t.labels) (k : Nat) :
    (s.withdrawFrame k).labels = (t.withdrawFrame k).labels := by
  unfold State.withdrawFrame
  rw [h]
  dsimp only
  split_ifs
  · rfl
  · rfl
  · exact h

theorem State.withdrawPack_modifyCharge (s : State) (charge k i : Nat) (f : Charge → Charge) :
    (s.modifyCharge i f).withdrawPack charge k = (s.withdrawPack charge k).modifyCharge i f := by
  have hframe (u : State) : (u.modifyCharge i f).withdrawFrame k = (u.withdrawFrame k).modifyCharge i f := by
    rw [State.withdrawFrame_labels (u.modifyCharge i f), State.withdrawFrame_labels_congr (s := u.modifyCharge i f) (t := u) rfl]
    conv_rhs => rw [State.withdrawFrame_labels u]
    rfl
  simp only [State.withdrawPack, show (s.modifyCharge i f).pack? k = s.pack? k from rfl]
  split
  · rfl
  · split
    · split
      · rfl
      · exact congrArg (fun u => State.holdPack u k _) (hframe (s.modifyPack k _))
      · rfl
    · rfl

theorem State.withdrawPacks_modifyCharge (s : State) (charge i : Nat) (f : Charge → Charge) :
    (s.modifyCharge i f).withdrawPacks charge = (s.withdrawPacks charge).modifyCharge i f := by
  unfold State.withdrawPacks
  induction List.range Config.packSlots generalizing s with
  | nil => rfl
  | cons k l ih => rw [List.foldl_cons, List.foldl_cons, State.withdrawPack_modifyCharge, ih]

/-- A change of the charge that does not look at the flag may come before the entry or after it. -/
theorem State.enterQuarantine_modifyCharge (s : State) (i n : Nat) {f : Charge → Charge}
    (hf : ∀ c, f { c with quarantined := true } = { f c with quarantined := true }) :
    (s.enterQuarantine i n).modifyCharge i f = (s.modifyCharge i f).enterQuarantine i n := by
  have hcomm : ((s.modifyCharge i f).modifyCharge i (fun c => { c with quarantined := true })) =
      (s.modifyCharge i (fun c => { c with quarantined := true })).modifyCharge i f := by
    simp only [State.modifyCharge, List.modify_modify_eq]
    congr 2
    funext o
    cases o <;> simp [hf]
  rw [State.enterQuarantine, State.enterQuarantine, hcomm, ← State.withdrawPacks_modifyCharge]
  rfl

@[simp] theorem State.enterQuarantine_sorter (s : State) (i n : Nat) : (s.enterQuarantine i n).sorter = s.sorter := by
  rw [State.enterQuarantine, State.eq_of_apart (State.withdrawPacks_apart _ i)]
  rfl

/-! ## A board arrives (R103) -/

theorem State.planOf_countDecision (s : State) (n : Nat) : (s.countDecision n).sorter.planOf n = s.sorter.planOf n := by
  simp [State.countDecision, State.setPlanSlot, Sorter.planOf, Sorter.slot_setSlot]

/-- A board whose charge is not found is decided for the reject bin (R104, R118). -/
theorem State.arriveUnknown_eq {s : State} {n : Nat} {pl : Plan} (ha : s.ActivePlan n pl) (e : Entry) (m : BoardMessage) :
    s.arriveUnknown e m =
      ((s.decidedAs e (s.decisionFor e m none none .unmeasured .unknownCharge pl.reject n none)).decidedUnder n).raise
        .transit (.transit e.sequence .unknownCharge) := by
  obtain ⟨hn, hp⟩ := ha.eq
  have hplan : (s.countDecision n).sorter.planOf n = pl := by rw [State.planOf_countDecision, hp]
  rw [State.arriveUnknown, hn, State.decideEntry_eq (s := s)]
  · rw [show ((s.countDecision n).raiseTransit e.sequence .unknownCharge).sorter.planOf n = pl from hplan]
    rfl
  · rfl

/-- What a found board's charge is measured as, and the state after its count and its quarantine test. -/
theorem State.measureBoard_eq {s : State} {m : BoardMessage} {slot : Nat} {c c' : Charge} {sp : Species} {mc : Option Nat}
    {cls : MClass} (hsp : s.species[c.species]? = some sp)
    (hmc : (computeReading sp.meter m.raw (meterTemp m.temp)).mc = mc) (hcls : classify c.dry c.wet mc = cls)
    (hc' : c.Counted mc cls c') :
    (c'.Trips mc → s.measureBoard m slot c =
      ((s.modifyCharge slot (fun _ => c.addBoard mc cls)).enterQuarantine slot c.number, ⟨mc, cls, sp.group, true⟩)) ∧
    (¬c'.Trips mc → s.measureBoard m slot c =
      (s.modifyCharge slot (fun _ => c.addBoard mc cls), ⟨mc, cls, sp.group, c.quarantined⟩)) := by
  obtain ⟨hnum, hq⟩ := c.addBoard_kept mc cls
  have hentry : s.speciesEntry c.species = sp := by rw [State.speciesEntry, hsp, Option.getD_some]
  rw [Charge.trips_iff hc'.eq_addBoard, State.measureBoard, hentry, hmc, hcls]
  refine ⟨fun h => ?_, fun h => ?_⟩
  · rw [if_pos h, hnum]
  · rw [if_neg h, hq]

/-- A found board, once measured, is decided for a bin that does not build packs (R103, R105). -/
theorem State.arriveFound_eq {s t : State} {e : Entry} {m : BoardMessage} {slot n : Nat} {c : Charge} {pl : Plan}
    {b : Measured} {bin : Nat} {reason : Reason} (hm : s.measureBoard m slot c = (t, b)) (ha : t.ActivePlan n pl)
    (hd : pl.decide b.quarantined ⟨b.group, m.grade, m.lengthClass, m.thicknessClass, b.cls⟩ = (bin, reason))
    (hb : bin ∉ pl.building) : s.arriveFound e m slot c =
      (((t.modifyCharge slot (fun c => { c with transitRef := c.transitRef + 1 })).decidedAs e
        (s.decisionFor e m (some slot) b.mc b.cls reason bin n none)).decidedUnder n) := by
  obtain ⟨hn, hp⟩ := ha.eq
  have htracker : t.tracker = s.tracker := by
    have := s.measureBoard_tracker m slot c
    rwa [hm] at this
  have hfive : (t.countDecision n).stageFive e.sequence bin reason pl = (t.countDecision n, bin, reason, none) :=
    if_neg (by simpa using hb)
  rw [State.arriveFound, hm]
  dsimp only
  rw [hn, hp, hd, hfive]
  dsimp only
  rw [State.decideEntry_eq (s := s)]
  · rfl
  · exact htracker

theorem State.takesBoards_of_found {c : Charge} (hst : c.state = .dried ∨ c.state = .inFeed ∨ c.state = .fed)
    (hseen : c.seen < 16777215) : c.takesBoards = true := by
  simp only [Charge.takesBoards, Bool.and_eq_true, Bool.or_eq_true, decide_eq_true_eq]
  exact ⟨by tauto, hseen⟩

/-- Settles O41: the lookup, then the measured charge, its quarantine test and the plan's decision. -/
theorem boardDecisionFollowsThePlan : Obligations.BoardDecisionFollowsThePlan := by
  unfold Obligations.BoardDecisionFollowsThePlan
  constructor
  · intro s l e r m n pl hq he ha hno d hd
    have hlookup : s.lookupForBoard m.number = none := State.lookupForBoard_eq_none fun i c hi hn => by
      simp only [Charge.takesBoards]
      rcases hno i c hi hn with hst | hst | hst
      · simp [hst]
      · simp [hst]
      · simp [Config.max24, Nat.not_lt.mpr hst]
    rw [State.arrive, hlookup]
    dsimp only
    rw [State.arriveUnknown_eq ha]
    refine State.takeReached_decided ?_ hq rfl hd 3
    rfl
  · intro s l e r m slot c sp n pl hfound mc cls
    obtain ⟨hq, he, honly, hst, hseen, hsp, ha⟩ := hfound
    constructor
    · intro hraw
      have hmc : mc = none := by simp only [mc, computeReading, if_pos hraw]
      exact ⟨hmc, by simp only [cls, hmc, classify]⟩
    intro c' hc' flagged hflag bin reason hdec hbin d hd
    have hlookup := State.lookupForBoard_of_only honly (State.takesBoards_of_found hst hseen)
    have hcount : (s.modifyCharge slot (fun _ => c.addBoard mc cls)).modifyCharge slot
        (fun c => { c with transitRef := c.transitRef + 1 }) = s.withCharge slot c' := by
      rw [hc'.eq_addBoard, ← State.modifyCharge_eq_withCharge honly.1
        (fun _ => { c.addBoard mc cls with transitRef := (c.addBoard mc cls).transitRef + 1 })]
      simp only [State.modifyCharge, List.modify_modify_eq]
      congr 2
      funext o
      cases o <;> rfl
    have hmeasure := State.measureBoard_eq (m := m) (slot := slot) (mc := mc) (cls := cls) hsp rfl rfl hc'
    constructor
    · intro ht
      have hflagged : flagged = true := hflag.mpr (.inr ht)
      have harrive := State.arriveFound_eq (e := e) (hmeasure.1 ht) (n := n) (pl := pl)
        (by simpa [State.ActivePlan] using ha) (by rw [← hflagged]; exact hdec.eq) hbin
      rw [State.enterQuarantine_modifyCharge _ _ _ (by intro c; rfl), hcount] at harrive
      rw [State.arrive, hlookup]
      dsimp only
      rw [harrive]
      have htracker : ((s.withCharge slot c').enterQuarantine slot c.number).tracker = s.tracker := by simp
      refine State.takeReached_decided ?_ hq rfl hd 3
      exact State.decidedAs_tracker_congr htracker e d
    · intro ht
      have hflagged : flagged = c.quarantined := by
        rw [Bool.eq_iff_iff, hflag]
        simp [ht]
      have harrive := State.arriveFound_eq (e := e) (hmeasure.2 ht) (n := n) (pl := pl) ha
        (by rw [← hflagged]; exact hdec.eq) hbin
      rw [hcount] at harrive
      rw [State.arrive, hlookup]
      dsimp only
      rw [harrive]
      refine State.takeReached_decided ?_ hq rfl hd 3
      rfl

end Sys2Proof.Machine
end

section
/-! The kiln estimate, and the requests SPECIES_SET and SPECIES_READ. -/

namespace Sys2Proof.Machine

/-! ## The kiln estimate (R33) -/

/-- Probes without a mark all count, each with its moisture content. -/
theorem validProbes_eq_map {l : List ProbeResult} (h : ∀ p ∈ l, p.mark = .none → p.mc.isSome = true) :
    validProbes l = (l.filter (fun p => p.mark = .none)).map (fun p => p.mc.getD 0) := by
  rw [validProbes, ← List.filterMap_eq_map']
  refine List.filterMap_congr fun p hp => ?_
  obtain ⟨hmem, hmark⟩ := List.mem_filter.mp hp
  obtain ⟨m, hm⟩ := Option.isSome_iff_exists.mp (h p hmem (of_decide_eq_true hmark))
  simp [hm]

/-- The quotient of R33 is the nearest whole number, a half rounded up. -/
theorem roundedMean_nearest (sum : Nat) {n : Nat} (hn : 0 < n) : ∃ mean, roundedMean sum n = some mean ∧
    2 * sum < (2 * mean + 1) * n ∧ 2 * mean * n ≤ 2 * sum + n := by
  refine ⟨_, if_neg hn.ne', ?_, ?_⟩
  · have hlt := Nat.lt_mul_div_succ (2 * sum + n) (by omega : 0 < 2 * n)
    nlinarith
  · have hle := Nat.mul_div_le (2 * sum + n) (2 * n)
    nlinarith

theorem largest_eq_max? (l : List Nat) : largest l = l.max? := by
  cases l <;> rfl

/-- Settles O17: no valid probe gives no estimate, and one or more give the nearest mean and the maximum. -/
theorem kilnEstimateIsRoundedMeanAndMaximum : Obligations.KilnEstimateIsRoundedMeanAndMaximum := by
  unfold Obligations.KilnEstimateIsRoundedMeanAndMaximum
  intro l h valid
  have hvalid : validProbes l = valid := validProbes_eq_map h
  rw [estimateMean, estimateWettest, hvalid, largest_eq_max?]
  constructor
  · intro hnil
    rw [hnil]
    exact ⟨rfl, rfl⟩
  · intro hne
    obtain ⟨mean, hmean, hlt, hle⟩ := roundedMean_nearest valid.sum (List.length_pos_iff.mpr hne)
    obtain ⟨wettest, hwettest⟩ := Option.isSome_iff_exists.mp (List.isSome_max?_of_ne_nil hne)
    obtain ⟨hmem, hmax⟩ := List.max?_eq_some_iff.mp hwettest
    exact ⟨mean, wettest, hmean, hwettest, hlt, hle, hmem, hmax⟩

/-! ## SPECIES_SET and SPECIES_READ (R22, R23) -/

/-- SPECIES_READ answers in the payload of SPECIES_SET (R23). -/
theorem Species.report_eq (code : Nat) (e : Species) : e.report code = speciesPayload code e := by
  simp [Species.report, speciesPayload, Calibration.bytes]

theorem State.speciesEntry_of_getElem? {s : State} {code : Nat} {e : Species} (h : s.species[code]? = some e) :
    s.speciesEntry code = e := by
  rw [State.speciesEntry, h, Option.getD_some]

theorem speciesRead_bytes {s : State} {code : Nat} (hc : code ≤ 255) : speciesRead (bytes 1 code) s =
    if 15 < code then .refuse .badField else .ok (speciesPayload code (s.speciesEntry code)) s := by
  have hm : code % 256 = code := by omega
  simp [speciesRead, hm, Species.report_eq]

theorem Calibration.inRange_iff {k : Calibration} :
    k.inRange = true ↔ 1 ≤ k.slope ∧ k.slope ≤ 4095 ∧ -500 ≤ k.offset ∧ k.offset ≤ 500 := by
  simp [Calibration.inRange, and_assoc]

/-- A calibration in its ranges is sent in full (R22). -/
theorem Calibration.fits_of_inRange {k : Calibration} (h : k.inRange = true) (hc : k.coeff ≤ 255) : k.Fits := by
  obtain ⟨-, hs, ho1, ho2⟩ := Calibration.inRange_iff.mp h
  exact ⟨by omega, by omega, by omega, hc⟩

/-- Settles O15: what the owners make of the payload, with the code in the table and above it. -/
theorem speciesSetReplacesAndReadReports : Obligations.SpeciesSetReplacesAndReadReports := by
  unfold Obligations.SpeciesSetReplacesAndReadReports
  intro s code e hr hc hn hms1 hms2 hmo1 hmo2 hmc hps1 hps2 hpo1 hpo2 hpc hg hb payload
  have hm : e.meter.inRange = true := Calibration.inRange_iff.mpr ⟨hms1, hms2, hmo1, hmo2⟩
  have hp : e.probe.inRange = true := Calibration.inRange_iff.mpr ⟨hps1, hps2, hpo1, hpo2⟩
  have hname : e.name.all printable = true := by simpa [printable] using hb
  have hset : Reaches .speciesSet 32 speciesSet s := fun _ _ => rfl
  have hread : Reaches .speciesRead 33 speciesRead s := fun _ _ => rfl
  have hlen : (payload e).length ≤ 250 := by simp [payload, hn]
  have hown := speciesSet_payload (s := s) hc (by omega) hn (Calibration.fits_of_inRange hm hmc)
    (Calibration.fits_of_inRange hp hpc)
  refine ⟨fun h15 => hset.answers hr hlen ?_, fun old hold h15 => hread.answers hr (by simp) ?_,
    fun h15 => ⟨hset.refused hr hlen ?_, hread.refused hr (by simp) ?_⟩⟩
  · exact hown.trans (if_neg (by simp [hm, hp, hname]; omega))
  · rw [speciesRead_bytes hc, if_neg (by omega), State.speciesEntry_of_getElem? hold]
    rfl
  · exact hown.trans (if_pos (.inl h15))
  · rw [speciesRead_bytes hc, if_pos h15]

end Sys2Proof.Machine
end

section
/-! MC_TEST: the stages of a reading, the fields of the payload, and the answer. -/

namespace Sys2Proof.Machine

/-! ## The stages of a reading (R25 to R30) -/

theorem clampTemp_eq (t : Int) : clampTemp t = max (-20) (min 99 t) := by
  unfold clampTemp
  split_ifs <;> omega

theorem clampMC_eq (m : Int) : (clampMC m : Int) = max 0 (min 600 m) := by
  unfold clampMC
  split_ifs <;> omega

theorem code_markOf (m : Int) : (markOf m).code = if m < 0 then 1 else if 600 < m then 2 else 0 := by
  unfold markOf
  split_ifs <;> rfl

theorem code_classify (dry wet mc : Nat) :
    (classify dry wet (some mc)).code = if wet ≤ mc then 2 else if mc < dry then 3 else 1 := by
  simp only [classify]
  split_ifs <;> rfl

theorem natAbs_withSign (x : Int) (m : Nat) : (withSign x m).natAbs = m := by
  unfold withSign
  split_ifs
  · rw [Int.natAbs_neg, Int.natAbs_natCast]
  · rw [Int.natAbs_natCast]

theorem withSign_nonneg {x : Int} (h : 0 ≤ x) (m : Nat) : 0 ≤ withSign x m := by
  rw [withSign, if_neg h.not_gt]
  exact Int.natCast_nonneg m

theorem withSign_nonpos {x : Int} (h : x ≤ 0) {m : Nat} (hm : x = 0 → m = 0) : withSign x m ≤ 0 := by
  unfold withSign
  split_ifs <;> omega

/-- The correction is rounded by its magnitude, and keeps the side of 20 degrees that the temperature is on
(R28). -/
theorem correction_spec (k : Calibration) (t : Int) :
    (correction k t).natAbs = (((k.coeff : Int) * (t - 20)).natAbs + 8) / 16 ∧
    (20 ≤ t → 0 ≤ correction k t) ∧ (t < 20 → correction k t ≤ 0) := by
  refine ⟨natAbs_withSign _ _, fun ht => withSign_nonneg (mul_nonneg (by omega) (by omega)) _, fun ht => ?_⟩
  exact withSign_nonpos (mul_nonpos_of_nonneg_of_nonpos (by omega) (by omega)) fun h0 => by rw [h0]; rfl

theorem computeReading_unmeasured (k : Calibration) (t : Int) :
    computeReading k 4095 t = ⟨0, 0, 0, none, .unmeasured⟩ := rfl

theorem computeReading_measured (k : Calibration) {raw : Nat} (t : Int) (h : raw < 4095) :
    computeReading k raw t =
      let m2 := rawConversion k raw - correction k t
      ⟨rawConversion k raw, correction k t, m2, some (clampMC m2), markOf m2⟩ :=
  if_neg (by omega)

/-- The class of a reading is 4 when it is unmeasured (R30). -/
theorem code_classify_reading (k : Calibration) {raw : Nat} (t : Int) (h : raw ≤ 4095) (dry wet : Nat) :
    let mc := (computeReading k raw t).mc
    (classify dry wet mc).code =
      if raw = 4095 then 4 else if wet ≤ mc.getD 65535 then 2 else if mc.getD 65535 < dry then 3 else 1 := by
  intro mc
  rcases h.eq_or_lt with rfl | hlt
  · rfl
  · have hmc : mc = _ := congrArg Reading.mc (computeReading_measured k t hlt)
    rw [hmc, code_classify, if_neg hlt.ne, Option.getD_some]

/-! ## MC_TEST (R38, R39) -/

/-- The bytes of MC_TEST before the limits (R38). -/
def testHead (code source raw : Nat) (temp : Int) : List Byte :=
  bytes 1 code ++ bytes 1 source ++ bytes 2 raw ++ signedBytes 2 temp

/-- The temperature that MC_TEST computes with (R26). -/
def testTemp (meter : Bool) (temp : Int) : Int := if meter then meterTemp temp else probeTemp temp

/-- The reading that MC_TEST computes, with the calibration of its source (R38). -/
def testReading (e : Species) (meter : Bool) (raw : Nat) (temp : Int) : Reading :=
  computeReading (if meter then e.meter else e.probe) raw (testTemp meter temp)

theorem testTemp_eq (meter : Bool) (temp : Int) : testTemp meter temp = max (-20) (min 99 (if meter then temp
    else if temp < 0 then -((temp.natAbs + 5) / 10 : Nat) else ((temp.natAbs + 5) / 10 : Nat))) := by
  cases meter <;> exact clampTemp_eq _

/-- The fields of an MC_TEST payload are read back, with its limits or without. -/
theorem testHead_fields {code source raw : Nat} {temp : Int} (hc : code ≤ 255) (hs : source ≤ 255) (hraw : raw ≤ 65535)
    (h1 : -32768 ≤ temp) (h2 : temp ≤ 32767) (limits : List Byte) :
    let p := testHead code source raw temp ++ limits
    field p 0 1 = code ∧ field p 1 1 = source ∧ field p 2 2 = raw ∧ signedField p 4 2 = temp := by
  intro p
  refine ⟨?_, ?_, ?_, signedField_eq h1 h2 ?_⟩ <;> simp [p, testHead, signedBytes] <;> omega

/-- The limits of an MC_TEST payload stand after its head. -/
theorem field_testHead_append (code source raw : Nat) (temp : Int) (limits : List Byte) {pos w : Nat} (h : 6 ≤ pos) :
    field (testHead code source raw temp ++ limits) pos w = field limits (pos - 6) w :=
  field_append_of_le (l := testHead code source raw temp) h

/-- The limits that MC_TEST may carry (R38). -/
def testLimits (d t w : Nat) : List Byte := bytes 2 d ++ bytes 2 t ++ bytes 2 w

theorem testLimits_fields {d t w : Nat} (hd : d ≤ 65535) (ht : t ≤ 65535) (hw : w ≤ 65535) :
    (testLimits d t w).length = 6 ∧ field (testLimits d t w) 0 2 = d ∧ field (testLimits d t w) 2 2 = t ∧
      field (testLimits d t w) 4 2 = w := by
  refine ⟨by simp [testLimits], ?_, ?_, ?_⟩ <;> simp [testLimits] <;> omega

theorem testTempBad_source (meter : Bool) (temp : Int) : testTempBad (if meter then 1 else 2) temp = false ↔
    if meter then -128 ≤ temp ∧ temp ≤ 127 else -400 ≤ temp ∧ temp ≤ 1500 := by
  cases meter <;> simp [testTempBad]

/-- The class is asked for by giving the limits (R38, R39). -/
theorem testClass_testHead (code source raw : Nat) (temp : Int) (limits : List Byte) (mc : Option Nat) :
    testClass (testHead code source raw temp ++ limits) mc =
      if limits.length = 6 then (classify (field limits 0 2) (field limits 4 2) mc).code else 0 := by
  have hlen : (testHead code source raw temp ++ limits).length = 6 + limits.length := List.length_append
  rw [testClass, hlen, field_testHead_append _ _ _ _ _ (by decide), field_testHead_append _ _ _ _ _ (by decide)]
  exact if_congr (by omega) rfl rfl

/-- MC_TEST on a payload with all fields in range, given with its limits or without. -/
theorem mcTest_accepted {s : State} {code raw : Nat} {temp : Int} {meter : Bool} {e : Species} (hc : code ≤ 15)
    (he : s.species[code]? = some e) (hraw : raw ≤ 4095)
    (ht : if meter then -128 ≤ temp ∧ temp ≤ 127 else -400 ≤ temp ∧ temp ≤ 1500) {limits : List Byte}
    (hl : limits.length = 0 ∨
      (limits.length = 6 ∧ limitsOk (field limits 0 2) (field limits 2 2) (field limits 4 2) = true)) :
    mcTest (testHead code (if meter then 1 else 2) raw temp ++ limits) s =
      .ok (testReport (testTemp meter temp) (testReading e meter raw temp)
        (if limits.length = 6 then (classify (field limits 0 2) (field limits 4 2) (testReading e meter raw temp).mc).code
          else 0)) s := by
  rw [← testClass_testHead code (if meter then 1 else 2) raw temp]
  set p := testHead code (if meter then 1 else 2) raw temp ++ limits with hp
  have hlen : p.length = 6 + limits.length := List.length_append
  have hrange : -400 ≤ temp ∧ temp ≤ 1500 := by split at ht <;> omega
  obtain ⟨hcode, hsource, hrawField, htemp⟩ := testHead_fields (source := if meter then 1 else 2) (raw := raw)
    (temp := temp) (by omega : code ≤ 255) (by split <;> decide) (by omega) (by omega) (by omega) limits
  rw [← hp] at hcode hsource hrawField htemp
  have hlimits : p.length = 12 → limitsOk (field p 6 2) (field p 8 2) (field p 10 2) = true := by
    intro h12
    obtain ⟨-, hok⟩ := hl.resolve_left (by omega)
    simpa only [hp, field_testHead_append _ _ _ _ limits, Nat.reduceLeDiff, Nat.reduceSub] using hok
  have hbad : testTempBad (field p 1 1) (signedField p 4 2) = false := by
    rw [hsource, htemp]
    exact (testTempBad_source meter temp).mpr ht
  have hok : ¬(15 < field p 0 1 ∨ (field p 1 1 ≠ 1 ∧ field p 1 1 ≠ 2) ∨ 4095 < field p 2 2 ∨
      testTempBad (field p 1 1) (signedField p 4 2) = true ∨
      (p.length = 12 ∧ (!limitsOk (field p 6 2) (field p 8 2) (field p 10 2)) = true)) := by
    rintro (h | ⟨h, h'⟩ | h | h | ⟨h12, h⟩)
    · omega
    · cases meter
      · exact h' hsource
      · exact h hsource
    · omega
    · simp [hbad] at h
    · simp [hlimits h12] at h
  rw [mcTest, if_neg (by omega)]
  refine (if_neg hok).trans ?_
  rw [hcode, hsource, hrawField, htemp, State.speciesEntry_of_getElem? he]
  cases meter <;> rfl

/-- Settles O16: the answer reports the stages of `computeReading`, unmeasured or measured. -/
theorem mcTestReportsEveryStage : Obligations.McTestReportsEveryStage := by
  unfold Obligations.McTestReportsEveryStage
  intro s code e raw temp meter hr hc he hraw ht
  have hx : Reaches .mcTest 34 mcTest s := fun _ _ => rfl
  let r := testReading e meter raw temp
  refine ⟨testTemp meter temp, r.m1, r.corr, r.m2, r.mc.getD 65535, r.mark.code, ?_⟩
  intro k whole head answer
  refine ⟨testTemp_eq meter temp, ?_, fun hlt => ?_, ?_, fun d tg w h1 h2 h3 => ?_⟩
  · rintro rfl
    have hread : r = _ := computeReading_unmeasured k (testTemp meter temp)
    rw [hread]
    exact ⟨rfl, rfl, rfl, rfl, rfl⟩
  · obtain ⟨habs, hpos, hneg⟩ := correction_spec k (testTemp meter temp)
    have hread : r = _ := computeReading_measured k (testTemp meter temp) hlt
    rw [hread]
    exact ⟨rfl, habs, hpos, hneg, rfl, clampMC_eq _, code_markOf _⟩
  · have hown := mcTest_accepted hc he hraw ht (limits := []) (.inl rfl)
    rw [List.append_nil] at hown
    exact hx.answers hr (by simp [head]) hown
  · obtain ⟨hlen, hd, htg, hw⟩ := testLimits_fields (d := d) (t := tg) (w := w) (by omega) (by omega) (by omega)
    have hown := mcTest_accepted hc he hraw ht (limits := testLimits d tg w)
      (.inr ⟨hlen, by rw [hd, htg, hw]; exact limitsOk_iff.mpr ⟨h1, h2, h3⟩⟩)
    rw [if_pos hlen, hd, hw, testReading, code_classify_reading _ _ hraw, testLimits, ← List.append_assoc,
      ← List.append_assoc] at hown
    exact hx.answers hr (by simp [head]) hown

end Sys2Proof.Machine
end

section
/-! The requests SCHED_DEFINE, SCHED_AMEND, SCHED_READ and SCHED_DELETE: what their owners make of the values of a
payload, and what they answer for it. -/

namespace Sys2Proof.Machine

section Schedules
variable {s : State} {n : Nat}

/-! ## The payloads (R41, R44, R47) -/

theorem length_of_sendsStep {t : Step} {p : List Byte} (h : SendsStep t p) : p.length = 11 := by
  obtain ⟨-, threshold, action, rfl, -⟩ := h
  simp

theorem length_flatten_of_sendsSteps {steps : List Step} {parts : List (List Byte)}
    (h : List.Forall₂ SendsStep steps parts) : parts.flatten.length = 11 * steps.length := by
  induction h with
  | nil => rfl
  | cons ht _ ih =>
    rw [List.flatten_cons, List.length_append, length_of_sendsStep ht, ih, List.length_cons]
    omega

/-- The two numbers before the step records are read back, and the records stand after them. -/
theorem stepPayload_fields {k : Nat} (hn : n ≤ 255) (hk : k ≤ 255) (records : List Byte) :
    let p := bytes 1 n ++ bytes 1 k ++ records
    p.length = 2 + records.length ∧ field p 0 1 = n ∧ field p 1 1 = k ∧ p.drop 2 = records := by
  have hm (x : Nat) (hx : x ≤ 255) : x % 256 = x := by omega
  refine ⟨?_, ?_, ?_, ?_⟩
  · simp; omega
  · simp [hm n hn]
  · simp [hm k hk]
  · simp [bytes_one]

/-! ## The owners on the values of a payload (R43, R45, R47) -/

theorem schedDefine_sends (h1 : 1 ≤ n) (h2 : n ≤ 32) {steps : List Step} {parts : List (List Byte)}
    (hc1 : 1 ≤ steps.length) (hc2 : steps.length ≤ 16) (h : List.Forall₂ SendsStep steps parts) :
    schedDefine (bytes 1 n ++ bytes 1 steps.length ++ parts.flatten) s =
      (s.schedule? n).elim (.ok (bytes 2 1) (s.setSchedule n (some ⟨1, steps, 0⟩))) fun sc =>
        if 0 < sc.refCount then .refuse .inUse
        else .ok (bytes 2 (nextRevision sc.revision))
          (s.setSchedule n (some ⟨nextRevision sc.revision, steps, sc.refCount⟩)) := by
  obtain ⟨hlen, hn, hc, hrest⟩ := stepPayload_fields (n := n) (k := steps.length) (by omega) (by omega) parts.flatten
  have hflat := length_flatten_of_sendsSteps h
  have hsteps : readSteps steps.length parts.flatten = some steps := by
    simpa using readSteps_of_sends h []
  have hok : ¬(badSchedule n = true ∨ steps.length < 1 ∨ 16 < steps.length) := by
    rw [badSchedule_iff]
    omega
  rw [schedDefine, if_neg (by omega), hn, hc, hrest]
  refine (if_neg hok).trans ?_
  rw [hsteps]
  cases s.schedule? n <;> rfl

theorem schedAmend_sends (h1 : 1 ≤ n) (h2 : n ≤ 32) {i : Nat} (hi : i ≤ 15) {t : Step} {part : List Byte}
    (h : SendsStep t part) : schedAmend (bytes 1 n ++ bytes 1 i ++ part) s =
      (s.schedule? n).elim (.refuse .noSuch) fun sc =>
        if sc.steps.length ≤ i then .refuse .noSuch
        else .ok (bytes 2 (nextRevision sc.revision))
          (s.setSchedule n (some ⟨nextRevision sc.revision, sc.steps.set i t, sc.refCount⟩)) := by
  obtain ⟨hlen, hn, hindex, hrest⟩ := stepPayload_fields (n := n) (k := i) (by omega) (by omega) part
  have hpart := length_of_sendsStep h
  have hstep : readStep part = some t := by simpa using readStep_of_sends h []
  have hok : ¬(badSchedule n = true ∨ 15 < i) := by
    rw [badSchedule_iff]
    omega
  rw [schedAmend, if_neg (by omega), hn, hindex, hrest]
  refine (if_neg hok).trans ?_
  rw [hstep]
  cases s.schedule? n <;> rfl

theorem onSchedule_bytes (hn : n ≤ 255) (f : Nat → Schedule → Reply) : onSchedule (bytes 1 n) s f =
    if badSchedule n = true then .refuse .badField else (s.schedule? n).elim (.refuse .noSuch) (f n) := by
  have hm : n % 256 = n := by omega
  rw [onSchedule, if_neg (by simp), field_bytes_zero, pow_one, hm]
  dsimp only
  cases s.schedule? n <;> rfl

theorem onSchedule_slot (h1 : 1 ≤ n) (h2 : n ≤ 32) (f : Nat → Schedule → Reply) :
    onSchedule (bytes 1 n) s f = (s.schedule? n).elim (.refuse .noSuch) (f n) := by
  rw [onSchedule_bytes (by omega), if_neg (by rw [badSchedule_iff]; omega)]

theorem onSchedule_badField (hn : n ≤ 255) (h : n = 0 ∨ 32 < n) (f : Nat → Schedule → Reply) :
    onSchedule (bytes 1 n) s f = .refuse .badField := by
  rw [onSchedule_bytes hn, if_pos (badSchedule_iff.mpr h)]

end Schedules

/-- Settles O18, on the slot of the number: free, defined and named by no chamber, or named by one. -/
theorem schedDefineCreatesOrReplaces : Obligations.SchedDefineCreatesOrReplaces := by
  unfold Obligations.SchedDefineCreatesOrReplaces
  intro s n steps parts hr h1 h2 hc1 hc2 hparts payload
  have hx : Reaches .schedDefine 48 schedDefine s := fun _ _ => rfl
  have hlen : payload.length ≤ 250 := by
    simp only [payload, List.length_append, length_bytes, length_flatten_of_sendsSteps hparts]
    omega
  have hown := schedDefine_sends (s := s) h1 h2 hc1 hc2 hparts
  refine ⟨fun hfree => hx.answers hr hlen ?_, fun sc hsc href => hx.answers hr hlen ?_,
    fun sc hsc href => hx.refused hr hlen ?_⟩
  · rw [hown, hfree]
    rfl
  · rw [hown, hsc, Option.elim_some, if_neg (by omega), href]
    rfl
  · rw [hown, hsc, Option.elim_some, if_pos href]

/-- Settles O19: SCHED_AMEND on the slot and the step it names, then the two requests on a schedule number alone. -/
theorem schedAmendReadAndDelete : Obligations.SchedAmendReadAndDelete := by
  unfold Obligations.SchedAmendReadAndDelete
  constructor
  · intro s n i step part hr h1 h2 hi hpart payload
    have hx : Reaches .schedAmend 49 schedAmend s := fun _ _ => rfl
    have hlen : payload.length ≤ 250 := by simp [payload, length_of_sendsStep hpart]
    have hown := schedAmend_sends (s := s) h1 h2 hi hpart
    refine ⟨fun sc hsc hstep => hx.answers hr hlen ?_, fun sc hsc hstep => hx.refused hr hlen ?_,
      fun hfree => hx.refused hr hlen ?_⟩
    · rw [hown, hsc, Option.elim_some, if_neg (by omega)]
      rfl
    · rw [hown, hsc, Option.elim_some, if_pos hstep]
    · rw [hown, hfree, Option.elim_none]
  · intro s n hr hn
    have hread : Reaches .schedRead 50 schedRead s := fun _ _ => rfl
    have hdelete : Reaches .schedDelete 51 schedDelete s := fun _ _ => rfl
    refine ⟨fun sc h1 h2 hsc => ⟨hread.answers hr (by simp) ?_, fun href => hdelete.answers hr (by simp) ?_,
        fun href => hdelete.refused hr (by simp) ?_⟩,
      fun h1 h2 hfree => ⟨hread.refused hr (by simp) ?_, hdelete.refused hr (by simp) ?_⟩,
      fun hbad => ⟨hread.refused hr (by simp) (onSchedule_badField hn hbad _),
        hdelete.refused hr (by simp) (onSchedule_badField hn hbad _)⟩⟩
    · rw [schedRead, onSchedule_slot h1 h2, hsc]
      rfl
    · rw [schedDelete, onSchedule_slot h1 h2, hsc, Option.elim_some, if_neg (by omega)]
    · rw [schedDelete, onSchedule_slot h1 h2, hsc, Option.elim_some, if_pos href]
    · rw [schedRead, onSchedule_slot h1 h2, hfree, Option.elim_none]
    · rw [schedDelete, onSchedule_slot h1 h2, hfree, Option.elim_none]

end Sys2Proof.Machine
end

section
/-! The chamber requests: a chamber record replaced, the chamber that a payload names, and what the owners make
of its record. -/

namespace Sys2Proof.Machine

/-! ## A chamber record replaced -/

theorem set1_of_nth1 {α : Type} {l : List α} {n : Nat} {a : α} (h : nth1 l n = some a) : set1 l n a = l := by
  cases n with
  | zero => rfl
  | succ k =>
    obtain ⟨hk, rfl⟩ := List.getElem?_eq_some_iff.mp h
    exact List.set_getElem_self hk

theorem State.setChamber_self {s : State} {n : Nat} {c : Chamber} (h : s.chamber? n = some c) :
    s.setChamber n c = s := by
  rw [State.setChamber, set1_of_nth1 h]

@[simp] theorem State.setChamber_setChamber (s : State) (n : Nat) (a b : Chamber) :
    (s.setChamber n a).setChamber n b = s.setChamber n b := by
  cases n <;> simp [State.setChamber, set1]

@[simp] theorem State.schedule?_setChamber (s : State) (n m : Nat) (c : Chamber) :
    (s.setChamber n c).schedule? m = s.schedule? m := rfl

@[simp] theorem State.charge?_setChamber (s : State) (n i : Nat) (c : Chamber) :
    (s.setChamber n c).charge? i = s.charge? i := rfl

theorem State.modifyRefCount_eq {s : State} {k : Nat} {sc : Schedule} (h : s.schedule? k = some sc) (f : Nat → Nat) :
    s.modifyRefCount k f = s.setSchedule k (some { sc with refCount := f sc.refCount }) := by
  rw [State.modifyRefCount, h]

theorem State.scheduleOf_eq {s : State} {c : Chamber} {k : Nat} {sc : Schedule} (hk : c.schedule = some k)
    (h : s.schedule? k = some sc) : s.scheduleOf c = sc := by
  simp [State.scheduleOf, hk, h]

theorem Schedule.stepAt_eq {sc : Schedule} {i : Nat} {u : Step} (h : sc.steps[i]? = some u) : sc.stepAt i = u := by
  rw [Schedule.stepAt, h, Option.getD_some]

/-- What a chamber held before a step advance leaves no trace in what the advance leaves. -/
theorem AdvanceLeaves.of_setChamber {s t : State} {n : Nat} {c d : Chamber} {how : LastAdvance}
    (h : AdvanceLeaves (s.setChamber n d) n c how t) : AdvanceLeaves s n c how t := by
  intro k sc r slot ch hk hs hr hc hch
  simpa using h k sc r slot ch hk hs hr hc hch

/-! ## Hold causes (R57) -/

theorem Causes.isEmpty_iff (k : Causes) : k.isEmpty = true ↔ k = ⟨false, false, false, false⟩ := by
  rcases k with ⟨a, b, c, d⟩
  simp [Causes.isEmpty, and_assoc]

theorem formedState_inProgress {st : ChamberState} (h : st = .running ∨ st = .hold) (k : Causes) :
    formedState st k = if k = ⟨false, false, false, false⟩ then .running else .hold := if_pos h

/-! ## The chamber that a payload names (R67) -/

section Requests
variable {s : State} {n : Nat} {c : Chamber}

theorem onChamber_chamber (h1 : 1 ≤ n) (h2 : n ≤ 12) (hc : s.chamber? n = some c) (f : Nat → Chamber → Reply) :
    onChamber (bytes 1 n) s f = f n c := by
  have hm : n % 256 = n := by omega
  rw [onChamber, if_neg (by simp), field_bytes_zero, pow_one, hm]
  refine (if_neg ?_).trans (by rw [hc, Option.getD_some])
  rw [badChamber_iff]
  omega

theorem Chamber.not_inProgress (h1 : c.state ≠ .running) (h2 : c.state ≠ .hold) : c.inProgress = false := by
  simp [Chamber.inProgress, h1, h2]

/-! ## CHAMBER_LOAD (R68) -/

/-- The payload of CHAMBER_LOAD is read back. -/
theorem loadPayload_fields {number k : Nat} (hn : n ≤ 255) (hnum : number ≤ 65535) (hk : k ≤ 255) :
    let p := bytes 1 n ++ bytes 2 number ++ bytes 1 k
    p.length = 4 ∧ field p 0 1 = n ∧ field p 1 2 = number ∧ field p 3 1 = k := by
  refine ⟨by simp, ?_, ?_, ?_⟩ <;> simp <;> omega

theorem chamberLoad_bytes {number k : Nat} (h1 : 1 ≤ n) (h2 : n ≤ 12) (hnum : number ≤ 65535) (hk1 : 1 ≤ k)
    (hk2 : k ≤ 32) (hc : s.chamber? n = some c) : chamberLoad (bytes 1 n ++ bytes 2 number ++ bytes 1 k) s =
      match s.findCharge number, s.schedule? k with
      | some (slot, ch), some sc =>
        if c.state ≠ .empty ∨ ch.state ≠ .staged then .refuse .wrongState
        else .ok [] (((s.setChamber n
          { Chamber.reset with state := .loaded, chargeSlot := some slot, schedule := some k }).setSchedule k
            (some { sc with refCount := sc.refCount + 1 })).modifyCharge slot
              (fun ch => { ch with state := .kiln, chamber := some n }))
      | _, _ => .refuse .noSuch := by
  obtain ⟨hlen, hn, hnumber, hsched⟩ := loadPayload_fields (n := n) (number := number) (k := k) (by omega) hnum (by omega)
  have hok : ¬(badChamber n = true ∨ badSchedule k = true) := by
    rw [badChamber_iff, badSchedule_iff]
    omega
  rw [chamberLoad, if_neg (by omega), hn, hnumber, hsched]
  refine (if_neg hok).trans ?_
  rw [hc, Option.getD_some]
  cases s.findCharge number with
  | none => rfl
  | some x =>
    cases hs : s.schedule? k with
    | none => rfl
    | some sc =>
      dsimp only
      rw [State.modifyRefCount_eq (s := s.setChamber n _) hs]

/-- Settles O20: the charge and the schedule found or not, then the states of the chamber and of the charge. -/
theorem chamberLoadTakesAStagedCharge : Obligations.ChamberLoadTakesAStagedCharge := by
  unfold Obligations.ChamberLoadTakesAStagedCharge
  intro s n number k c hr hs h1 h2 hnum hk1 hk2 hc payload
  have hx : Reaches .chamberLoad 64 chamberLoad s := reaches_of_settled hs fun _ _ => rfl
  have hlen : payload.length ≤ 250 := by simp [payload]
  have hown := chamberLoad_bytes h1 h2 hnum hk1 hk2 hc
  refine ⟨fun slot ch sc hch hsc => ?_, fun h => hx.refused hr hlen ?_⟩
  · rw [State.findCharge_of_onlyCharge hch, hsc] at hown
    obtain ⟨hslot, -, -⟩ := hch
    refine ⟨fun he hst => hx.answers hr hlen ?_, fun h => hx.refused hr hlen ?_⟩
    · refine hown.trans ((if_neg (by simp [he, hst])).trans ?_)
      rw [State.modifyCharge_eq_withCharge (s := (s.setChamber n _).setSchedule k _) hslot]
      rfl
    · exact hown.trans (if_pos h)
  · rw [hown]
    rcases h with h | h
    · rw [State.findCharge_of_noCharge h]
    · rw [h]
      cases s.findCharge number <;> rfl

/-! ## CHAMBER_START (R70) -/

theorem startingDry_eq (scan : Option Scan) (target : Nat) : startingDry scan target = match scan with
    | none => target
    | some q => (max 200 (min 1300 q.dry)).toNat := by
  cases scan with
  | none => rfl
  | some q =>
    simp only [startingDry]
    split <;> [skip; split] <;> omega

/-- Settles O21, on whether the chamber is LOADED. -/
theorem chamberStartLoadsTheFirstStep : Obligations.ChamberStartLoadsTheFirstStep := by
  unfold Obligations.ChamberStartLoadsTheFirstStep
  intro s n c hr hs h1 h2 hc
  have hx : Reaches .chamberStart 65 chamberStart s := reaches_of_settled hs fun _ _ => rfl
  refine ⟨fun k sc u hst hk hsc hu => ?_, fun hst => hx.refused hr (by simp) ?_⟩
  · intro dry
    refine hx.answers hr (by simp) ?_
    rw [chamberStart, onChamber_chamber h1 h2 hc, if_neg (not_not_intro hst), State.scheduleOf_eq hk hsc]
    simp only [Schedule.stepAt_eq hu, startingDry_eq, Causes.isEmpty_iff]
    rfl
  · rw [chamberStart, onChamber_chamber h1 h2 hc, if_pos hst]

/-! ## CHAMBER_HOLD and CHAMBER_RESUME (R71, R72) -/

/-- Settles O22: a chamber in progress with its causes re-formed, and any other refused. -/
theorem chamberHoldAndResume : Obligations.ChamberHoldAndResume := by
  unfold Obligations.ChamberHoldAndResume
  intro s n c hr hs h1 h2 hc
  have hhold : Reaches .chamberHold 66 chamberHold s := reaches_of_settled hs fun _ _ => rfl
  have hresume : Reaches .chamberResume 67 chamberResume s := reaches_of_settled hs fun _ _ => rfl
  refine ⟨fun hp => ?_, fun hnr hnh => ?_⟩
  · have hin : c.inProgress = true := c.inProgress_iff.mpr hp
    refine ⟨hhold.answers hr (by simp) ?_, fun h => hresume.answers hr (by simp) ?_,
      fun hq hl => hresume.refused hr (by simp) ?_⟩
    · rw [chamberHold, onChamber_chamber h1 h2 hc, if_neg (by simp [hin]), Chamber.reform_eq,
        formedState_inProgress hp, if_neg (by simp)]
    · have hcause : ¬(c.inProgress = false ∨ c.causes.request = false ∧ c.causes.stepLimit = false) := by
        rw [hin]
        rcases h with h | h <;> simp [h]
      rw [chamberResume, onChamber_chamber h1 h2 hc, if_neg (by simpa using hcause), Chamber.reform_eq]
      simp [formedState_inProgress hp, Causes.code]
      rfl
    · rw [chamberResume, onChamber_chamber h1 h2 hc, if_pos (by simp [hq, hl])]
  · have hin := Chamber.not_inProgress hnr hnh
    refine ⟨hhold.refused hr (by simp) ?_, hresume.refused hr (by simp) ?_⟩
    · rw [chamberHold, onChamber_chamber h1 h2 hc, if_pos (by simp [hin])]
    · rw [chamberResume, onChamber_chamber h1 h2 hc, if_pos (by simp [hin])]

end Requests
end Sys2Proof.Machine
end

section
/-! The chamber requests that leave a step, end a run or report: CHAMBER_SKIP, CHAMBER_RELOAD, CHAMBER_ABORT,
CHAMBER_UNLOAD and CHAMBER_READ. -/

namespace Sys2Proof.Machine

/-! ## CHAMBER_SKIP (R73) -/

theorem State.skipAnswer_of_chamber {s : State} {n : Nat} {c : Chamber} {r : Run} (h : s.chamber? n = some c)
    (hr : c.run = some r) : s.skipAnswer n = bytes 1 c.state.code ++ bytes 1 r.index := by
  simp [State.skipAnswer, h, hr, optBytes]

/-- The chamber that a step advance reaches holds the next step, or is COMPLETE at the last one (R66). -/
theorem AdvanceLeaves.skipAnswer {s t : State} {n : Nat} {c d : Chamber} {how : LastAdvance}
    (h : AdvanceLeaves s n c how t) (hn : s.chamber? n = some d) {k slot : Nat} {sc : Schedule} {r : Run} {ch : Charge}
    (hk : c.schedule = some k) (hs : s.schedule? k = some sc) (hr : c.run = some r) (hc : c.chargeSlot = some slot)
    (hch : s.charge? slot = some ch) :
    t.skipAnswer n = if r.index + 1 < sc.steps.length then bytes 1 c.state.code ++ bytes 1 (r.index + 1)
      else bytes 1 4 ++ bytes 1 r.index := by
  obtain ⟨hnext, hlast⟩ := h k sc r slot ch hk hs hr hc hch
  split
  · rename_i hl
    rw [hnext _ (List.getElem?_eq_getElem hl)]
    exact State.skipAnswer_of_chamber (c := { c with run := some _, lastAdvance := how })
      (State.chamber?_setChamber_same hn _) rfl
  · rename_i hl
    rw [hlast (by omega)]
    exact State.skipAnswer_of_chamber (r := r) (State.chamber?_setChamber_same hn _) hr

/-- Settles O23: the chamber is re-formed without STEP_LIMIT, and the advance of that record says the rest. -/
theorem chamberSkipAdvancesTheStep : Obligations.ChamberSkipAdvancesTheStep := by
  unfold Obligations.ChamberSkipAdvancesTheStep
  intro s n c hr hs h1 h2 hc
  have hx : Reaches .chamberSkip 68 chamberSkip s := reaches_of_settled hs fun _ _ => rfl
  refine ⟨fun hp k sc r slot ch hk hsc hrun hslot hch => ?_, fun hnr hnh => hx.refused hr (by simp) ?_⟩
  · intro free c'
    have hreform : ({ c with causes := { c.causes with stepLimit := false } } : Chamber).reform = c' := by
      rw [Chamber.reform_eq, formedState_inProgress hp]
      simp [c', free]
    have hcode : c'.state.code = if free then 2 else 3 := by
      simp only [c']
      split <;> rfl
    have hleaves : AdvanceLeaves s n c' .skipped ((s.setChamber n c').advanceStep n c' .skipped) :=
      .of_setChamber (State.advanceStep_leaves _ n c' .skipped)
    refine ⟨_, hleaves, hx.answers hr (by simp) ?_⟩
    rw [chamberSkip, onChamber_chamber h1 h2 hc, if_neg (by simp [c.inProgress_iff.mpr hp])]
    simp only [hreform, hleaves.skipAnswer hc hk hsc hrun hslot hch, hcode]
  · rw [chamberSkip, onChamber_chamber h1 h2 hc, if_pos (by simp [Chamber.not_inProgress hnr hnh])]

/-! ## CHAMBER_RELOAD and CHAMBER_ABORT (R74, R75) -/

/-- Settles O24, on the state of the chamber. -/
theorem chamberReloadAndAbort : Obligations.ChamberReloadAndAbort := by
  unfold Obligations.ChamberReloadAndAbort
  intro s n c hr hs h1 h2 hc
  have hreload : Reaches .chamberReload 69 chamberReload s := reaches_of_settled hs fun _ _ => rfl
  have habort : Reaches .chamberAbort 70 chamberAbort s := reaches_of_settled hs fun _ _ => rfl
  refine ⟨fun hp k sc r u hk hsc hrun hu => hreload.answers hr (by simp) ?_,
    fun hnr hnh => hreload.refused hr (by simp) ?_, fun hst => habort.answers hr (by simp) ?_,
    fun hst => habort.answers hr (by simp) ?_, fun hst => habort.refused hr (by simp) ?_⟩
  · rw [chamberReload, onChamber_chamber h1 h2 hc, if_neg (by simp [c.inProgress_iff.mpr hp]),
      State.scheduleOf_eq hk hsc, hrun]
    simp only [Option.map_some, Run.load, Schedule.stepAt_eq hu]
  · rw [chamberReload, onChamber_chamber h1 h2 hc, if_pos (by simp [Chamber.not_inProgress hnr hnh])]
  · have hne : c.state ≠ .empty ∧ c.state ≠ .aborted := by
      rcases hst with h | h | h | h <;> simp [h]
    obtain ⟨hne, hna⟩ := hne
    rw [chamberAbort, onChamber_chamber h1 h2 hc, if_neg hne, if_neg hna]
  · rw [chamberAbort, onChamber_chamber h1 h2 hc, if_neg (by simp [hst]), if_pos hst]
  · rw [chamberAbort, onChamber_chamber h1 h2 hc, if_pos hst]

/-! ## CHAMBER_UNLOAD (R76) -/

/-- Settles O25, on the state of the chamber. -/
theorem chamberUnloadReturnsTheCharge : Obligations.ChamberUnloadReturnsTheCharge := by
  unfold Obligations.ChamberUnloadReturnsTheCharge
  intro s n c hr hs h1 h2 hc
  have hx : Reaches .chamberUnload 71 chamberUnload s := reaches_of_settled hs fun _ _ => rfl
  refine ⟨fun hst k sc slot ch hk hsc hslot hch => hx.answers hr (by simp) ?_, fun hst => hx.refused hr (by simp) ?_⟩
  · have hends : ¬(c.state ≠ .loaded ∧ c.state ≠ .complete ∧ c.state ≠ .aborted) := by
      rcases hst with h | h | h <;> simp [h]
    rw [chamberUnload, onChamber_chamber h1 h2 hc, if_neg hends, hk, hslot, Option.getD_some,
      State.modifyRefCount_eq (s := s.setChamber n .reset) hsc]
    dsimp only
    rw [State.modifyChargeOf_some, State.modifyCharge_eq_withCharge (s := (s.setChamber n .reset).setSchedule k _) hch]
    rfl
  · have hgoes : c.state ≠ .loaded ∧ c.state ≠ .complete ∧ c.state ≠ .aborted := by
      rcases hst with h | h | h <;> simp [h]
    rw [chamberUnload, onChamber_chamber h1 h2 hc, if_pos hgoes]

/-! ## CHAMBER_READ (R77) -/

/-- A chamber that names no live charge reports the number 0. -/
theorem optBytes_number (w : Nat) (o : Option Charge) :
    optBytes w 0 (o.map (·.number)) = bytes w (match o with | none => 0 | some ch => ch.number) := by
  cases o <;> rfl

/-- Settles O26: the codes and the values that stand for absent fields compute to those of R77, and the number of a
charge that is not there is 0. -/
theorem chamberReadReportsTheRecord : Obligations.ChamberReadReportsTheRecord := by
  unfold Obligations.ChamberReadReportsTheRecord
  intro s n c hr hs h1 h2 hc
  have hx : Reaches .chamberRead 72 chamberRead s := reaches_of_settled hs fun _ _ => rfl
  refine hx.answers hr (by simp) ?_
  rw [chamberRead, onChamber_chamber h1 h2 hc, State.chamberReport, optBytes_number]
  rfl

end Sys2Proof.Machine
end

section
/-! The minute tick and the working limits, and what the commands of the kiln side take first. -/

namespace Sys2Proof.Machine

/-! ## The minute tick (R64) -/

theorem nth1_map {α β : Type} (f : α → β) (l : List α) (n : Nat) : nth1 (l.map f) n = (nth1 l n).map f := by
  cases n <;> simp [nth1]

theorem Chamber.countMinute_running {c : Chamber} {r : Run} (hst : c.state = .running) (hr : c.run = some r) :
    c.countMinute = { c with run := some { r with elapsed := min 16777215 (r.elapsed + 1) },
                             limitDue := decide (r.limit ≤ min 16777215 (r.elapsed + 1)) } := by
  simp only [Chamber.countMinute, hst, hr]

theorem Chamber.countMinute_not_running {c : Chamber} (hst : c.state ≠ .running) : c.countMinute = c := by
  unfold Chamber.countMinute
  split
  · exact absurd ‹_› hst
  · rfl

/-- A field event while RESET_N is released. -/
theorem State.fieldEvent_released {s : State} (h : s.resetAsserted = false) (f : State → State) :
    s.fieldEvent f = f s := by
  rw [State.fieldEvent, h]
  rfl

/-! ## The working limit (R64) -/

/-- The second action of a tick on a RUNNING chamber, by the kind and the on-limit action of its step (R64). -/
theorem State.limitAction_running {s : State} {n : Nat} {c : Chamber} {r : Run} (hc : s.chamber? n = some c)
    (hdue : c.limitDue = true) (hst : c.state = .running) (hr : c.run = some r) :
    let c' : Chamber := { c with limitDue := false }
    s.limitAction n =
      if r.step.kind = .time then (s.setChamber n c').advanceStep n c' .time
      else if r.step.onLimit = .advance then (s.setChamber n c').advanceStep n c' .forced
      else (s.setChamber n { c' with state := .hold, causes := { c.causes with stepLimit := true } }).raiseFault
        (!c.causes.stepLimit) n := by
  simp only [State.limitAction, hc, hdue, if_true, hst, hr, Chamber.reform_eq, formedState]
  cases r.step.kind <;> cases r.step.onLimit <;> simp

/-- Settles O27: the chambers one by one for the tick, the kind of the step and its on-limit action for the limit. -/
theorem minuteTicksAndWorkingLimits : Obligations.MinuteTicksAndWorkingLimits := by
  unfold Obligations.MinuteTicksAndWorkingLimits
  constructor
  · intro s hreset hs
    have hexec : exec .minuteTick s = .next { s with chambers := s.chambers.map Chamber.countMinute } := by
      simp only [exec, execMinuteTick, State.fieldEvent_released hreset, State.settle_of_settled hs]
    refine ⟨_, hexec, rfl, List.length_map .., fun n c hc => ?_⟩
    have hcount : nth1 (s.chambers.map Chamber.countMinute) n = some c.countMinute := by
      rw [nth1_map]
      exact congrArg _ hc
    refine ⟨fun r hst hr => hcount.trans ?_, fun hst => hcount.trans ?_⟩
    · rw [Chamber.countMinute_running hst hr]
    · rw [Chamber.countMinute_not_running hst]
  · intro s n c r hreset hc hr
    have hexec : exec (.workingLimitReached n) s = .next (s.limitAction n) := by
      simp only [exec, execWorkingLimitReached, State.fieldEvent_released hreset]
    rw [hexec]
    refine ⟨fun hdue hst => ?_, fun hdue => ?_⟩
    · intro c'
      rw [State.limitAction_running hc hdue hst hr]
      have hleaves (how : LastAdvance) : AdvanceLeaves s n c' how ((s.setChamber n c').advanceStep n c' how) :=
        .of_setChamber (State.advanceStep_leaves _ n c' how)
      refine ⟨fun hk => ⟨_, by rw [if_pos hk], hleaves .time⟩,
        fun hk ho => ⟨_, by rw [if_neg hk, if_pos ho], hleaves .forced⟩, fun hk ho => ?_⟩
      simp only [if_neg hk, ho, State.raiseFault]
      cases c.causes.stepLimit <;> rfl
    · rw [State.limitAction_not_due fun d hd => by rw [hc] at hd; cases hd; exact hdue]

/-! ## What a second action leaves of the chambers (R64) -/

theorem State.advanceStep_chambers (s : State) (n : Nat) (c : Chamber) (how : LastAdvance) {r : Run} (hr : c.run = some r) :
    ∃ c', (s.advanceStep n c how).chambers = (s.setChamber n c').chambers ∧ c'.limitDue = c.limitDue := by
  simp only [State.advanceStep, hr]
  split
  · exact ⟨_, rfl, rfl⟩
  · exact ⟨_, State.modifyChargeOf_chambers .., rfl⟩

theorem State.advanceStep_resetAsserted (s : State) (n : Nat) (c : Chamber) (how : LastAdvance) :
    (s.advanceStep n c how).resetAsserted = s.resetAsserted := by
  unfold State.advanceStep State.completeChamber
  split
  · rfl
  · dsimp only
    split
    · rfl
    · cases c.chargeSlot <;> rfl

@[simp] theorem State.raiseFault_chambers (s : State) (newly : Bool) (n : Nat) :
    (s.raiseFault newly n).chambers = s.chambers := by
  cases newly <;> rfl

@[simp] theorem State.raiseFault_resetAsserted (s : State) (newly : Bool) (n : Nat) :
    (s.raiseFault newly n).resetAsserted = s.resetAsserted := by
  cases newly <;> rfl

/-- The second action of a tick is not due on the chamber. -/
def State.NotDue (s : State) (n : Nat) : Prop := ∀ c, s.chamber? n = some c → c.limitDue = false

/-- A second action replaces the record of its chamber alone, and is not due on it then (R64). -/
theorem State.limitAction_chambers (s : State) (n : Nat) :
    (s.limitAction n).chambers = s.chambers ∧ s.NotDue n ∨
      ∃ c', (s.limitAction n).chambers = (s.setChamber n c').chambers ∧ c'.limitDue = false := by
  unfold State.limitAction State.NotDue
  split
  · rename_i hc
    exact .inl ⟨rfl, fun c h => by rw [hc] at h; cases h⟩
  · rename_i c hc
    split
    · refine .inr ?_
      have hadvance (how : LastAdvance) {r : Run} (hr : c.run = some r) : ∃ c',
          ((s.setChamber n { c with limitDue := false }).advanceStep n { c with limitDue := false } how).chambers =
            (s.setChamber n c').chambers ∧ c'.limitDue = false := by
        obtain ⟨c', hc', hdue⟩ := State.advanceStep_chambers (s.setChamber n { c with limitDue := false }) n
          { c with limitDue := false } how (r := r) hr
        exact ⟨c', by rw [hc', State.setChamber_setChamber], hdue⟩
      dsimp only
      split
      · rename_i r hst hr
        split
        · exact hadvance .time hr
        · exact hadvance .forced hr
        · exact ⟨_, State.raiseFault_chambers .., by rw [Chamber.reform_eq]⟩
      · exact ⟨_, rfl, rfl⟩
    · rename_i hdue
      exact .inl ⟨rfl, fun d h => by rw [hc] at h; cases h; simpa using hdue⟩

@[simp] theorem State.limitAction_resetAsserted (s : State) (n : Nat) :
    (s.limitAction n).resetAsserted = s.resetAsserted := by
  unfold State.limitAction
  split
  · rfl
  · split
    · dsimp only
      split
      · split
        · exact State.advanceStep_resetAsserted ..
        · exact State.advanceStep_resetAsserted ..
        · exact State.raiseFault_resetAsserted ..
      · rfl
    · rfl

theorem State.limitAction_length (s : State) (n : Nat) : (s.limitAction n).chambers.length = s.chambers.length := by
  rcases s.limitAction_chambers n with ⟨h, -⟩ | ⟨c', h, -⟩ <;> rw [h]
  exact length_set1 ..

/-- After a second action, none is due on its chamber, nor on any other that had none due. -/
theorem State.NotDue.limitAction {s : State} {m n : Nat} (h : n = m ∨ s.NotDue m) : (s.limitAction n).NotDue m := by
  intro d hd
  rcases s.limitAction_chambers n with ⟨hch, hn⟩ | ⟨c', hch, hc'⟩
  · rw [State.chamber?, hch] at hd
    rcases h with rfl | h
    · exact hn d hd
    · exact h d hd
  · have hd' : (s.setChamber n c').chamber? m = some d := by rwa [State.chamber?, hch] at hd
    rw [State.chamber?_setChamber] at hd'
    split at hd'
    · obtain ⟨-, -, rfl⟩ := Option.map_eq_some_iff.mp hd'
      exact hc'
    · exact (h.resolve_left ‹_›) d hd'

/-! ## The second actions of a tick, chamber by chamber (R64) -/

/-- The second actions on the chambers `k + 1` for the `k` of a list, in its order. -/
def State.limitActions (s : State) (l : List Nat) : State := l.foldl (fun s k => s.limitAction (k + 1)) s

theorem State.settleTicks_eq (s : State) : s.settleTicks = s.limitActions (List.range 12) := rfl

@[simp] theorem State.limitActions_cons (s : State) (k : Nat) (l : List Nat) :
    s.limitActions (k :: l) = (s.limitAction (k + 1)).limitActions l := rfl

@[simp] theorem State.limitActions_resetAsserted (s : State) (l : List Nat) :
    (s.limitActions l).resetAsserted = s.resetAsserted := by
  induction l generalizing s with
  | nil => rfl
  | cons k l ih => rw [State.limitActions_cons, ih, State.limitAction_resetAsserted]

theorem State.limitActions_length (s : State) (l : List Nat) :
    (s.limitActions l).chambers.length = s.chambers.length := by
  induction l generalizing s with
  | nil => rfl
  | cons k l ih => rw [State.limitActions_cons, ih, State.limitAction_length]

theorem State.notDue_limitActions {s : State} {l : List Nat} {k : Nat} (h : k ∈ l ∨ s.NotDue (k + 1)) :
    (s.limitActions l).NotDue (k + 1) := by
  induction l generalizing s with
  | nil => exact h.resolve_left (by simp)
  | cons j l ih =>
    refine ih ?_
    rw [List.mem_cons] at h
    rcases h with (rfl | h) | h
    · exact .inr (.limitAction (.inl rfl))
    · exact .inl h
    · exact .inr (.limitAction (.inr h))

theorem State.limitActions_of_notDue {s : State} {l : List Nat} (h : ∀ k ∈ l, s.NotDue (k + 1)) :
    s.limitActions l = s := by
  induction l with
  | nil => rfl
  | cons k l ih =>
    rw [List.forall_mem_cons] at h
    rw [State.limitActions_cons, State.limitAction_not_due h.1, ih h.2]

/-! ## What is due is taken once (R64, R81) -/

@[simp] theorem State.startDeferred_resetAsserted (s : State) : s.startDeferred.resetAsserted = s.resetAsserted := by
  unfold State.startDeferred
  split <;> rfl

@[simp] theorem State.startDeferred_chambers (s : State) : s.startDeferred.chambers = s.chambers := by
  unfold State.startDeferred
  split <;> rfl

/-- After a deferred round start, none is outstanding (R81). -/
theorem State.startDeferred_not_pending (s : State) :
    ¬(s.startDeferred.port.round = .idle ∧ s.startDeferred.port.startPending = true) := by
  unfold State.startDeferred
  split
  · rintro ⟨-, h⟩
    exact absurd h (by simp [State.startRound])
  · assumption

@[simp] theorem State.settle_resetAsserted (s : State) : s.settle.resetAsserted = s.resetAsserted := by
  unfold State.settle State.fieldEvent
  split
  · rfl
  · rw [State.startDeferred_resetAsserted, State.settleTicks_eq, State.limitActions_resetAsserted]

theorem State.settle_of_reset {s : State} (h : s.resetAsserted = true) : s.settle = s := if_pos h

theorem State.settle_of_released {s : State} (h : s.resetAsserted = false) :
    s.settle = (s.limitActions (List.range 12)).startDeferred := State.fieldEvent_released h _

theorem State.settle_notDue {s : State} (h : s.resetAsserted = false) {k : Nat} (hk : k < 12) :
    s.settle.NotDue (k + 1) := by
  have hdue : (s.limitActions (List.range 12)).NotDue (k + 1) := State.notDue_limitActions (.inl (List.mem_range.mpr hk))
  rw [State.settle_of_released h]
  intro c hc
  rw [State.chamber?, State.startDeferred_chambers] at hc
  exact hdue c hc

/-- A second settling finds nothing due. -/
theorem State.settle_settle (s : State) : s.settle.settle = s.settle := by
  cases h : s.resetAsserted with
  | true => rw [State.settle_of_reset h, State.settle_of_reset h]
  | false =>
    have hport : ¬(s.settle.port.round = .idle ∧ s.settle.port.startPending = true) := by
      rw [State.settle_of_released h]
      exact State.startDeferred_not_pending _
    rw [State.settle_of_released (s := s.settle) (by simpa using h),
      State.limitActions_of_notDue fun k hk => State.settle_notDue h (List.mem_range.mp hk),
      State.startDeferred, if_neg hport]

theorem State.settled_settle {s : State} (h : s.resetAsserted = false) (hl : s.chambers.length = 12) :
    s.settle.Settled := by
  constructor
  · intro c hc
    obtain ⟨n, hn⟩ := State.mem_chambers.mp hc
    obtain ⟨k, hk, rfl⟩ := nth1_lt hn
    refine State.settle_notDue h ?_ c hn
    rwa [State.settle_of_released h, State.startDeferred_chambers, State.limitActions_length, hl] at hk
  · rw [State.settle_of_released h]
    exact State.startDeferred_not_pending _

/-! ## Commands one after the other -/

theorem Runs.append {s t u : State} {l l' : List Instr} (h : Runs s l t) (h' : Runs t l' u) : Runs s (l ++ l') u := by
  induction l generalizing s with
  | nil => exact h ▸ h'
  | cons c l ih =>
    obtain ⟨v, hv, hl⟩ := h
    exact ⟨v, hv, ih hl⟩

theorem runs_workingLimits (s : State) (l : List Nat) :
    Runs s (l.map fun k => .workingLimitReached (k + 1)) (s.fieldEvent (·.limitActions l)) := by
  induction l generalizing s with
  | nil => exact ite_self s
  | cons k l ih =>
    refine ⟨_, rfl, ?_⟩
    cases h : s.resetAsserted with
    | true => simpa [State.fieldEvent, h] using ih s
    | false => simpa [State.fieldEvent, h] using ih (s.limitAction (k + 1))

/-- A field event that begins by settling is the same on the settled part. -/
theorem State.fieldEvent_settle (s : State) (f : State → State) :
    s.fieldEvent (fun s => f s.settle) = s.settle.fieldEvent (fun s => f s.settle) := by
  cases h : s.resetAsserted with
  | true => rw [State.settle_of_reset h]
  | false => rw [State.fieldEvent_released h, State.fieldEvent_released (by simpa using h), State.settle_settle]

/-- Settles O28: the settling as the run of its commands, twice the same, and at the head of every kiln command. -/
theorem kilnCommandsTakeDueActionsFirst : Obligations.KilnCommandsTakeDueActionsFirst := by
  unfold Obligations.KilnCommandsTakeDueActionsFirst
  refine ⟨fun s => (runs_workingLimits s _).append ⟨_, rfl, ?_⟩, fun s hs => State.settle_of_settled hs,
    fun s h hl => State.settled_settle h hl, fun s d b frames => ?_⟩
  · cases h : s.resetAsserted <;> simp [State.settle, State.fieldEvent, h, State.settleTicks_eq, Runs]
  · have request {c : Instr} {code : Byte} (owner : List Byte → State → Reply)
        (hx : ∀ s, exec c s = .next (s.settle.request code owner d b)) : exec c s = exec c s.settle := by
      rw [hx, hx, State.settle_settle]
    have event {c : Instr} (f : State → State)
        (hx : ∀ s, exec c s = .next (s.fieldEvent (fun s => f s.settle))) : exec c s = exec c s.settle := by
      rw [hx, hx, State.fieldEvent_settle]
    simp only [List.forall_mem_cons]
    exact ⟨request chamberLoad fun _ => rfl, request chamberStart fun _ => rfl, request chamberHold fun _ => rfl,
      request chamberResume fun _ => rfl, request chamberSkip fun _ => rfl, request chamberReload fun _ => rfl,
      request chamberAbort fun _ => rfl, request chamberUnload fun _ => rfl, request chamberRead fun _ => rfl,
      request kilnPortSet fun _ => rfl, request kilnPortRead fun _ => rfl,
      event (fun s => { s with chambers := s.chambers.map Chamber.countMinute }) fun _ => rfl,
      event State.timerExpiry fun _ => rfl, event State.beginTransaction fun _ => rfl,
      event (·.receiveReply (kilnChars frames)) fun _ => rfl, event (·.closeWindow (kilnChars frames)) fun _ => rfl,
      nofun⟩

end Sys2Proof.Machine
end

section
/-! The transaction of the kiln port: the turn of a chamber, the SETPOINT message, and its characters on the line. -/

namespace Sys2Proof.Machine

/-! ## The turn of a chamber (R62, R80, R82) -/

theorem Port.nextTurn_eq (p : Port) (k : Nat) : p.nextTurn k = p.turnOver k := by
  unfold Port.nextTurn Port.turnOver
  split <;> rfl

theorem rampToward_spec (a target ramp : Nat) :
    (ramp = 0 ∨ (a ≤ target + ramp ∧ target ≤ a + ramp) → rampToward a target ramp = target) ∧
    (0 < ramp → a + ramp < target → rampToward a target ramp = a + ramp) ∧
    (0 < ramp → target + ramp < a → rampToward a target ramp = a - ramp) := by
  unfold rampToward
  split <;> [skip; split <;> split] <;> omega

theorem Chamber.compose_running {c : Chamber} {r : Run} (hst : c.state = .running) (hr : c.run = some r) :
    let a := rampToward r.dry r.step.dryTarget r.step.ramp
    c.compose = ({ c with run := some { r with dry := a, wet := a - r.step.depression } },
      ⟨.run, a, a - r.step.depression⟩) := by
  simp only [Chamber.compose, hst, hr]

theorem Chamber.compose_hold {c : Chamber} {r : Run} (hst : c.state = .hold) (hr : c.run = some r) :
    c.compose = (c, ⟨.hold, r.dry, r.wet⟩) := by
  simp only [Chamber.compose, hst, hr]

theorem Chamber.compose_off {c : Chamber} (hnr : c.state ≠ .running) (hnh : c.state ≠ .hold) :
    c.compose = (c, ⟨.off, 0, 0⟩) := by
  unfold Chamber.compose
  split
  · exact absurd ‹_› hnr
  · exact absurd ‹_› hnh
  · rfl

/-- The transaction of the chamber `n`, whose record is `c`, begun with what its composition gives (R83). -/
def State.begun (s : State) (n : Nat) (c : Chamber × Setpoint) : State :=
  { s.setChamber n c.1 with port := { s.port with transaction := some ⟨n, .sending, c.2, []⟩ } }

/-- The turn of a chamber (R82, R83). -/
theorem State.beginTransaction_eq {s : State} {k n : Nat} {c : Chamber} (hround : s.port.round = .polling)
    (hnone : s.port.transaction = none) (hturn : s.port.turn = some k) (hsnap : s.port.snapshot[k]? = some n)
    (hc : s.chamber? n = some c) : s.beginTransaction =
      if c.state = .empty then { s with port := s.port.turnOver k } else s.begun n c.compose := by
  simp only [State.beginTransaction, hround, hnone, hturn, hsnap, hc, Port.nextTurn_eq]
  rfl

theorem State.begun_same {s : State} {n : Nat} {c : Chamber} (hc : s.chamber? n = some c) (m : Setpoint) :
    s.begun n (c, m) = { s with port := { s.port with transaction := some ⟨n, .sending, m, []⟩ } } := by
  rw [State.begun, State.setChamber_self hc]

/-! ## The reply window (R83) -/

theorem State.openWindow_sending {s : State} {t : Transaction} (ht : s.port.transaction = some t)
    (hp : t.phase = .sending) : s.openWindow =
      { s with port := { s.port with transaction := some { t with phase := .listening, received := [] } } } := by
  simp only [State.openWindow, ht, hp, if_true]

/-! ## Characters on the kiln line (R183) -/

/-- The bits of a character on the kiln line: start bit, data bits, parity bit, stop bit. -/
theorem kilnFrame_getLsbD (b : Byte) (i : Nat) : (kilnFrame b).getLsbD i =
    if i = 0 then false else if i < 9 then b.getLsbD (i - 1) else if i = 9 then oddOnes b 0 8 else decide (i = 10) := by
  simp only [kilnFrame, BitVec.getLsbD_append]
  rcases (by omega : i = 0 ∨ (0 < i ∧ i < 9) ∨ i = 9 ∨ 10 ≤ i) with rfl | ⟨h0, h9⟩ | rfl | h
  · rfl
  · rw [if_neg (by omega), if_pos (by omega), if_neg (by omega), if_pos h9]
  · cases oddOnes b 0 8 <;> rfl
  · rw [if_neg (by omega), if_neg (by omega), if_neg (by omega), if_neg (by omega), if_neg (by omega), if_neg (by omega),
      BitVec.getLsbD_one]
    simp
    omega

theorem oddOnes_eq_countP {w : Nat} (f : BitVec w) (i n : Nat) :
    oddOnes f i n = decide ((List.range n).countP (fun j => f.getLsbD (j + i)) % 2 = 1) := by
  induction n generalizing i with
  | zero => rfl
  | succ n ih =>
    rw [oddOnes, ih, List.range_succ_eq_map, List.countP_cons, List.countP_map]
    have hshift : (fun j => f.getLsbD (j + i)) ∘ Nat.succ = fun j => f.getLsbD (j + (i + 1)) := by
      funext j
      rw [Function.comp_apply, Nat.succ_add_eq_add_succ]
    rw [hshift, Nat.zero_add]
    generalize (List.range n).countP _ = m
    cases f.getLsbD i
    · simp
    · rw [if_pos rfl, Bool.true_xor, ← decide_not]
      exact decide_eq_decide.mpr (by omega)

theorem oddOnes_congr {v w : Nat} {f : BitVec v} {g : BitVec w} {i j n : Nat}
    (h : ∀ k < n, f.getLsbD (i + k) = g.getLsbD (j + k)) : oddOnes f i n = oddOnes g j n := by
  induction n generalizing i j with
  | zero => rfl
  | succ n ih =>
    rw [oddOnes, oddOnes, ih fun k hk => ?_]
    · rw [show f.getLsbD i = g.getLsbD j from h 0 (by omega)]
    · have := h (k + 1) (by omega)
      rwa [← Nat.add_assoc, Nat.add_right_comm, ← Nat.add_assoc, Nat.add_right_comm j] at this

theorem oddOnes_succ_last {w : Nat} (f : BitVec w) (i n : Nat) :
    oddOnes f i (n + 1) = (oddOnes f i n ^^ f.getLsbD (i + n)) := by
  induction n generalizing i with
  | zero => simp [oddOnes]
  | succ n ih => rw [oddOnes, ih, oddOnes, Bool.xor_assoc, Nat.add_right_comm, Nat.add_assoc]

/-- The parity of a sent character is even (R183). -/
theorem oddOnes_kilnFrame (b : Byte) : oddOnes (kilnFrame b) 1 9 = false := by
  have hdata : oddOnes (kilnFrame b) 1 8 = oddOnes b 0 8 := oddOnes_congr fun k hk => by
    rw [kilnFrame_getLsbD, if_neg (by omega), if_pos (by omega)]
    congr 1
    omega
  rw [oddOnes_succ_last, hdata, kilnFrame_getLsbD]
  simp

/-- A character sent on the kiln line is received as it was sent (R183). -/
@[simp] theorem kilnChar_kilnFrame (b : Byte) : kilnChar (kilnFrame b) = some ⟨b, false⟩ := by
  have hstart : frameStarts (kilnFrame b) = true := by rw [frameStarts, kilnFrame_getLsbD]; rfl
  have hdata : frameData (kilnFrame b) = b := by
    refine BitVec.eq_of_getLsbD_eq fun i hi => ?_
    rw [frameData_getLsbD, kilnFrame_getLsbD, if_neg (by omega), if_pos (by omega), Nat.add_sub_cancel]
    simp [hi]
  have hstop : (kilnFrame b).getLsbD 10 = true := by rw [kilnFrame_getLsbD]; rfl
  rw [kilnChar, if_pos hstart, hdata, oddOnes_kilnFrame, hstop]
  rfl

/-- Settles O31: the state of the chamber whose turn it is, the message on the line, and one character of it. -/
theorem transactionComposesTheSetpoint : Obligations.TransactionComposesTheSetpoint := by
  unfold Obligations.TransactionComposesTheSetpoint
  refine ⟨fun s k n c hreset hs hround hnone hturn hsnap hc => ?_, fun s t hreset ht hp => ?_, fun b => ?_⟩
  · have hexec : exec .transaction s = .next s.beginTransaction := by
      simp only [exec, execTransaction, State.fieldEvent_released hreset, State.settle_of_settled hs]
    rw [hexec, State.beginTransaction_eq hround hnone hturn hsnap hc]
    refine ⟨fun hst => by rw [if_pos hst], fun r hst hr => ?_, fun r hst hr => ?_, fun hst => ?_⟩
    · obtain ⟨hreach, hup, hdown⟩ := rampToward_spec r.dry r.step.dryTarget r.step.ramp
      refine ⟨_, hreach, hup, hdown, ?_⟩
      rw [if_neg (by simp [hst]), Chamber.compose_running hst hr]
      rfl
    · rw [if_neg (by simp [hst]), Chamber.compose_hold hst hr, State.begun_same hc]
    · have hoff : c.state ≠ .empty ∧ c.state ≠ .running ∧ c.state ≠ .hold := by
        rcases hst with h | h | h <;> simp [h]
      obtain ⟨hne, hnr, hnh⟩ := hoff
      rw [if_neg hne, Chamber.compose_off hnr hnh, State.begun_same hc]
  · have hexec : exec .setpointSent s = .next s.openWindow := by
      simp only [exec, execSetpointSent, State.fieldEvent_released hreset]
    refine ⟨by simp [State.kilnDir, ht, hp], ?_, s.openWindow, hexec, ?_⟩
    · simp only [State.kilnTx, ht, hp, if_true, Transaction.characters]
      rfl
    · rw [State.openWindow_sending ht hp]
      exact ⟨rfl, rfl, rfl⟩
  · have hparity := oddOnes_kilnFrame b
    rw [oddOnes_eq_countP, decide_eq_false_iff_not] at hparity
    refine ⟨?_, fun i hi => ?_, ?_, by omega, kilnChar_kilnFrame b⟩
    · rw [kilnFrame_getLsbD, if_pos rfl]
    · rw [kilnFrame_getLsbD, if_neg (by omega), if_pos (by omega), Nat.add_sub_cancel]
    · rw [kilnFrame_getLsbD]
      rfl

end Sys2Proof.Machine
end

section
/-! A reply of a kiln module that is accepted: its characters, what they carry, and what the chamber makes of it. -/

namespace Sys2Proof.Machine

/-! ## A complete reply (R84, R183) -/

theorem replyLength_of_count {chars : List RxChar} {q : RxChar} (hq : chars[6]? = some q) (h8 : q.value.toNat ≤ 8) :
    replyLength chars = some (7 + 2 * q.value.toNat) := by
  simp only [replyLength, replyCount, hq, Option.map_some]
  exact if_pos h8

/-- A complete reply is received as it is, whatever stands after it (R84, R88). -/
theorem receiveMore_complete {received chars reply extra : List RxChar} {q : RxChar} (h : received ++ chars = reply ++ extra)
    (hq : reply[6]? = some q) (h8 : q.value.toNat ≤ 8) (hl : reply.length = 7 + 2 * q.value.toNat) :
    receiveMore received chars = reply ∧ replyComplete reply = true := by
  have hall : (reply ++ extra)[6]? = some q := by rw [List.getElem?_append_left (by omega), hq]
  constructor
  · simp only [receiveMore, h, replyLength_of_count hall h8]
    exact List.take_left' hl
  · simp [replyComplete, replyLength_of_count hq h8, hl]

/-! ## The bytes of a SCAN message (R183) -/

/-- The bytes of a SCAN message. -/
def scanMessage (n : Nat) (dry wet : Int) (st : Byte) (readings : List Nat) : List Byte :=
  bytes 1 n ++ signedBytes 2 dry ++ signedBytes 2 wet ++ [st] ++ bytes 1 readings.length ++ readings.flatMap (bytes 2)

/-- Bytes that arrive without character error. -/
def clean (p : List Byte) : List RxChar := p.map (fun b => ⟨b, false⟩)

@[simp] theorem charBytes_clean (p : List Byte) : charBytes (clean p) = p :=
  List.map_map.trans (List.map_id p)

theorem clean_any_error (p : List Byte) : (clean p).any (·.error) = false := by
  simp [clean]

section Message
variable {n : Nat} {dry wet : Int} {st : Byte} {readings : List Nat}

theorem length_flatMap_bytes (w : Nat) (l : List Nat) : (l.flatMap (bytes w)).length = w * l.length := by
  simp [List.length_flatMap, Nat.mul_comm]

theorem length_scanMessage : (scanMessage n dry wet st readings).length = 7 + 2 * readings.length := by
  simp only [scanMessage, List.length_append, length_bytes, length_signedBytes, length_flatMap_bytes, List.length_singleton]

theorem scanMessage_count : (scanMessage n dry wet st readings)[6]? = some (BitVec.ofNat 8 readings.length) := by
  simp [scanMessage, signedBytes, bytes]

/-- The fields of a SCAN message are read back. -/
theorem scanMessage_fields (hn : n ≤ 12) (hd1 : -400 ≤ dry) (hd2 : dry ≤ 1500) (hw1 : -400 ≤ wet) (hw2 : wet ≤ 1500)
    (hl : readings.length ≤ 8) :
    let p := scanMessage n dry wet st readings
    field p 0 1 = n ∧ signedField p 1 2 = dry ∧ signedField p 3 2 = wet ∧ field p 5 1 = st.toNat ∧
      field p 6 1 = readings.length ∧ p.drop 7 = readings.flatMap (bytes 2) := by
  refine ⟨?_, signedField_eq (by omega) (by omega) ?_, signedField_eq (by omega) (by omega) ?_, field_one _ _ _ ?_,
    (field_one _ _ _ scanMessage_count).trans ?_, ?_⟩
  · simp [scanMessage]
    omega
  · simp [scanMessage, signedBytes]
    omega
  · simp [scanMessage, signedBytes]
    omega
  · simp [scanMessage, signedBytes, bytes]
  · simp
    omega
  · simp [scanMessage, signedBytes, bytes]

/-- The readings are the low 12 bits of two bytes each (R183). -/
theorem probeReadings_flatMap (l : List Nat) : probeReadings (l.flatMap (bytes 2)) l.length = l.map (· % 4096) := by
  induction l with
  | nil => rfl
  | cons x l ih =>
    have hdrop : (bytes 2 x ++ l.flatMap (bytes 2)).drop 2 = l.flatMap (bytes 2) := List.drop_left' (length_bytes 2 x)
    rw [List.flatMap_cons, List.length_cons, probeReadings, field_bytes_append, hdrop, ih, List.map_cons]
    congr 1
    omega

theorem hasCode_toNat (b : Byte) (i : Nat) : hasCode b.toNat (2 ^ i) = b.getLsbD i := by
  rw [hasCode_two_pow, BitVec.testBit_toNat]

/-- What a SCAN message carries (R86, R183). -/
theorem readScan_scanMessage (hn : n ≤ 12) (hd1 : -400 ≤ dry) (hd2 : dry ≤ 1500) (hw1 : -400 ≤ wet) (hw2 : wet ≤ 1500)
    (hl : readings.length ≤ 8) : readScan (clean (scanMessage n dry wet st readings)) =
      ⟨dry, wet, ⟨st.getLsbD 0, st.getLsbD 1, st.getLsbD 2⟩, readings.map (· % 4096)⟩ := by
  obtain ⟨-, hdry, hwet, hst, hcount, hrest⟩ := scanMessage_fields (st := st) hn hd1 hd2 hw1 hw2 hl
  simp only [readScan, charBytes_clean, hdry, hwet, hst, hcount, hrest, probeReadings_flatMap]
  rw [← hasCode_toNat st 0, ← hasCode_toNat st 1, ← hasCode_toNat st 2]
  rfl

/-- A complete SCAN message of the addressed module with its temperatures in range is accepted (R85). -/
theorem judge_scanMessage (hn : n ≤ 12) (hd1 : -400 ≤ dry) (hd2 : dry ≤ 1500) (hw1 : -400 ≤ wet) (hw2 : wet ≤ 1500)
    (hl : readings.length ≤ 8) (hc : replyComplete (clean (scanMessage n dry wet st readings)) = true) :
    judge n (clean (scanMessage n dry wet st readings)) = .accepted := by
  obtain ⟨haddr, hdry, hwet, -⟩ := scanMessage_fields (st := st) hn hd1 hd2 hw1 hw2 hl
  simp [judge, clean_any_error, hc, haddr, hdry, hwet, actualInRange, hd1, hd2, hw1, hw2]

end Message

/-! ## The records of a chamber do not look at the port -/

theorem State.advanceStep_port (s : State) (p : Port) (n : Nat) (c : Chamber) (how : LastAdvance) :
    ({ s with port := p } : State).advanceStep n c how = { s.advanceStep n c how with port := p } := by
  have hsc : ({ s with port := p } : State).scheduleOf c = s.scheduleOf c := rfl
  unfold State.advanceStep
  rw [hsc]
  split
  · rfl
  · dsimp only
    split
    · rfl
    · unfold State.completeChamber
      cases c.chargeSlot <;> rfl

theorem State.testMoisture_port (s : State) (p : Port) (n : Nat) (c : Chamber) :
    ({ s with port := p } : State).testMoisture n c = { s.testMoisture n c with port := p } := by
  unfold State.testMoisture
  split
  · split
    · exact s.advanceStep_port p n c .moisture
    · rfl
  · rfl

theorem State.acceptScan_port (s : State) (p : Port) (n : Nat) (sc : ScanReadings) :
    ({ s with port := p } : State).acceptScan n sc = { s.acceptScan n sc with port := p } := by
  have hcal (c : Chamber) : ({ s with port := p } : State).probeCalibration c = s.probeCalibration c := rfl
  have hchamber : ({ s with port := p } : State).chamber? n = s.chamber? n := rfl
  unfold State.acceptScan
  simp only [hcal, hchamber]
  split
  · rfl
  · rename_i c hc
    split
    · rfl
    · rw [← State.testMoisture_port]
      congr 1
      unfold State.raiseFault
      split <;> rfl

/-! ## The end of a transaction that was accepted (R86) -/

theorem State.endTransaction_accepted {s : State} {t : Transaction} {k : Nat} (hturn : s.port.turn = some k)
    (chars : List RxChar) : s.endTransaction t .accepted chars =
      { s.acceptScan t.chamber (readScan chars) with port := s.port.served k t.chamber ⟨0, .accepted⟩ } := by
  simp only [State.endTransaction, if_true, State.acceptScan_port, hturn, Module.after, Port.nextTurn_eq]
  rfl

theorem State.receiveReply_accepted {s : State} {t : Transaction} {k : Nat} {chars reply : List RxChar}
    (ht : s.port.transaction = some t) (hp : t.phase = .listening) (hturn : s.port.turn = some k)
    (hreply : receiveMore t.received chars = reply) (hc : replyComplete reply = true)
    (hj : judge t.chamber reply = .accepted) : s.receiveReply chars =
      { s.acceptScan t.chamber (readScan reply) with port := s.port.served k t.chamber ⟨0, .accepted⟩ } := by
  simp only [State.receiveReply, ht, hp, hreply, hc, hj, if_true, State.endTransaction_accepted hturn]

/-- A SCAN message of the addressed module arrives whole and is handed to its chamber (R84 to R86). -/
theorem State.receiveReply_scanMessage {s : State} {t : Transaction} {k : Nat} {dry wet : Int} {st : Byte}
    {readings : List Nat} {chars extra : List RxChar} (ht : s.port.transaction = some t) (hp : t.phase = .listening)
    (hturn : s.port.turn = some k) (hn : t.chamber ≤ 12) (hd1 : -400 ≤ dry) (hd2 : dry ≤ 1500) (hw1 : -400 ≤ wet)
    (hw2 : wet ≤ 1500) (hl : readings.length ≤ 8)
    (hchars : t.received ++ chars = clean (scanMessage t.chamber dry wet st readings) ++ extra) : s.receiveReply chars =
      { s.acceptScan t.chamber
          ⟨dry, wet, ⟨st.getLsbD 0, st.getLsbD 1, st.getLsbD 2⟩, readings.map (· % 4096)⟩ with
        port := s.port.served k t.chamber ⟨0, .accepted⟩ } := by
  have hcount : (BitVec.ofNat 8 readings.length : Byte).toNat = readings.length := by simp; omega
  obtain ⟨hreceived, hcomplete⟩ := receiveMore_complete (q := ⟨BitVec.ofNat 8 readings.length, false⟩) hchars
    (by simp [clean, scanMessage_count]) (by rw [hcount]; exact hl)
    (by rw [hcount, clean, List.length_map]; exact length_scanMessage)
  rw [State.receiveReply_accepted ht hp hturn hreceived hcomplete (judge_scanMessage hn hd1 hd2 hw1 hw2 hl hcomplete),
    readScan_scanMessage hn hd1 hd2 hw1 hw2 hl]

/-! ## An accepted scan handed to a chamber (R60, R65, R89) -/

theorem State.acceptScan_empty {s : State} {n : Nat} {c : Chamber} (hc : s.chamber? n = some c) (he : c.state = .empty)
    (sc : ScanReadings) : s.acceptScan n sc = s := by
  simp only [State.acceptScan, hc, he, if_true]

theorem State.acceptScan_taken {s : State} {n : Nat} {c : Chamber} (hc : s.chamber? n = some c) (he : c.state ≠ .empty)
    (sc : ScanReadings) : s.acceptScan n sc =
      let c' := c.takeScan (s.probeCalibration c) sc
      ((s.setChamber n c').raiseFault (sc.status.anyFault && !c.causes.module) n).testMoisture n c' := by
  simp only [State.acceptScan, hc, if_neg he]

/-- The moisture test advances a RUNNING chamber whose estimate has reached the threshold (R65). -/
theorem State.testMoisture_eq (s : State) (n : Nat) (c : Chamber) : s.testMoisture n c =
    if c.state = .running ∧ c.run.any (fun r => moistureReached r.step c) = true then s.advanceStep n c .moisture else s := by
  unfold State.testMoisture
  split
  · rename_i r hst hr
    simp [hst, hr]
  · rename_i hne
    rw [if_neg]
    rintro ⟨hst, hany⟩
    cases hr : c.run with
    | none => simp [hr] at hany
    | some r => exact hne r hst hr

theorem State.probeCalibration_eq {s : State} {c : Chamber} {slot : Nat} {ch : Charge} {e : Species}
    (hslot : c.chargeSlot = some slot) (hch : s.charge? slot = some ch) (he : s.species[ch.species]? = some e) :
    s.probeCalibration c = e.probe := by
  simp [State.probeCalibration, hslot, hch, State.speciesEntry_of_getElem? he]

/-- Settles O32: the message read from the characters, the scan handed to the chamber, and its moisture test. -/
theorem acceptedScanUpdatesTheChamber : Obligations.AcceptedScanUpdatesTheChamber := by
  unfold Obligations.AcceptedScanUpdatesTheChamber
  intro s tr k n c dry wet st readings got frames extra hreset hs htr hp hn hn12 hgot hturn hc hd1 hd2 hw1 hw2 hl hchars port
  subst hn hgot
  let scan : ScanReadings :=
    ⟨dry, wet, ⟨st.getLsbD 0, st.getLsbD 1, st.getLsbD 2⟩, readings.map (· % 4096)⟩
  have hexec : exec (.scanReply frames) s = .next { s.acceptScan tr.chamber scan with port := port } := by
    simp only [exec, execScanReply, State.fieldEvent_released hreset, State.settle_of_settled hs]
    exact congrArg _ (State.receiveReply_scanMessage htr hp hturn hn12 hd1 hd2 hw1 hw2 hl hchars)
  rw [hexec]
  refine ⟨fun he => by rw [State.acceptScan_empty hc he], fun slot ch e he hslot hch hsp => ?_⟩
  intro flags probes fault causes c' taken told reached
  have hprobes : (readings.map (· % 4096)).map (probeResult e.probe (probeTemp dry)) = probes := List.map_map ..
  have hmin : (if dry < wet then dry else wet) = min wet dry := by split <;> omega
  have htaken : c.takeScan (s.probeCalibration c) scan = c' := by
    rw [State.probeCalibration_eq hslot hch hsp, Chamber.takeScan_eq, Chamber.reform_eq]
    simp only [Chamber.scanned, scan, hprobes, hmin, List.length_map]
    rfl
  have hscan : s.acceptScan tr.chamber scan = told.testMoisture tr.chamber c' := by
    rw [State.acceptScan_taken hc he, htaken]
    rfl
  refine ⟨_, by rw [hscan], fun hnot => ?_, fun hreach => ?_⟩
  · exact (State.testMoisture_eq ..).trans (if_neg hnot)
  · rw [(State.testMoisture_eq ..).trans (if_pos hreach)]
    exact State.advanceStep_leaves told tr.chamber c' .moisture

end Sys2Proof.Machine
end

section
/-! RESET_N: what is taken while it is asserted, and the transfer that straddles its release. -/

namespace Sys2Proof.Machine

/-! ## Field events and transfers (R173 to R178) -/

/-- The command is a field event, and is taken as one. -/
def IsFieldEvent (c : Instr) : Prop :=
  encodeTransfer c = none ∧ ∃ f : State → State, ∀ s, exec c s = .next (s.fieldEvent f)

/-- The command is a transfer of the link, and is passed over while the link takes none. -/
def IsTransfer (c : Instr) : Prop :=
  ∃ bs, encodeTransfer c = some bs ∧
    ∀ s : State, s.linkReady = false → s.settle = s → exec c s = .next (s.skipTransfer bs.length)

theorem isTransfer_of_request {c : Instr} {code d : Byte} {bs : List Byte} {owner : List Byte → State → Reply}
    (he : encodeTransfer c = some (code :: d :: bs)) (hx : ∀ s, exec c s = .next (s.request code owner d bs)) :
    IsTransfer c := by
  refine ⟨_, he, fun s hr _ => ?_⟩
  rw [hx, State.request_not_ready hr, List.length_cons, List.length_cons, Nat.add_comm]

theorem isTransfer_of_settledRequest {c : Instr} {code d : Byte} {bs : List Byte} {owner : List Byte → State → Reply}
    (he : encodeTransfer c = some (code :: d :: bs)) (hx : ∀ s, exec c s = .next (s.settle.request code owner d bs)) :
    IsTransfer c := by
  refine ⟨_, he, fun s hr hs => ?_⟩
  rw [hx, hs, State.request_not_ready hr, List.length_cons, List.length_cons, Nat.add_comm]

theorem isTransfer_readAnswer (mosi : List Byte) : IsTransfer (.readAnswer mosi) :=
  ⟨_, rfl, fun s hr _ => by simp [exec, execReadAnswer, hr, Nat.add_comm]⟩

theorem isTransfer_brokenRequestTransfer (received : List Byte) : IsTransfer (.brokenRequestTransfer received) :=
  ⟨_, rfl, fun s hr _ => by simp [exec, execBrokenRequestTransfer, hr]⟩

theorem isTransfer_emptyTransfer : IsTransfer .emptyTransfer :=
  ⟨_, rfl, fun s hr _ => by simp [exec, execEmptyTransfer, hr]⟩

theorem isTransfer_unknownRequest (code d : Byte) (bs : List Byte) : IsTransfer (.unknownRequest code d bs) :=
  ⟨_, rfl, fun s hr _ => by
    simp [exec, execUnknownRequest, hr, State.request_not_ready hr, Nat.add_comm 2]⟩

/-- Every command but those of power and of RESET_N is a field event or a transfer. -/
theorem isFieldEvent_or_isTransfer {c : Instr} (h1 : c ≠ .powerOn) (h2 : c ≠ .resetNAssert)
    (h3 : ∀ b, c ≠ .resetNRelease b) : IsFieldEvent c ∨ IsTransfer c := by
  cases c with
  | powerOn => exact absurd rfl h1
  | resetNAssert => exact absurd rfl h2
  | resetNRelease b => exact absurd rfl (h3 b)
  | readAnswer mosi => exact .inr (isTransfer_readAnswer mosi)
  | brokenRequestTransfer received => exact .inr (isTransfer_brokenRequestTransfer received)
  | emptyTransfer => exact .inr isTransfer_emptyTransfer
  | unknownRequest code d bs => exact .inr (isTransfer_unknownRequest code d bs)
  | partIdent d bs | chargeCreate d bs | chargeRead d bs | chargeList d bs | chargeLimits d bs | chargeRelease d bs
  | chargeFeedEnd d bs | chargeRetire d bs | speciesSet d bs | speciesRead d bs | mcTest d bs | schedDefine d bs
  | schedAmend d bs | schedRead d bs | schedDelete d bs | lineSet d bs | dimensionSet d bs | transitRead d bs
  | lineRestart d bs | planLoadHeader d bs | planLoadRules d bs | planSwitch d bs | planRead d bs | packRead d bs
  | packList d bs | packClose d bs | packRelease d bs | packReject d bs | packRetire d bs | packNumberSet d bs
  | templateLoadHeader d bs | templateLoadPlacement d bs | templateRead d bs | labelReprint d bs | labelRead d bs
  | labelPortSet d bs | labelPortClear d bs | attnRead d bs | attnAck d bs | attnMask d bs =>
    exact .inr (isTransfer_of_request rfl fun _ => rfl)
  | chamberLoad d bs | chamberStart d bs | chamberHold d bs | chamberResume d bs | chamberSkip d bs | chamberReload d bs
  | chamberAbort d bs | chamberUnload d bs | chamberRead d bs | kilnPortSet d bs | kilnPortRead d bs =>
    exact .inr (isTransfer_of_settledRequest rfl fun _ => rfl)
  | minuteTick | workingLimitReached | roundTimerExpiry | deferredRoundStart | transaction | setpointSent | scanReply
  | replyWindowClose | encPulse | edge | expiry | boardMessage | openEvent | closeEvent | composition | lblStart | rowRead
  | lblEnd | passTimeoutExpiry | startCharacter =>
    exact .inl ⟨rfl, _, fun _ => rfl⟩

/-! ## A link that takes no transfer (R178) -/

/-- Settles O4: the two edges of RESET_N, then the field events and the transfers that it keeps from the part. -/
theorem resetLineRestartsAndIsolatesThePart : Obligations.ResetLineRestartsAndIsolatesThePart := by
  unfold Obligations.ResetLineRestartsAndIsolatesThePart
  refine ⟨⟨fun s => rfl, fun s selLow hreset => ?_⟩, fun s c hreset h1 h2 h3 => ?_, fun s c hreset hlink hs he => ?_⟩
  · simp only [exec, execResetNRelease, hreset, if_true]
  · have hr : s.linkReady = false := by simp [State.linkReady, hreset]
    rcases isFieldEvent_or_isTransfer h1 h2 h3 with ⟨hnone, f, hf⟩ | ⟨bs, hbs, hskip⟩
    · refine ⟨fun _ => ?_, fun bs hbs => absurd (hnone.symm.trans hbs) nofun⟩
      rw [hf, State.fieldEvent, if_pos hreset]
    · refine ⟨fun hnone => absurd (hnone.symm.trans hbs) nofun, fun bs' hbs' => ?_⟩
      obtain rfl : bs = bs' := Option.some.inj (hbs.symm.trans hbs')
      rw [hskip s hr (State.settle_of_reset hreset), State.skipTransfer, if_pos hreset]
  · have hr : s.linkReady = false := by simp [State.linkReady, hlink]
    have hother : IsFieldEvent c ∨ IsTransfer c := by
      refine isFieldEvent_or_isTransfer ?_ ?_ fun b => ?_ <;> rintro rfl <;> simp [encodeTransfer, requestCode] at he
    rcases hother with ⟨hnone, -⟩ | ⟨bs, hbs, hskip⟩
    · rw [hnone] at he
      cases he
    · rw [hskip s hr (State.settle_of_settled hs), State.skipTransfer, if_neg (by simp [hreset])]

end Sys2Proof.Machine
end

section
/-! The kiln port's own requests, and the rounds of its timer. -/

namespace Sys2Proof.Machine

/-! ## KILN_PORT_SET and KILN_PORT_READ (R90, R91) -/

theorem portSettings_fields {period window limit : Nat} (hp : period ≤ 65535) (hw : window ≤ 65535)
    (hl : limit ≤ 255) :
    let p := bytes 2 period ++ bytes 2 window ++ bytes 1 limit
    p.length = 5 ∧ field p 0 2 = period ∧ field p 2 2 = window ∧ field p 4 1 = limit := by
  refine ⟨by simp, ?_, ?_, ?_⟩ <;> simp <;> omega

theorem kilnPortSet_bytes {period window limit : Nat} (hp : period ≤ 65535) (hw : window ≤ 65535) (hl : limit ≤ 255)
    (s : State) : kilnPortSet (bytes 2 period ++ bytes 2 window ++ bytes 1 limit) s =
      if 10 ≤ period ∧ period ≤ 600 ∧ 20 ≤ window ∧ window ≤ 500 ∧ 1 ≤ limit ∧ limit ≤ 15 then
        .ok [] { s with port := { s.port with requested := ⟨period, window, limit⟩ } }
      else .refuse .badField := by
  obtain ⟨hlen, hperiod, hwindow, hlimit⟩ := portSettings_fields hp hw hl
  rw [kilnPortSet, if_neg (by omega), hperiod, hwindow, hlimit]
  dsimp only
  split
  · rw [if_neg (by omega)]
  · rw [if_pos (by omega)]

theorem RoundState.code_eq (r : RoundState) : r.code = if r = .idle then 0 else 1 := by cases r <;> rfl

theorem flagByte_eq (b : Bool) : flagByte b = bytes 1 (if b then 1 else 0) := by cases b <;> rfl

/-- A port without a transaction reports the chamber 0. -/
theorem chamber_getD_zero (t : Option Transaction) :
    (t.map (·.chamber)).getD 0 = match t with | none => 0 | some t => t.chamber := by
  cases t <;> rfl

/-- Settles O29: the three settings read back from the payload and held to their ranges, then the codes of the report. -/
theorem kilnPortSetAndRead : Obligations.KilnPortSetAndRead := by
  unfold Obligations.KilnPortSetAndRead
  intro s period window limit hr hs hp hw hl payload inRange
  have hset : Reaches .kilnPortSet 80 kilnPortSet s := reaches_of_settled hs fun _ _ => rfl
  have hread : Reaches .kilnPortRead 81 kilnPortRead s := reaches_of_settled hs fun _ _ => rfl
  have hlen : payload.length ≤ 250 := by simp [payload]
  have hown := kilnPortSet_bytes hp hw hl s
  refine ⟨fun hin => hset.answers hr hlen (hown.trans (if_pos hin)),
    fun hout => hset.refused hr hlen (hown.trans (if_neg hout)), hread.answers hr (by simp) ?_⟩
  rw [kilnPortRead, if_neg (by simp), Port.report, RoundState.code_eq, flagByte_eq, chamber_getD_zero]
  simp only [PortSettings.bytes, List.append_assoc]
  rfl

/-! ## Rounds (R80 to R82) -/

/-- A round serves the chambers that are not EMPTY, in ascending number (R82). -/
theorem State.polled_snapshotNow (s : State) : s.Polled s.snapshotNow := by
  constructor
  · refine List.Pairwise.filter _ (List.pairwise_map.mpr ?_)
    exact List.pairwise_lt_range.imp fun h => Nat.succ_lt_succ h
  · intro n
    have hrange : n ∈ (List.range Config.chambers).map (· + 1) ↔ 1 ≤ n ∧ n ≤ 12 := by
      rw [List.mem_map]
      constructor
      · rintro ⟨k, hk, rfl⟩
        have : k < 12 := List.mem_range.mp hk
        omega
      · intro hn
        exact ⟨n - 1, List.mem_range.mpr (show n - 1 < 12 by omega), by omega⟩
    rw [State.snapshotNow, List.mem_filter, hrange, and_assoc]
    cases s.chamber? n <;> simp

/-- A round of no chamber ends at once (R80). -/
theorem State.startRound_eq (s : State) : s.startRound = { s with port := { s.port with
    inForce := s.port.requested
    round := if s.snapshotNow = [] then .idle else .polling
    snapshot := s.snapshotNow
    turn := if s.snapshotNow = [] then none else some 0 } } := by
  unfold State.startRound
  cases s.snapshotNow <;> rfl

theorem State.timerExpiry_idle {s : State} (h : s.port.round = .idle) :
    s.timerExpiry = s.startRound.restartTimer := if_pos h

theorem State.timerExpiry_polling {s : State} (h : s.port.round = .polling) :
    s.timerExpiry = { s with port :=
      if s.port.startPending then
        { s.port with lost := min 65535 (s.port.lost + 1), roundTimer := some s.port.inForce.period }
      else { s.port with startPending := true, roundTimer := some s.port.inForce.period } } := by
  rw [State.timerExpiry, if_neg (by simp [h])]
  cases hp : s.port.startPending <;> simp only [State.restartTimer, hp] <;> rfl

/-- Settles O30: the expiry by the state of the round and by what is pending, the deferred start by whether it is
due. -/
theorem roundsStartOrAreDeferred : Obligations.RoundsStartOrAreDeferred := by
  unfold Obligations.RoundsStartOrAreDeferred
  intro s hreset
  refine ⟨s.snapshotNow, s.polled_snapshotNow, ?_⟩
  intro begun
  have hdeferred : exec .deferredRoundStart s = .next s.startDeferred := by
    simp only [exec, execDeferredRoundStart, State.fieldEvent_released hreset]
  refine ⟨fun hs => ?_, fun hround hpending => ?_, fun hnot => ?_⟩
  · have hexpiry : exec .roundTimerExpiry s = .next s.timerExpiry := by
      simp only [exec, execRoundTimerExpiry, State.fieldEvent_released hreset, State.settle_of_settled hs]
    rw [hexpiry]
    refine ⟨fun hround => ?_, fun hround hpending => ?_, fun hround hpending => ?_⟩
    · rw [State.timerExpiry_idle hround, State.startRound_eq]
      rfl
    · rw [State.timerExpiry_polling hround, hpending]
      rfl
    · rw [State.timerExpiry_polling hround, hpending]
      rfl
  · rw [hdeferred, State.startDeferred, if_pos ⟨hround, hpending⟩, State.startRound_eq]
    rfl
  · have hnotDue : ¬(s.port.round = .idle ∧ s.port.startPending = true) := by
      rcases hnot with h | h <;> simp [h]
    rw [hdeferred, State.startDeferred, if_neg hnotDue]

end Sys2Proof.Machine
end

section
/-! The replies of a kiln module that are misses: the judgement of a bad or an incomplete reply, and what the miss
leaves of the chamber. -/

namespace Sys2Proof.Machine

/-! ## An incomplete reply (R84, R183) -/

theorem IncompleteReply.lt_replyLength {chars : List RxChar} (h : IncompleteReply chars) {n : Nat}
    (hn : replyLength chars = some n) : chars.length < n := by
  unfold replyLength replyCount at hn
  cases hq : chars[6]? with
  | none => simp [hq] at hn
  | some q =>
    have := h q hq
    simp only [hq, Option.map_some, Option.ite_none_right_eq_some, Option.some.injEq] at hn
    omega

/-- An incomplete reply is received as it is (R84). -/
theorem IncompleteReply.receiveMore {received chars : List RxChar} (h : IncompleteReply (received ++ chars)) :
    receiveMore received chars = received ++ chars := by
  unfold Machine.receiveMore
  dsimp only
  split
  · rename_i n hn
    exact List.take_of_length_le (h.lt_replyLength hn).le
  · rfl

theorem IncompleteReply.replyComplete {chars : List RxChar} (h : IncompleteReply chars) :
    replyComplete chars = false := by
  unfold Machine.replyComplete
  split
  · rename_i n hn
    exact decide_eq_false (h.lt_replyLength hn).not_ge
  · rfl

/-! ## The judgement of a reply (R85) -/

theorem judge_characterError {chars : List RxChar} (h : ∃ ch ∈ chars, ch.error = true) (n : Nat) :
    judge n chars = .characterError := if_pos (List.any_eq_true.mpr h)

theorem judge_incomplete {chars : List RxChar} (h : replyComplete chars = false) (n : Nat) :
    judge n chars = if chars.any (·.error) then .characterError else .badLength := by
  rw [judge, h]
  rfl

/-- A complete reply without character error is judged by its address and its temperatures (R85). -/
theorem judge_complete {chars : List RxChar} (herr : ∀ ch ∈ chars, ch.error = false)
    (hc : replyComplete chars = true) (n : Nat) :
    let p := charBytes chars
    judge n chars = if field p 0 1 ≠ n then .wrongAddress
      else if (-400 ≤ signedField p 1 2 ∧ signedField p 1 2 ≤ 1500) ∧
          (-400 ≤ signedField p 3 2 ∧ signedField p 3 2 ≤ 1500) then .accepted
      else .outOfRange := by
  have hany : chars.any (·.error) = false := by simpa using herr
  have hrange (x y : Int) : (!actualInRange x) = true ∨ (!actualInRange y) = true ↔
      ¬((-400 ≤ x ∧ x ≤ 1500) ∧ (-400 ≤ y ∧ y ≤ 1500)) := by
    simp only [actualInRange, Bool.not_eq_true', ← Bool.not_eq_true, Bool.and_eq_true, decide_eq_true_eq]
    tauto
  simp only [judge, hany, hc, hrange, ite_not]
  rfl

/-! ## A miss handed to a chamber (R61, R89) -/

theorem State.takeMiss_eq {s : State} {n : Nat} {c : Chamber} (hc : s.chamber? n = some c) (count : Nat) :
    s.takeMiss n count s.port.inForce.missLimit = s.missed n c count := by
  simp only [State.takeMiss, hc, State.missed, Chamber.reform_eq, State.raiseFault]
  by_cases he : c.state = .empty
  · simp [he]
  · cases c.causes.line <;> simp [he]

theorem State.raiseFault_port (s : State) (p : Port) (newly : Bool) (n : Nat) :
    ({ s with port := p } : State).raiseFault newly n = { s.raiseFault newly n with port := p } := by
  unfold State.raiseFault
  split <;> rfl

theorem State.takeMiss_port (s : State) (p : Port) (n count limit : Nat) :
    ({ s with port := p } : State).takeMiss n count limit = { s.takeMiss n count limit with port := p } := by
  have hchamber : ({ s with port := p } : State).chamber? n = s.chamber? n := rfl
  unfold State.takeMiss
  rw [hchamber]
  cases s.chamber? n with
  | none => rfl
  | some c =>
    dsimp only
    split
    · rfl
    · split
      · exact State.raiseFault_port (s.setChamber n _) p _ n
      · rfl

/-- The end of a transaction that is a miss (R84, R87). -/
theorem State.endTransaction_missed {s : State} {t : Transaction} {k : Nat} {c : Chamber} {o : ReplyOutcome}
    (hturn : s.port.turn = some k) (hc : s.chamber? t.chamber = some c) (ho : o ≠ .accepted) (chars : List RxChar) :
    let misses := min 255 ((s.module t.chamber).misses + 1)
    s.endTransaction t o chars = { s.missed t.chamber c misses with port := s.port.served k t.chamber ⟨misses, o⟩ } := by
  simp only [State.endTransaction, if_neg ho, Module.after, State.takeMiss_port, State.takeMiss_eq hc, hturn,
    Port.nextTurn_eq]
  rfl

/-! ## Characters in the reply window and outside it (R84, R88) -/

section Window
variable {s : State} {t : Transaction} {chars : List RxChar}

theorem State.receiveReply_complete {reply : List RxChar} (ht : s.port.transaction = some t) (hp : t.phase = .listening)
    (hreply : receiveMore t.received chars = reply) (hc : replyComplete reply = true) :
    s.receiveReply chars = s.endTransaction t (judge t.chamber reply) reply := by
  simp only [State.receiveReply, ht, hp, hreply, hc, if_true]

/-- The characters of an incomplete reply are kept (R84). -/
theorem State.receiveReply_incomplete (ht : s.port.transaction = some t) (hp : t.phase = .listening)
    (h : IncompleteReply (t.received ++ chars)) : s.receiveReply chars =
      { s with port := { s.port with transaction := some { t with received := t.received ++ chars } } } := by
  simp [State.receiveReply, ht, hp, h.receiveMore, h.replyComplete]

theorem State.closeWindow_incomplete (ht : s.port.transaction = some t) (hp : t.phase = .listening)
    (h : IncompleteReply (t.received ++ chars)) :
    let got := t.received ++ chars
    s.closeWindow chars = s.endTransaction t (if got = [] then .noReply
      else if got.any (·.error) then .characterError else .badLength) got := by
  simp only [State.closeWindow, ht, hp, h.receiveMore, judge_incomplete h.replyComplete, List.isEmpty_iff, if_true]

theorem State.receiveReply_not_listening (h : ∀ t, s.port.transaction = some t → t.phase = .sending)
    (chars : List RxChar) : s.receiveReply chars = s := by
  unfold State.receiveReply
  split
  · rename_i t ht
    rw [if_neg (by simp [h t ht])]
  · rfl

theorem State.closeWindow_not_listening (h : ∀ t, s.port.transaction = some t → t.phase = .sending)
    (chars : List RxChar) : s.closeWindow chars = s := by
  unfold State.closeWindow
  split
  · rename_i t ht
    rw [if_neg (by simp [h t ht])]
  · rfl

end Window

theorem exec_scanReply {s : State} (hs : s.Settled) (frames : List KilnFrame) :
    exec (.scanReply frames) s = .next (s.fieldEvent (·.receiveReply (kilnChars frames))) := by
  simp only [exec, execScanReply, State.fieldEvent, State.settle_of_settled hs]

theorem exec_replyWindowClose {s : State} (hs : s.Settled) (frames : List KilnFrame) :
    exec (.replyWindowClose frames) s = .next (s.fieldEvent (·.closeWindow (kilnChars frames))) := by
  simp only [exec, execReplyWindowClose, State.fieldEvent, State.settle_of_settled hs]

/-! ## The error mark of a character (R183) -/

theorem kilnChar_of_no_start {f : KilnFrame} (h : f.getLsbD 0 = true) : kilnChar f = none := by
  rw [kilnChar, frameStarts, h]
  rfl

theorem kilnChar_of_start {f : KilnFrame} (h : f.getLsbD 0 = false) :
    kilnChar f = some ⟨frameData f, oddOnes f 1 9 || !f.getLsbD 10⟩ := by
  rw [kilnChar, frameStarts, h]
  rfl

/-- Parity over the data bits and the parity bit is even, and the stop bit is a one (R183). -/
theorem kilnError_iff (f : KilnFrame) : (oddOnes f 1 9 || !f.getLsbD 10) = true ↔
    f.getLsbD 10 = false ∨ (List.range 9).countP (fun i => f.getLsbD (i + 1)) % 2 = 1 := by
  rw [oddOnes_eq_countP, Bool.or_eq_true, Bool.not_eq_true', decide_eq_true_eq, or_comm]

/-- Settles O33: the judgement of a bad reply and of an incomplete one, each handed on as a miss; then the characters
outside a window, and the marks of one character. -/
theorem badAndMissingRepliesAreMisses : Obligations.BadAndMissingRepliesAreMisses := by
  unfold Obligations.BadAndMissingRepliesAreMisses
  refine ⟨fun s tr k c m hreset hs htr hp hturn hc hm => ?_, fun s frames hs hsending => ?_,
    fun f => ⟨kilnChar_of_no_start, fun hstart => ?_⟩⟩
  · subst hm
    intro miss
    have hscan (frames) : exec (.scanReply frames) s = .next (s.receiveReply (kilnChars frames)) := by
      rw [exec_scanReply hs, State.fieldEvent_released hreset]
    have hclose (frames) : exec (.replyWindowClose frames) s = .next (s.closeWindow (kilnChars frames)) := by
      rw [exec_replyWindowClose hs, State.fieldEvent_released hreset]
    have hmiss {o : ReplyOutcome} (ho : o ≠ .accepted) (chars : List RxChar) :
        .next (s.endTransaction tr o chars) = miss o := by
      rw [State.endTransaction_missed hturn hc ho]
    refine ⟨fun reply extra frames q hchars hq h8 hlen => ?_, fun frames hinc => ⟨?_, ?_⟩⟩
    · obtain ⟨hreceived, hcomplete⟩ := receiveMore_complete hchars hq h8 hlen
      intro p inRange
      have hjudged {o : ReplyOutcome} (ho : o ≠ .accepted) (hj : judge tr.chamber reply = o) :
          exec (.scanReply frames) s = miss o := by
        rw [hscan, State.receiveReply_complete htr hp hreceived hcomplete, hj, hmiss ho]
      refine ⟨fun herr => hjudged nofun (judge_characterError herr _), fun hclean haddr => hjudged nofun ?_,
        fun hclean haddr hrange => hjudged nofun ?_⟩
      · exact (judge_complete hclean hcomplete _).trans (if_pos haddr)
      · exact (judge_complete hclean hcomplete _).trans ((if_neg (not_not.mpr haddr)).trans (if_neg hrange))
    · rw [hscan, State.receiveReply_incomplete htr hp hinc]
    · rw [hclose, State.closeWindow_incomplete htr hp hinc]
      refine hmiss ?_ _
      split_ifs <;> nofun
  · rw [exec_scanReply hs, exec_replyWindowClose hs, State.fieldEvent, State.fieldEvent,
      State.receiveReply_not_listening hsending, State.closeWindow_not_listening hsending, ite_self]
    exact ⟨rfl, rfl⟩
  · refine ⟨_, kilnChar_of_start hstart, fun i hi => ?_, kilnError_iff f⟩
    rw [frameData_getLsbD]
    simp [hi]

end Sys2Proof.Machine
end

section
/-! The unbroken run of waiting entries, at a pairing distance of 0 (R97, R101). -/

namespace Sys2Proof.Machine

/-- An entry stands at its expiry position and waits, under a pairing distance of 0 and gates that lie ahead
of it, and an edge is about to be taken. No run reaches it, since LINE_SET takes no pairing distance of 0
(R110); the invariants let it stand, because `Geometry.Ok` has no lower bound for that distance. -/
def overtaken : State := { State.reset with
  tracker := { Tracker.reset with
    geometry := ⟨0, List.replicate 16 1, 0, 0, 0⟩, edgeSequence := 1, queue := [⟨1, 0, none⟩] }
  pending := [.edge] }

theorem overtaken_inOrder : QueueOk overtaken ∧ TransitOk overtaken ∧ SorterOk overtaken := by
  refine ⟨?_, ?_, ?_⟩
  · unfold QueueOk
    decide
  · unfold TransitOk Geometry.Ok
    decide
  · obtain ⟨hactive, h0, h1, hn0, hn1, hlen, hgates, -⟩ := sorterOk_reset
    exact ⟨hactive, h0, h1, hn0, hn1, hlen, hgates, by decide⟩

theorem overtaken_run : WaitingSequencesRise overtaken ∧ AwaitingAtTail overtaken := by
  unfold WaitingSequencesRise AwaitingAtTail
  decide

/-- The edge's own entry expires within its edge, while the entry before it still waits. -/
theorem overtaken_step : ∃ t, step overtaken = .next t ∧ ¬AwaitingAtTail t := by
  refine ⟨_, rfl, ?_⟩
  unfold AwaitingAtTail
  decide

/-- Refutes O56: under a pairing distance of 0 an edge's entry is decided at once (R95, R101), ahead of an
entry that was due before it, so the entries that wait no longer stand at the tail. -/
theorem not_everyStepKeepsQueueAndSorterInAgreement : ¬ Obligations.EveryStepKeepsQueueAndSorterInAgreement := by
  unfold Obligations.EveryStepKeepsQueueAndSorterInAgreement
  intro h
  obtain ⟨t, hstep, hbroken⟩ := overtaken_step
  obtain ⟨hrise, htail⟩ := overtaken_run
  obtain ⟨-, -, hkept⟩ := h overtaken t overtaken_inOrder hstep
  exact hbroken (hkept hrise htail)

end Sys2Proof.Machine
end

section
/-! LINE_SET, DIMENSION_SET and TRANSIT_READ. -/

namespace Sys2Proof.Machine

/-! ## Numbers sent one after the other (R181) -/

theorem drop_bytes_append (w n : Nat) (r : List Byte) : (bytes w n ++ r).drop w = r :=
  List.drop_left' (length_bytes w n)

theorem drop_numbers_append {w : Nat} {l : List Nat} {n : Nat} (h : w * l.length = n) (r : List Byte) :
    (l.flatMap (bytes w) ++ r).drop n = r :=
  List.drop_left' (by rw [length_flatMap_bytes, h])

theorem readNumbers_flatMap {w : Nat} {l : List Nat} (h : ∀ x ∈ l, x < 256 ^ w) (r : List Byte) :
    readNumbers w (l.flatMap (bytes w) ++ r) l.length = l := by
  induction l with
  | nil => rfl
  | cons x l ih =>
    obtain ⟨hx, hl⟩ := List.forall_mem_cons.mp h
    rw [List.flatMap_cons, List.append_assoc, List.length_cons, readNumbers, field_bytes_append, drop_bytes_append,
      ih hl, Nat.mod_eq_of_lt hx]

/-! ## LINE_SET (R110) -/

/-- The payload of LINE_SET. -/
def Geometry.bytes (g : Geometry) : List Byte :=
  Machine.bytes 2 g.pairing ++ g.offsets.flatMap (Machine.bytes 2) ++ Machine.bytes 1 g.lead ++
    Machine.bytes 1 g.trail ++ Machine.bytes 1 g.scale

section Geometry
variable {g : Geometry} {s : State}

theorem Geometry.length_bytes (ho : g.offsets.length = 16) : g.bytes.length = 37 := by
  simp [Geometry.bytes, ho]

theorem readGeometry_bytes (hp : g.pairing ≤ 65535) (ho : g.offsets.length = 16) (hof : ∀ o ∈ g.offsets, o ≤ 65535)
    (hl : g.lead ≤ 255) (ht : g.trail ≤ 255) (hs : g.scale ≤ 255) : readGeometry g.bytes = g := by
  have hoffsets : readNumbers 2 (g.bytes.drop 2) 16 = g.offsets := by
    simp only [Geometry.bytes, List.append_assoc, drop_bytes_append]
    rw [← ho]
    exact readNumbers_flatMap (fun o h => Nat.lt_succ_of_le (hof o h)) _
  have hfields : field g.bytes 0 2 = g.pairing ∧ field g.bytes 34 1 = g.lead ∧ field g.bytes 35 1 = g.trail ∧
      field g.bytes 36 1 = g.scale := by
    simp [Geometry.bytes, ho]
    omega
  obtain ⟨h0, h34, h35, h36⟩ := hfields
  rw [readGeometry, hoffsets, h0, h34, h35, h36]

theorem Geometry.valid_iff (g : Geometry) : g.valid = true ↔ g.pairing ≠ 0 ∧ g.scale ≠ 0 ∧
    ∀ o ∈ g.offsets, o ≠ 0 ∧ (g.pairing : Int) < (o : Int) - (g.lead : Int) := by
  have hgap (o : Nat) : g.pairing + g.lead < o ↔ (g.pairing : Int) < (o : Int) - (g.lead : Int) := by omega
  simp [Geometry.valid, Nat.pos_iff_ne_zero, and_assoc, hgap]

/-- LINE_SET on the values that its payload carries. -/
theorem lineSet_bytes (hp : g.pairing ≤ 65535) (ho : g.offsets.length = 16) (hof : ∀ o ∈ g.offsets, o ≤ 65535)
    (hl : g.lead ≤ 255) (ht : g.trail ≤ 255) (hs : g.scale ≤ 255) : lineSet g.bytes s =
      if g.valid = false then .refuse .badField
      else if s.tracker.queue ≠ [] then .refuse .busy
      else .ok [] { s with tracker := { s.tracker with geometry := g } } := by
  simp [lineSet, Geometry.length_bytes ho, readGeometry_bytes hp ho hof hl ht hs]

end Geometry

/-! ## DIMENSION_SET (R109) -/

/-- The payload of DIMENSION_SET. -/
def Dimensions.bytes (d : Dimensions) : List Byte :=
  d.thickness.flatMap (Machine.bytes 1) ++ d.width.flatMap (Machine.bytes 2) ++ d.length.flatMap (Machine.bytes 1)

section Dimensions
variable {d : Dimensions} {s : State}

theorem Dimensions.length_bytes (ht : d.thickness.length = 16) (hw : d.width.length = 16) (hl : d.length.length = 32) :
    d.bytes.length = 80 := by
  simp [Dimensions.bytes, ht, hw, hl]

theorem readDimensions_bytes (ht : d.thickness.length = 16) (hw : d.width.length = 16) (hl : d.length.length = 32)
    (hts : ∀ x ∈ d.thickness, x ≤ 255) (hws : ∀ x ∈ d.width, x ≤ 65535) (hls : ∀ x ∈ d.length, x ≤ 255) :
    readDimensions d.bytes = d := by
  have hthickness : readNumbers 1 d.bytes 16 = d.thickness := by
    rw [Dimensions.bytes, List.append_assoc, ← ht]
    exact readNumbers_flatMap (fun x h => Nat.lt_succ_of_le (hts x h)) _
  have hdrop : d.bytes.drop 16 = d.width.flatMap (bytes 2) ++ d.length.flatMap (bytes 1) := by
    rw [Dimensions.bytes, List.append_assoc]
    exact drop_numbers_append (by rw [ht]) _
  have hwidth : readNumbers 2 (d.bytes.drop 16) 16 = d.width := by
    rw [hdrop, ← hw]
    exact readNumbers_flatMap (fun x h => Nat.lt_succ_of_le (hws x h)) _
  have hlength : readNumbers 1 (d.bytes.drop 48) 32 = d.length := by
    have hdrop' : d.bytes.drop 48 = d.length.flatMap (bytes 1) := by
      rw [show 48 = 16 + 32 from rfl, ← List.drop_drop, hdrop]
      exact drop_numbers_append (by rw [hw]) _
    rw [hdrop', ← hl]
    simpa using readNumbers_flatMap (w := 1) (fun x h => Nat.lt_succ_of_le (hls x h)) []
  rw [readDimensions, hthickness, hwidth, hlength]

theorem Dimensions.inRange_iff (d : Dimensions) : d.inRange = true ↔ (∀ x ∈ d.thickness, 10 ≤ x ∧ x ≤ 200) ∧
    (∀ x ∈ d.width, 25 ≤ x ∧ x ≤ 400) ∧ ∀ x ∈ d.length, 6 ≤ x ∧ x ≤ 80 := by
  simp [Dimensions.inRange, and_assoc]

/-- DIMENSION_SET on the values that its payload carries. -/
theorem dimensionSet_bytes (ht : d.thickness.length = 16) (hw : d.width.length = 16) (hl : d.length.length = 32)
    (hts : ∀ x ∈ d.thickness, x ≤ 255) (hws : ∀ x ∈ d.width, x ≤ 65535) (hls : ∀ x ∈ d.length, x ≤ 255) :
    dimensionSet d.bytes s =
      if d.inRange = false then .refuse .badField
      else if s.tracker.queue ≠ [] then .refuse .busy
      else .ok [] { s with tracker := { s.tracker with dimensions := d } } := by
  simp [dimensionSet, Dimensions.length_bytes ht hw hl, readDimensions_bytes ht hw hl hts hws hls]

end Dimensions

/-- What a request answers that is refused BAD_FIELD out of range and BUSY while the queue holds an entry,
and otherwise leaves the state `t` (R108). -/
theorem settingOutcomes {request : Byte → List Byte → Instr} {code : Byte} {owner : List Byte → State → Reply}
    {p : List Byte} {s t : State} {valid : Bool} {inRange : Prop} (hx : Reaches request code owner s)
    (hr : s.linkReady = true) (hp : p.length ≤ 250) (hv : valid = true ↔ inRange)
    (ho : owner p s = if valid = false then .refuse .badField
      else if s.tracker.queue ≠ [] then .refuse .busy else .ok [] t) :
    (¬inRange → Refused request code p s .badField) ∧
      (inRange → s.tracker.queue ≠ [] → Refused request code p s .busy) ∧
      (inRange → s.tracker.queue = [] → Answers request code p s .ok [] t) := by
  refine ⟨fun hi => hx.refused hr hp ?_, fun hi hq => hx.refused hr hp ?_, fun hi hq => hx.answers hr hp ?_⟩
  · rw [ho, if_pos (by simpa [← hv] using hi)]
  · rw [ho, if_neg (by simp [hv.mpr hi]), if_pos hq]
  · rw [ho, if_neg (by simp [hv.mpr hi]), if_neg (not_not.mpr hq)]

/-! ## TRANSIT_READ (R111) -/

theorem transitRead_bytes {s : State} {start : Nat} (h : start ≤ 255) : transitRead (bytes 1 start) s =
    if 31 < start then .refuse .badField else .ok (s.tracker.report start) s := by
  have hm : start % 256 = start := by omega
  simp [transitRead, hm]

/-- An entry that waits reports its absent fields (R111, R181). -/
theorem Entry.report_waiting {e : Entry} (h : e.decision = none) : e.report = bytes 1 e.sequence ++ bytes 3 e.capture ++
    [1, 255, 255, 255, 255, 255, 255, 255, 0, 0, 255, 255, 255, 0, 0, 0, 0, 0, 0, 0] := by
  simp only [Entry.report, Entry.stateCode, h, List.append_assoc]
  rfl

theorem Entry.report_decided {e : Entry} {d : Decision} (h : e.decision = some d) : e.report =
    bytes 1 e.sequence ++ bytes 3 e.capture ++ (bytes 1 2 ++ bytes 1 (d.chargeSlot.getD 255) ++
      bytes 1 (d.grade.getD 255) ++ bytes 1 (d.lengthClass.getD 255) ++ bytes 1 (d.widthClass.getD 255) ++
      bytes 1 (d.thicknessClass.getD 255) ++ bytes 2 (d.mc.getD 65535) ++ bytes 1 d.moisture.code ++
      bytes 1 d.reason.code ++ bytes 1 d.bin ++ bytes 1 d.planSlot ++ bytes 1 (d.packSlot.getD 255) ++
      bytes 3 d.openPos ++ bytes 3 d.closePos ++ bytes 1 (if d.gateOpen then 1 else 0)) := by
  simp only [Entry.report, Entry.stateCode, h, flagByte_eq, optBytes, List.append_assoc]
  rfl

/-- Settles O34: what each owner answers on the values that its payload carries. -/
theorem lineSettingsAndTransitRead : Obligations.LineSettingsAndTransitRead := by
  unfold Obligations.LineSettingsAndTransitRead
  intro s hr
  have hline : Reaches .lineSet 96 lineSet s := fun _ _ => rfl
  have hdimension : Reaches .dimensionSet 97 dimensionSet s := fun _ _ => rfl
  have hread : Reaches .transitRead 98 transitRead s := fun _ _ => rfl
  refine ⟨fun g hp ho hof hl ht hs => ?_, fun d ht hw hl hts hws hls => ?_, fun start h => ⟨fun h31 => ?_, fun h31 => ?_⟩⟩
  · exact settingOutcomes hline hr (p := g.bytes) (by simp [Geometry.length_bytes ho]) g.valid_iff
      (lineSet_bytes hp ho hof hl ht hs)
  · exact settingOutcomes hdimension hr (p := d.bytes) (by simp [Dimensions.length_bytes ht hw hl]) d.inRange_iff
      (dimensionSet_bytes ht hw hl hts hws hls)
  · exact hread.refused hr (by simp) (by rw [transitRead_bytes h, if_pos h31])
  · refine hread.answers hr (by simp) ?_
    rw [transitRead_bytes h, if_neg (by omega), Tracker.report]
    refine congrArg (fun l => Reply.ok (_ ++ l) s) (List.flatMap_congr fun e _ => ?_)
    rcases hd : e.decision with _ | d
    · simp only [Entry.report_waiting hd, List.append_assoc]
    · simp only [Entry.report_decided hd, List.append_assoc]
      cases d.moisture <;> cases d.reason <;> rfl

end Sys2Proof.Machine
end

section
/-! The events of a transit entry: what it waits on, what each event does, and the commands that take them. -/

namespace Sys2Proof.Machine

/-! ## What an entry waits on (R95) -/

/-- The event that an entry waits on. -/
def Entry.due (e : Entry) : Due :=
  match e.decision with
  | none => .expiry
  | some d => if d.gateOpen then .closeGate else .openGate

theorem Entry.due_waiting {e : Entry} (h : e.decision = none) : e.due = .expiry := by simp [Entry.due, h]

theorem Entry.due_closed {e : Entry} {d : Decision} (h : e.decision = some d) (hg : d.gateOpen = false) :
    e.due = .openGate := by simp [Entry.due, h, hg]

theorem Entry.due_opened {e : Entry} {d : Decision} (h : e.decision = some d) (hg : d.gateOpen = true) :
    e.due = .closeGate := by simp [Entry.due, h, hg]

theorem State.waitsOn_waiting {e : Entry} (s : State) (h : e.decision = none) :
    s.waitsOn e = e.capture + s.tracker.geometry.pairing := by simp [State.waitsOn, h]

theorem State.waitsOn_closed {e : Entry} {d : Decision} (s : State) (h : e.decision = some d) (hg : d.gateOpen = false) :
    s.waitsOn e = d.openPos := by simp [State.waitsOn, h, hg]

theorem State.waitsOn_opened {e : Entry} {d : Decision} (s : State) (h : e.decision = some d) (hg : d.gateOpen = true) :
    s.waitsOn e = d.closePos := by simp [State.waitsOn, h, hg]

/-- A position and its value modulo 2^24 are reached together (R94). -/
theorem State.reached_mod (s : State) (x : Nat) : s.Reached (x % Config.chainModulus) ↔ s.Reached x := by
  simp [State.Reached, Config.chainModulus]

theorem State.targetOf_due (s : State) (e : Entry) : (s.targetOf e).1 = e.due := by
  unfold State.targetOf Entry.due
  rcases e.decision with _ | d
  · rfl
  · dsimp only
    split <;> rfl

theorem State.reached_targetOf (s : State) (e : Entry) : s.Reached (s.targetOf e).2 ↔ s.Reached (s.waitsOn e) := by
  unfold State.targetOf State.waitsOn
  rcases e.decision with _ | d
  · exact s.reached_mod _
  · dsimp only
    split <;> rfl

section Entry
variable {s : State} {q : Nat} {e : Entry}

theorem State.dueEvent_of_reached (h : s.entry? q = some e) (hr : s.Reached (s.waitsOn e)) :
    s.dueEvent q = some e.due := by
  rw [State.dueEvent, h]
  dsimp only
  rw [if_pos ((positionReached_iff s _).mpr ((s.reached_targetOf e).mpr hr)), s.targetOf_due]

theorem State.dueEvent_of_not_reached (h : s.entry? q = some e) (hr : ¬s.Reached (s.waitsOn e)) :
    s.dueEvent q = none := by
  rw [State.dueEvent, h]
  exact if_neg fun hp => hr ((s.reached_targetOf e).mp ((positionReached_iff s _).mp hp))

theorem State.dueEvent_of_absent (h : s.entry? q = none) : s.dueEvent q = none := by
  rw [State.dueEvent, h]

/-- An entry has no event due but the one it waits on. -/
theorem State.dueEvent_ne (h : s.entry? q = some e) {k : Due} (hk : e.due ≠ k) : s.dueEvent q ≠ some k := by
  intro hd
  exact hk ((s.targetOf_due e).symm.trans (State.dueEvent_some hd h))

/-! ## What the event of an entry does (R101, R106) -/

theorem State.takeReached_of_due {k : Due} (h : s.dueEvent q = some k) (fuel : Nat) :
    s.takeReached (fuel + 1) q = (s.takeDue q).takeReached fuel q := by
  rw [State.takeReached, h, Option.isSome_some, if_pos rfl]

theorem State.chainEvent_of_due {k : Due} (h : s.dueEvent q = some k) :
    s.chainEvent k q = (s.takeDue q).takeReached 2 q := by
  rw [State.chainEvent, if_pos h, State.takeReached_of_due h]

theorem State.chainEvent_of_not_due {k : Due} (h : s.dueEvent q ≠ some k) : s.chainEvent k q = s := if_neg h

/-- An entry whose position is not reached, or one that waits on another event, is left alone. -/
theorem State.chainEvent_of_not_reached (h : s.entry? q = some e) (hr : ¬s.Reached (s.waitsOn e)) (k : Due) :
    s.chainEvent k q = s :=
  State.chainEvent_of_not_due (by simp [State.dueEvent_of_not_reached h hr])

theorem State.chainEvent_of_ne (h : s.entry? q = some e) {k : Due} (hk : e.due ≠ k) : s.chainEvent k q = s :=
  State.chainEvent_of_not_due (State.dueEvent_ne h hk)

theorem State.takeDue_expiry (h : s.entry? q = some e) (hr : s.Reached (s.waitsOn e)) (hd : e.decision = none) :
    s.takeDue q = s.decideNoData e := by
  rw [State.takeDue, State.dueEvent_of_reached h hr, h, Entry.due_waiting hd]

theorem State.takeDue_open {d : Decision} (h : s.entry? q = some e) (hr : s.Reached (s.waitsOn e))
    (hd : e.decision = some d) (hg : d.gateOpen = false) : s.takeDue q = s.openEntry q d := by
  rw [State.takeDue, State.dueEvent_of_reached h hr, h, Entry.due_closed hd hg]
  simp only [hd]

theorem State.takeDue_close {d : Decision} (h : s.entry? q = some e) (hr : s.Reached (s.waitsOn e))
    (hd : e.decision = some d) (hg : d.gateOpen = true) : s.takeDue q = s.closeEntry q d := by
  rw [State.takeDue, State.dueEvent_of_reached h hr, h, Entry.due_opened hd hg]
  simp only [hd]

end Entry

/-- The expiry in the words of the obligations (R102, R118). -/
theorem State.decideNoData_eq {s : State} {n : Nat} {pl : Plan} (ha : s.ActivePlan n pl) (e : Entry) :
    s.decideNoData e = s.noData e n pl := by
  obtain ⟨hn, hp⟩ := ha.eq
  simp only [State.decideNoData, hn, hp]
  rfl

section Place
variable {s : State} {l r : List Entry} {e : Entry} {d : Decision}

/-- The open event at a place of the queue (R106, R126). -/
theorem State.openEntry_eq (h : s.QueueAt l e r) (d : Decision) : s.openEntry e.sequence d =
    (s.withQueue (l ++ { e with decision := some { d with gateOpen := true } } :: r)).withGate d.bin (· + 1) := by
  rw [State.openEntry, State.setDecision_of_queueAt h, State.modifyGate_eq]

theorem State.entry?_openEntry (h : s.QueueAt l e r) (d : Decision) :
    (s.openEntry e.sequence d).entry? e.sequence = some { e with decision := some { d with gateOpen := true } } := by
  rw [State.openEntry_eq h]
  exact State.entry?_of_queueAt (l := l) (e := { e with decision := some { d with gateOpen := true } }) ⟨rfl, h.2⟩

/-- An entry whose close position lies ahead is left open (R95). -/
theorem State.takeReached_opened (h : s.QueueAt l e r) (hr : ¬s.Reached d.closePos) (fuel : Nat) :
    (s.openEntry e.sequence d).takeReached fuel e.sequence = s.openEntry e.sequence d :=
  State.takeReached_of_not_due (State.dueEvent_of_not_reached (State.entry?_openEntry h d) hr) fuel

/-- An entry decided as NO_DATA whose open position lies ahead is left decided (R95). -/
theorem State.takeReached_noData {n : Nat} {pl : Plan} (h : s.QueueAt l e r)
    (hr : ¬s.Reached (s.noDataDecision e n pl).openPos) (fuel : Nat) :
    (s.noData e n pl).takeReached fuel e.sequence = s.noData e n pl :=
  State.takeReached_decided (t := s.noData e n pl) (d := s.noDataDecision e n pl) rfl h rfl hr fuel

/-- The end of a close event: the charge's reference falls, the entry leaves, and its plan slot's count falls
(R15, R106, R124). -/
theorem State.closeEntry_end {t : State} (ht : t.tracker = s.tracker) (h : s.QueueAt l e r) (d : Decision) :
    ((t.modifyChargeOf d.chargeSlot (fun c => { c with transitRef := c.transitRef - 1 })).removeEntry
      e.sequence).drainCheck d.planSlot = ((t.unreferenced d.chargeSlot).withQueue (l ++ r)).drained d.planSlot := by
  have hplace : (t.modifyChargeOf d.chargeSlot (fun c => { c with transitRef := c.transitRef - 1 })).QueueAt l e r := by
    simpa [State.QueueAt, ht] using h
  rw [State.removeEntry_of_queueAt hplace, State.drainCheck_eq]
  cases d.chargeSlot <;> rfl

/-- The close event of a board without a pack (R106, R127). -/
theorem State.closeEntry_eq (h : s.QueueAt l e r) (hp : d.packSlot = none) : s.closeEntry e.sequence d =
    (((s.withGate d.bin (· - 1)).unreferenced d.chargeSlot).withQueue (l ++ r)).drained d.planSlot := by
  rw [← State.closeEntry_end (t := s.withGate d.bin (· - 1)) rfl h]
  simp only [State.closeEntry, hp]
  rfl

theorem State.drained_tracker (s : State) (n : Nat) : (s.drained n).tracker = s.tracker := by
  rw [← State.drainCheck_eq, State.drainCheck_tracker]

/-- An entry that has left has no event due. -/
theorem State.dueEvent_left {t : State} (ht : t.tracker.queue = l ++ r) (h : s.QueueAt l e r) :
    t.dueEvent e.sequence = none := by
  refine State.dueEvent_of_absent (List.find?_eq_none.mpr fun x hx => ?_)
  rw [ht] at hx
  simpa using h.2 x hx

end Place

/-! ## The oldest waiting entry (R99) -/

theorem State.oldestAwaiting_eq {s : State} {l r : List Entry} {e : Entry} (hq : s.tracker.queue = l ++ e :: r)
    (hl : ∀ x ∈ l, x.decision.isSome = true) (he : e.decision = none) : s.oldestAwaiting = some e := by
  have hnone : l.find? Entry.awaiting = none := List.find?_eq_none.mpr fun x hx => by
    have := hl x hx
    cases hd : x.decision <;> simp_all [Entry.awaiting]
  rw [State.oldestAwaiting, hq, List.find?_append, hnone]
  simp [Entry.awaiting, he]

theorem State.oldestAwaiting_none {s : State} (h : ∀ e ∈ s.tracker.queue, e.decision.isSome = true) :
    s.oldestAwaiting = none :=
  List.find?_eq_none.mpr fun x hx => by
    have := h x hx
    cases hd : x.decision <;> simp_all [Entry.awaiting]

/-! ## The gate lines (R114, R126, R127) -/

theorem State.decidedCount_pos {s : State} {q : Decision → Bool} :
    0 < s.decidedCount q ↔ ∃ e ∈ s.tracker.queue, ∃ d, e.decision = some d ∧ q d = true := by
  simp [State.decidedCount, List.countP_pos_iff, Option.any_eq_true]

theorem SorterOk.gateActive_iff {s : State} (h : SorterOk s) {g : Nat} (hg : g < 16) : s.gateActive g = true ↔
    ∃ e ∈ s.tracker.queue, ∃ d, e.decision = some d ∧ d.gateOpen = true ∧ d.bin = g := by
  obtain ⟨-, -, -, -, -, -, hgates, -⟩ := h
  rw [State.gateActive, hgates g hg, decide_eq_true_iff, State.decidedCount_pos]
  simp only [Bool.and_eq_true, decide_eq_true_eq]

/-! ## The commands (R101, R106) -/

section Commands
variable {s : State} (hs : s.resetAsserted = false)
include hs

theorem exec_expiry {e : Entry} (h : s.oldestAwaiting = some e) :
    exec .expiry s = .next (s.chainEvent .expiry e.sequence) := by
  rw [exec, execExpiry, State.fieldEvent_released hs]
  simp only [h]

theorem exec_expiry_idle (h : s.oldestAwaiting = none) : exec .expiry s = .next s := by
  rw [exec, execExpiry, State.fieldEvent_released hs]
  simp only [h]

theorem exec_openEvent (q : Nat) : exec (.openEvent q) s = .next (s.chainEvent .openGate q) := by
  rw [exec, execOpenEvent, State.fieldEvent_released hs]

theorem exec_closeEvent (q : Nat) : exec (.closeEvent q) s = .next (s.chainEvent .closeGate q) := by
  rw [exec, execCloseEvent, State.fieldEvent_released hs]

end Commands

/-- Settles O37: each event by what its entry waits on. -/
theorem expiryOpenAndCloseEvents : Obligations.ExpiryOpenAndCloseEvents := by
  unfold Obligations.ExpiryOpenAndCloseEvents
  intro s hs
  refine ⟨fun l e r n pl h hl he => ?_, fun h => exec_expiry_idle hs (State.oldestAwaiting_none h),
    fun l e r d h he hg => ?_, fun l e r d h he hg => ?_, fun q h => ?_, fun h g hg => h.gateActive_iff hg⟩
  · have hentry := State.entry?_of_queueAt h
    rw [exec_expiry hs (State.oldestAwaiting_eq h.1 hl he), ← s.waitsOn_waiting he]
    refine ⟨fun hr ha hopen => ?_, fun hr => by rw [State.chainEvent_of_not_reached hentry hr]⟩
    rw [← Entry.due_waiting he, State.chainEvent_of_due (State.dueEvent_of_reached hentry hr),
      State.takeDue_expiry hentry hr he, State.decideNoData_eq ha, State.takeReached_noData h hopen]
  · have hentry := State.entry?_of_queueAt h
    have hdue := Entry.due_closed he hg
    have hwait := s.waitsOn_closed he hg
    rw [exec_openEvent hs, exec_closeEvent hs]
    refine ⟨fun hr hclose => ?_, fun hr => by rw [State.chainEvent_of_not_reached hentry (hwait ▸ hr)],
      by rw [State.chainEvent_of_ne hentry (by simp [hdue])]⟩
    rw [← hwait] at hr
    rw [← hdue, State.chainEvent_of_due (State.dueEvent_of_reached hentry hr),
      State.takeDue_open hentry hr he hg, State.takeReached_opened h hclose, State.openEntry_eq h]
  · have hentry := State.entry?_of_queueAt h
    have hdue := Entry.due_opened he hg
    have hwait := s.waitsOn_opened he hg
    rw [exec_openEvent hs, exec_closeEvent hs]
    refine ⟨fun hr hp => ?_, fun hr => by rw [State.chainEvent_of_not_reached hentry (hwait ▸ hr)],
      by rw [State.chainEvent_of_ne hentry (by simp [hdue])]⟩
    rw [← hwait] at hr
    rw [← hdue, State.chainEvent_of_due (State.dueEvent_of_reached hentry hr),
      State.takeDue_close hentry hr he hg, State.closeEntry_eq h hp,
      State.takeReached_of_not_due (State.dueEvent_left (by rw [State.drained_tracker]; rfl) h)]
  · have hidle (k : Due) (hk : k ≠ .expiry) : s.chainEvent k q = s := by
      rcases hq : s.entry? q with _ | e
      · exact State.chainEvent_of_not_due (by simp [State.dueEvent_of_absent hq])
      · obtain ⟨hm, hseq⟩ := State.mem_of_entry? hq
        exact State.chainEvent_of_ne hq (by rw [Entry.due_waiting (h e hm hseq)]; exact hk.symm)
    rw [exec_openEvent hs, exec_closeEvent hs, hidle _ (by decide), hidle _ (by decide)]
    exact ⟨rfl, rfl⟩

end Sys2Proof.Machine
end

section
/-! A close event that delivers its board into a pack. -/

namespace Sys2Proof.Machine

/-! ## The pack record after a delivery (R136) -/

@[simp] theorem tallyCount_cons (k n : Nat) (l : List (Nat × Nat)) (x : Nat) :
    tallyCount ((k, n) :: l) x = (if k = x then n else 0) + tallyCount l x := by
  unfold tallyCount
  by_cases h : k = x <;> simp [h]

/-- A piece counted is one more of its length class (R136). -/
theorem tallyCount_tallyAdd (c x : Nat) (l : List (Nat × Nat)) :
    tallyCount (tallyAdd c l) x = tallyCount l x + if x = c then 1 else 0 := by
  have hc : c = x ↔ x = c := eq_comm
  induction l with
  | nil => simp [tallyAdd, hc, Nat.add_comm]
  | cons y l ih =>
    obtain ⟨k, n⟩ := y
    unfold tallyAdd
    split
    · simp only [tallyCount_cons, hc]
      omega
    · split
      · rename_i h
        subst h
        by_cases hx : x = c
        · simp [hx]
          omega
        · simp [hx, Ne.symm hx]
      · simp only [tallyCount_cons, ih]
        omega

theorem lowerOf_eq (o : Option Nat) (m : Nat) : lowerOf o m = some (min m (o.getD m)) := by
  cases o with
  | none => simp [lowerOf]
  | some l => simp only [lowerOf, Option.getD_some, Nat.min_def]; split <;> split <;> grind

theorem higherOf_eq (o : Option Nat) (m : Nat) : higherOf o m = some (max m (o.getD m)) := by
  cases o with
  | none => simp [higherOf]
  | some l => simp only [higherOf, Option.getD_some, Nat.max_def]; split <;> split <;> grind

/-- A set takes an optional member. -/
theorem mem_elim_insertAsc {o : Option Nat} {l : List Nat} {x : Nat} :
    x ∈ o.elim l (fun c => insertAsc c l) ↔ x ∈ l ∨ o = some x := by
  cases o <;> simp [mem_insertAsc, or_comm, eq_comm]

theorem Pack.addPiece_state (p : Pack) (dims : Dimensions) (d : Decision) (b : Bool) :
    (p.addPiece dims d b).state = p.state := by
  unfold Pack.addPiece Pack.addMoisture
  cases d.mc <;> rfl

/-- The steps of a delivery leave what R136 gives. -/
theorem Pack.delivered_addPiece (p : Pack) (dims : Dimensions) (d : Decision) (b : Bool) :
    p.Delivered dims d b (p.addPiece dims d b) := by
  have hdim (x : Nat × Nat) : (p.pieces = 0 → (if p.pieces = 0 then some x else p.dimension) = some x ∧
        (p.mixedDim || (p.pieces ≠ 0 && p.dimension ≠ some x)) = p.mixedDim) ∧
      (p.pieces ≠ 0 → (if p.pieces = 0 then some x else p.dimension) = p.dimension ∧
        (p.mixedDim || (p.pieces ≠ 0 && p.dimension ≠ some x)) = (p.mixedDim || decide (p.dimension ≠ some x))) :=
    ⟨fun h => by simp [h], fun h => by simp [h]⟩
  unfold Pack.Delivered Pack.addPiece Pack.addMoisture
  rcases hmc : d.mc with _ | m
  all_goals
    refine ⟨rfl, rfl, fun c => tallyCount_tallyAdd _ _ _, rfl, (hdim _).1, (hdim _).2, fun g => mem_elim_insertAsc,
      fun c => mem_elim_insertAsc, ?_, ?_, rfl, rfl, rfl, rfl, rfl, rfl, rfl, rfl⟩
  · exact fun _ => ⟨rfl, rfl, rfl, rfl⟩
  · exact nofun
  · exact nofun
  · rintro _ ⟨⟩
    exact ⟨rfl, rfl, lowerOf_eq _ _, higherOf_eq _ _⟩

/-! ## The delivery (R136, R138, R16) -/

theorem State.flagOf_eq (s : State) (o : Option Nat) : s.flagOf o = o.any (fun i => (s.charge? i).any (·.quarantined)) := by
  unfold State.flagOf
  cases o with
  | none => rfl
  | some i => cases h : s.charge? i <;> simp [h]

/-- A CLOSING pack that holds a piece closes. -/
theorem State.closePack_of_pieces {s : State} {i : Nat} {p : Pack} (h : s.pack? i = some p) (hp : p.pieces ≠ 0) :
    s.closePack i = s.packClosed i p := by
  rw [State.closePack_eq h, if_neg hp, State.packClosed]

/-- A delivery: the record takes the piece, a charge new to the pack is referenced, and the last board of a
CLOSING pack closes it. -/
theorem State.deliver_eq {s : State} {slot : Nat} {p : Pack} (h : s.pack? slot = some p) (d : Decision) :
    s.deliver slot d =
      let q := p.addPiece s.tracker.dimensions d (s.flagOf d.chargeSlot)
      let t := (s.withPack slot q).modifyChargeOf (p.freshCharge d) (fun c => { c with packRef := c.packRef + 1 })
      if p.state = .closing ∧ p.bound ≤ 1 then t.packClosed slot q else t := by
  have hlast : p.bound - 1 = 0 ↔ p.bound ≤ 1 := by omega
  simp only [State.deliver, h, State.modifyPack_eq_withPack h, hlast]
  split_ifs
  · refine State.closePack_of_pieces ?_ (by simp [Pack.addPiece_pieces])
    rw [State.pack?, State.modifyChargeOf_packs]
    exact (State.pack?_withPack s slot slot _ (State.lt_of_pack? h)).trans (if_pos rfl)
  · rfl

/-- The close event of a board that is bound to a pack (R106). -/
theorem State.closeEntry_bound {s : State} {l r : List Entry} {e : Entry} {d : Decision} {slot : Nat} (h : s.QueueAt l e r)
    (hp : d.packSlot = some slot) : s.closeEntry e.sequence d =
      ((((s.withGate d.bin (· - 1)).deliver slot d).unreferenced d.chargeSlot).withQueue (l ++ r)).drained d.planSlot := by
  rw [← State.closeEntry_end (t := (s.withGate d.bin (· - 1)).deliver slot d) (State.deliver_tracker _ _ _) h]
  simp only [State.closeEntry, hp]
  rfl

/-- Settles O38: the close event at the entry's place, with the delivery taken apart. -/
theorem closeEventDeliversIntoThePack : Obligations.CloseEventDeliversIntoThePack := by
  unfold Obligations.CloseEventDeliversIntoThePack
  intro s l e r d slot p hs h he hg hr hslot hp
  have hentry := State.entry?_of_queueAt h
  have hwait := s.waitsOn_opened he hg
  refine ⟨p.addPiece s.tracker.dimensions d (s.flagOf d.chargeSlot), ?_, Pack.addPiece_state _ _ _ _, ?_⟩
  · rw [← State.flagOf_eq]
    exact p.delivered_addPiece _ _ _
  · intro fresh landed counted closed
    have hclosed : (s.withGate d.bin (· - 1)).deliver slot d = closed := by
      have hcounted : landed.modifyChargeOf (p.freshCharge d) (fun c => { c with packRef := c.packRef + 1 }) = counted := by
        simp only [counted, fresh, Pack.freshCharge]
        split <;> rename_i hf <;> rw [hf] <;> rfl
      rw [State.deliver_eq (s := s.withGate d.bin (· - 1)) hp]
      exact congrArg (fun u : State => if p.state = .closing ∧ p.bound ≤ 1 then u.packClosed slot _ else u) hcounted
    rw [exec_closeEvent hs, ← Entry.due_opened he hg,
      State.chainEvent_of_due (State.dueEvent_of_reached hentry (hwait ▸ hr)),
      State.takeDue_close hentry (hwait ▸ hr) he hg, State.closeEntry_bound h hslot, hclosed,
      State.takeReached_of_not_due (State.dueEvent_left (by rw [State.drained_tracker]; rfl) h)]

end Sys2Proof.Machine
end

section
/-! What the events of an entry leave of the queue, the pulses that take them, and the edges. -/

namespace Sys2Proof.Machine

/-! ## The tracker after the events of an entry (R95, R106) -/

theorem State.closeEntry_tracker (s : State) (q : Nat) (d : Decision) : (s.closeEntry q d).tracker =
    { s.tracker with queue := s.tracker.queue.filter (fun e => e.sequence ≠ q) } := by
  simp only [State.closeEntry, State.drainCheck_tracker, State.removeEntry, State.modifyChargeOf_tracker]
  split
  · rw [State.deliver_tracker]
    rfl
  · rfl

@[simp] theorem State.closePack_resetAsserted (s : State) (i : Nat) : (s.closePack i).resetAsserted = s.resetAsserted := by
  rw [State.eq_of_apart (s.closePack_apart i)]

@[simp] theorem State.modifyChargeOf_resetAsserted (s : State) (o : Option Nat) (f : Charge → Charge) :
    (s.modifyChargeOf o f).resetAsserted = s.resetAsserted := by
  cases o <;> rfl

@[simp] theorem State.deliver_resetAsserted (s : State) (i : Nat) (d : Decision) :
    (s.deliver i d).resetAsserted = s.resetAsserted := by
  simp only [State.deliver]
  split
  · rfl
  · split <;> simp

@[simp] theorem State.drainCheck_resetAsserted (s : State) (n : Nat) :
    (s.drainCheck n).resetAsserted = s.resetAsserted := by
  simp only [State.drainCheck]
  split <;> rfl

theorem State.closeEntry_resetAsserted (s : State) (q : Nat) (d : Decision) :
    (s.closeEntry q d).resetAsserted = s.resetAsserted := by
  simp only [State.closeEntry, State.drainCheck_resetAsserted, State.removeEntry, State.modifyChargeOf_resetAsserted]
  split <;> simp

/-- `t` is a state whose Board Tracker differs from that of `s` in no more than its queue, and that is no
nearer to a reset. -/
structure State.SameLine (s t : State) : Prop where
  resetAsserted : t.resetAsserted = s.resetAsserted
  tracker : t.tracker = { s.tracker with queue := t.tracker.queue }

theorem State.SameLine.refl (s : State) : s.SameLine s := ⟨rfl, rfl⟩

theorem State.SameLine.trans {s t u : State} (h : s.SameLine t) (h' : t.SameLine u) : s.SameLine u :=
  ⟨h'.resetAsserted.trans h.resetAsserted, by rw [h'.tracker, h.tracker]⟩

theorem State.SameLine.position {s t : State} (h : s.SameLine t) : t.tracker.position = s.tracker.position := by
  rw [h.tracker]

theorem State.SameLine.reached {s t : State} (h : s.SameLine t) (x : Nat) : t.Reached x ↔ s.Reached x := by
  rw [State.Reached, h.tracker, State.Reached]

theorem State.SameLine.waitsOn {s t : State} (h : s.SameLine t) (e : Entry) : t.waitsOn e = s.waitsOn e := by
  unfold State.waitsOn
  rw [h.tracker]

theorem State.sameLine_takeDue (s : State) (q : Nat) : s.SameLine (s.takeDue q) := by
  unfold State.takeDue
  split
  · split
    · exact ⟨rfl, rfl⟩
    · exact ⟨rfl, rfl⟩
    · exact ⟨s.closeEntry_resetAsserted q _, by rw [State.closeEntry_tracker]⟩
    · exact .refl s
  · exact .refl s

theorem State.sameLine_takeReached (s : State) (k q : Nat) : s.SameLine (s.takeReached k q) := by
  induction k generalizing s with
  | zero => exact .refl s
  | succ k ih =>
    unfold State.takeReached
    split
    · exact (s.sameLine_takeDue q).trans (ih _)
    · exact .refl s

theorem State.sameLine_settle (s : State) (l : List Nat) : s.SameLine (l.foldl (fun s q => s.takeReached 3 q) s) := by
  induction l generalizing s with
  | nil => exact .refl s
  | cons q l ih => exact (s.sameLine_takeReached 3 q).trans (ih _)

theorem State.sameLine_settleChain (s : State) : s.SameLine s.settleChain := s.sameLine_settle _

/-! ## One place of the queue through its events (R95, R97) -/

/-- How many events an entry still has before it leaves the queue. -/
def Due.left : Due → Nat
  | .expiry => 3
  | .openGate => 2
  | .closeGate => 1

section Place
variable {s : State} {l r : List Entry} {e : Entry}

theorem State.takeReached_expiry (h : s.QueueAt l e r) (hd : e.decision = none) (hr : s.Reached (s.waitsOn e)) (k : Nat) :
    s.takeReached (k + 1) e.sequence = (s.decideNoData e).takeReached k e.sequence := by
  have hentry := State.entry?_of_queueAt h
  rw [State.takeReached_of_due (State.dueEvent_of_reached hentry hr), State.takeDue_expiry hentry hr hd]

theorem State.takeReached_open {d : Decision} (h : s.QueueAt l e r) (hd : e.decision = some d) (hg : d.gateOpen = false)
    (hr : s.Reached d.openPos) (k : Nat) :
    s.takeReached (k + 1) e.sequence = (s.openEntry e.sequence d).takeReached k e.sequence := by
  have hentry := State.entry?_of_queueAt h
  rw [← s.waitsOn_closed hd hg] at hr
  rw [State.takeReached_of_due (State.dueEvent_of_reached hentry hr), State.takeDue_open hentry hr hd hg]

/-- After its close event nothing more is taken of an entry. -/
theorem State.takeReached_close {d : Decision} (h : s.QueueAt l e r) (hd : e.decision = some d) (hg : d.gateOpen = true)
    (hr : s.Reached d.closePos) (k : Nat) : s.takeReached (k + 1) e.sequence = s.closeEntry e.sequence d := by
  have hentry := State.entry?_of_queueAt h
  rw [← s.waitsOn_opened hd hg] at hr
  rw [State.takeReached_of_due (State.dueEvent_of_reached hentry hr), State.takeDue_close hentry hr hd hg,
    State.takeReached_of_not_due (State.dueEvent_left (by rw [State.closeEntry_tracker]; exact h.filter_eq) h)]

/-- The expiry under whatever plan is ACTIVE. -/
theorem State.decideNoData_active (s : State) (e : Entry) :
    s.decideNoData e = s.noData e s.sorter.activeSlot (s.sorter.planOf s.sorter.activeSlot) := rfl

/-- The event of a place leaves an entry there that is decided and has fewer events before it, or no entry. -/
theorem State.takeDue_place (h : s.QueueAt l e r) (hr : s.Reached (s.waitsOn e)) :
    ∃ o : Option Entry, (s.takeDue e.sequence).tracker.queue = l ++ o.toList ++ r ∧
      ∀ x ∈ o, x.sequence = e.sequence ∧ x.decision.isSome = true ∧ x.due.left < e.due.left := by
  have hentry := State.entry?_of_queueAt h
  rcases hd : e.decision with _ | d
  · rw [State.takeDue_expiry hentry hr hd, Entry.due_waiting hd]
    have hactive := s.decideNoData_active e
    generalize s.sorter.activeSlot = n, s.sorter.planOf _ = pl at hactive
    refine ⟨some { e with decision := some (s.noDataDecision e n pl) }, ?_, ?_⟩
    · rw [hactive, Option.toList_some, List.append_assoc, List.singleton_append]
      exact congrArg (·.tracker.queue) (State.setDecision_of_queueAt h _)
    · rintro _ ⟨⟩
      exact ⟨rfl, rfl, by rw [Entry.due_closed rfl rfl]; decide⟩
  · rcases hg : d.gateOpen with _ | _
    · rw [State.takeDue_open hentry hr hd hg, Entry.due_closed hd hg]
      refine ⟨some { e with decision := some { d with gateOpen := true } }, ?_, ?_⟩
      · rw [State.openEntry_eq h, Option.toList_some, List.append_assoc, List.singleton_append]
        rfl
      · rintro _ ⟨⟩
        exact ⟨rfl, rfl, by rw [Entry.due_opened rfl rfl]; decide⟩
    · rw [State.takeDue_close hentry hr hd hg]
      refine ⟨none, ?_, by simp⟩
      rw [State.closeEntry_tracker, Option.toList_none, List.append_nil]
      exact h.filter_eq

/-- With fuel for the events that are left, a place holds afterwards the entry as it was or decided, with
nothing reached, or no entry (R95). -/
theorem State.takeReached_place (h : s.QueueAt l e r) {k : Nat} (hk : e.due.left ≤ k) :
    ∃ o : Option Entry, (s.takeReached k e.sequence).tracker.queue = l ++ o.toList ++ r ∧
      ∀ x ∈ o, x.sequence = e.sequence ∧ (x = e ∨ x.decision.isSome = true) ∧ ¬s.Reached (s.waitsOn x) := by
  induction k generalizing s e with
  | zero => cases hd : e.due <;> simp [hd, Due.left] at hk
  | succ k ih =>
    by_cases hr : s.Reached (s.waitsOn e)
    · rw [State.takeReached_of_due (State.dueEvent_of_reached (State.entry?_of_queueAt h) hr)]
      have hline := s.sameLine_takeDue e.sequence
      obtain ⟨o, ho, hx⟩ := State.takeDue_place h hr
      rcases o with _ | x
      · refine ⟨none, ?_, by simp⟩
        have hleft : (s.takeDue e.sequence).tracker.queue = l ++ r := by simpa using ho
        rw [State.takeReached_of_not_due (State.dueEvent_left hleft h), ho]
      · obtain ⟨hseq, hsome, hless⟩ := hx x rfl
        have hplace : (s.takeDue e.sequence).QueueAt l x r := ⟨by simpa using ho, fun y hy => hseq ▸ h.2 y hy⟩
        obtain ⟨o, ho, hx⟩ := ih hplace (by omega)
        refine ⟨o, hseq ▸ ho, fun y hy => ?_⟩
        obtain ⟨hy1, hy2, hy3⟩ := hx y hy
        refine ⟨hy1.trans hseq, .inr ?_, ?_⟩
        · rcases hy2 with rfl | hy2
          · exact hsome
          · exact hy2
        · rwa [hline.reached, hline.waitsOn] at hy3
    · refine ⟨some e, ?_, ?_⟩
      · rw [State.takeReached_of_not_due (State.dueEvent_of_not_reached (State.entry?_of_queueAt h) hr), h.1]
        simp
      · rintro _ ⟨⟩
        exact ⟨rfl, .inl rfl, hr⟩

end Place

theorem Entry.left_due_le (e : Entry) : e.due.left ≤ 3 := by cases e.due <;> decide

/-! ## The chain settled, entry by entry (R95) -/

/-- The queue with the entries in `before` settled and the entries in `todo` still to be looked at. -/
structure State.Settling (s : State) (before todo : List Entry) : Prop where
  queue : s.tracker.queue = before ++ todo
  distinct : s.DistinctEdges
  settled : ∀ x ∈ before, ¬s.Reached (s.waitsOn x)

theorem State.DistinctEdges.queueAt {s : State} (h : s.DistinctEdges) {l r : List Entry} {e : Entry}
    (hq : s.tracker.queue = l ++ e :: r) : s.QueueAt l e r := by
  rw [State.DistinctEdges, hq, List.map_append, List.map_cons, List.nodup_middle, List.nodup_cons, ← List.map_append] at h
  exact ⟨hq, fun x hx hs => h.1 (hs ▸ List.mem_map_of_mem hx)⟩

/-- The next entry settled: it stays as it was or becomes decided, or it leaves. -/
theorem State.Settling.step {s : State} {before todo : List Entry} {e : Entry} (h : s.Settling before (e :: todo)) :
    ∃ o : Option Entry, (s.takeReached 3 e.sequence).Settling (before ++ o.toList) todo ∧
      ∀ x ∈ o, x = e ∨ x.decision.isSome = true := by
  have hplace := h.distinct.queueAt h.queue
  obtain ⟨o, ho, hx⟩ := State.takeReached_place hplace e.left_due_le
  have hline := s.sameLine_takeReached 3 e.sequence
  refine ⟨o, ⟨ho, ?_, fun x hm => ?_⟩, fun x hm => (hx x hm).2.1⟩
  · have hd := h.distinct
    rw [State.DistinctEdges, h.queue] at hd
    rw [State.DistinctEdges, ho]
    refine hd.sublist ?_
    rw [List.append_assoc, List.map_append, List.map_append, List.map_append]
    refine List.Sublist.append_left ?_ _
    rcases o with _ | x
    · exact List.sublist_cons_self _ _
    · simp [(hx x rfl).1]
  · rw [hline.reached, hline.waitsOn]
    rcases List.mem_append.mp hm with hm | hm
    · exact h.settled x hm
    · exact (hx x (Option.mem_toList.mp hm)).2.2

/-- When every entry has been looked at, none has anything reached. -/
theorem State.Settling.end {s : State} {before todo : List Entry} (h : s.Settling before todo) :
    let u := (todo.map (·.sequence)).foldl (fun s q => s.takeReached 3 q) s
    ∀ e ∈ u.tracker.queue, ¬u.Reached (u.waitsOn e) := by
  induction todo generalizing s before with
  | nil =>
    intro u e he
    have he : e ∈ s.tracker.queue := he
    rw [h.queue, List.append_nil] at he
    exact h.settled e he
  | cons e todo ih =>
    obtain ⟨o, hs, -⟩ := h.step
    exact ih hs

/-- A chain on which nothing is reached stays as it is. -/
theorem State.settleChain_of_not_reached {s : State} (h : ∀ e ∈ s.tracker.queue, ¬s.Reached (s.waitsOn e)) :
    s.settleChain = s := by
  have hnone (q : Nat) : s.takeReached 3 q = s := by
    refine State.takeReached_of_not_due ?_ 3
    rcases hq : s.entry? q with _ | e
    · exact State.dueEvent_of_absent hq
    · exact State.dueEvent_of_not_reached hq (h e (State.mem_of_entry? hq).1)
  exact List.foldl_fixed' hnone _

/-! ## The pulse as its events (R95, R101, R106) -/

/-- The command of the event that an entry waits on. -/
def Entry.command (e : Entry) : Instr :=
  match e.decision with
  | none => .expiry
  | some d => if d.gateOpen then .closeEvent e.sequence else .openEvent e.sequence

/-- Of two entries that wait, the one behind is not reached before the one ahead (R95, R97). -/
def State.ReachedInOrder (s : State) (a b : Entry) : Prop :=
  a.decision = none → b.decision = none → ¬s.Reached (s.waitsOn a) → ¬s.Reached (s.waitsOn b)

/-- An expiry position is reached exactly when the chain has moved the pairing distance (R95, R101). -/
theorem State.reached_expiry_iff {s : State} (hp : s.tracker.geometry.pairing ≤ 65535) {e : Entry}
    (he : e.decision = none) (hm : s.movedSince e.capture ≤ s.tracker.geometry.pairing) :
    s.Reached (s.waitsOn e) ↔ s.movedSince e.capture = s.tracker.geometry.pairing := by
  rw [s.waitsOn_waiting he]
  simp only [State.movedSince, State.Reached, Config.chainModulus] at *
  omega

theorem TransitOk.reachedInOrder {s : State} (h : TransitOk s) : s.tracker.queue.Pairwise s.ReachedInOrder := by
  obtain ⟨⟨hp, -⟩, -, horder, hwait, -⟩ := h
  refine horder.imp_of_mem fun {a b} ha hb hab hda hdb hra hrb => hra ?_
  have hma := hwait a ha hda
  rw [State.reached_expiry_iff hp hdb (hwait b hb hdb)] at hrb
  exact (State.reached_expiry_iff hp hda hma).mpr (by omega)

theorem State.chainEvent_due {s : State} {q : Nat} {e : Entry} (h : s.entry? q = some e) :
    s.chainEvent e.due q = s.takeReached 3 q := by
  by_cases hr : s.Reached (s.waitsOn e)
  · exact if_pos (State.dueEvent_of_reached h hr)
  · rw [State.chainEvent_of_not_reached h hr, State.takeReached_of_not_due (State.dueEvent_of_not_reached h hr)]

/-- The command of the next entry does what the pulse does for it: EXPIRY names no entry, and the oldest one
that waits is this one, or neither is reached. -/
theorem State.Settling.exec_command {s : State} {before todo : List Entry} {e : Entry} (h : s.Settling before (e :: todo))
    (hs : s.resetAsserted = false) (horder : ∀ a ∈ before, s.ReachedInOrder a e) :
    exec e.command s = .next (s.takeReached 3 e.sequence) := by
  have hentry := State.entry?_of_queueAt (h.distinct.queueAt h.queue)
  rcases hd : e.decision with _ | d
  · simp only [Entry.command, hd]
    by_cases hall : ∀ x ∈ before, x.decision.isSome = true
    · rw [exec_expiry hs (State.oldestAwaiting_eq h.queue hall hd), ← Entry.due_waiting hd, State.chainEvent_due hentry]
    · simp only [not_forall, Bool.not_eq_true, Option.isSome_eq_false_iff, Option.isNone_iff_eq_none] at hall
      obtain ⟨a, ha, hda⟩ := hall
      have hidle := horder a ha hda hd (h.settled a ha)
      obtain ⟨l, x, r, hq, hl, hx⟩ : ∃ l x r, before = l ++ x :: r ∧ (∀ y ∈ l, y.decision.isSome = true) ∧
          x.decision = none := by
        have hfind : (before.find? Entry.awaiting).isSome = true :=
          List.find?_isSome.mpr ⟨a, ha, by simp [Entry.awaiting, hda]⟩
        obtain ⟨x, hx⟩ := Option.isSome_iff_exists.mp hfind
        obtain ⟨hx, l, r, hq, hl⟩ := List.find?_eq_some_iff_append.mp hx
        refine ⟨l, x, r, hq, fun y hy => ?_, by simpa [Entry.awaiting] using hx⟩
        simpa [Entry.awaiting, Option.isSome_iff_ne_none] using hl y hy
      have hqueue : s.tracker.queue = l ++ x :: (r ++ e :: todo) := by rw [h.queue, hq]; simp
      rw [exec_expiry hs (State.oldestAwaiting_eq hqueue hl hx),
        State.chainEvent_of_not_reached (State.entry?_of_queueAt (h.distinct.queueAt hqueue))
          (h.settled x (by simp [hq])),
        State.takeReached_of_not_due (State.dueEvent_of_not_reached hentry hidle)]
  · simp only [Entry.command, hd]
    rcases hg : d.gateOpen with _ | _
    · rw [if_neg (by decide), exec_openEvent hs, ← Entry.due_closed hd hg, State.chainEvent_due hentry]
    · rw [if_pos rfl, exec_closeEvent hs, ← Entry.due_opened hd hg, State.chainEvent_due hentry]

/-- The commands of the entries, in queue order, take what the pulse takes. -/
theorem State.Settling.runs {s : State} {before todo : List Entry} (h : s.Settling before todo)
    (hs : s.resetAsserted = false) (hbefore : ∀ a ∈ before, ∀ b ∈ todo, s.ReachedInOrder a b)
    (htodo : todo.Pairwise s.ReachedInOrder) :
    Runs s (todo.map Entry.command) ((todo.map (·.sequence)).foldl (fun s q => s.takeReached 3 q) s) := by
  induction todo generalizing s before with
  | nil => rfl
  | cons e todo ih =>
    obtain ⟨o, hnext, ho⟩ := h.step
    obtain ⟨he, htodo⟩ := List.pairwise_cons.mp htodo
    have hline := s.sameLine_takeReached 3 e.sequence
    have hsame (a b : Entry) : (s.takeReached 3 e.sequence).ReachedInOrder a b ↔ s.ReachedInOrder a b := by
      simp only [State.ReachedInOrder, hline.reached, hline.waitsOn]
    refine ⟨_, h.exec_command hs fun a ha => hbefore a ha e (by simp), ih hnext (hline.resetAsserted.trans hs)
      (fun a ha b hb => (hsame a b).mpr ?_) (htodo.imp fun {a b} => (hsame a b).mpr)⟩
    rcases List.mem_append.mp ha with ha | ha
    · exact hbefore a ha b (by simp [hb])
    · rcases ho a (Option.mem_toList.mp ha) with rfl | hsome
      · exact he b hb
      · intro hnone
        simp [hnone] at hsome

/-! ## An eye edge (R96) -/

/-- The edge of sequence `q` joins the queue (R96). -/
def State.joined (s : State) (q : Nat) : State :=
  { s with tracker := { s.tracker with
      edgeSequence := q, queue := s.tracker.queue ++ [⟨q, s.tracker.position, none⟩] } }

theorem State.joined_queueAt {s : State} {q : Nat} (h : ∀ e ∈ s.tracker.queue, e.sequence ≠ q) :
    (s.joined q).QueueAt s.tracker.queue ⟨q, s.tracker.position, none⟩ [] :=
  ⟨rfl, by simpa using h⟩

section Edge
variable {s : State} {q : Nat}

theorem State.takeEdge_full (h : 32 ≤ s.tracker.queue.length) :
    s.takeEdge = s.edgeLost ((s.tracker.edgeSequence + 1) % 256) .queueFull := by
  rw [State.takeEdge]
  exact if_pos h

theorem State.takeEdge_held (hl : s.tracker.queue.length < 32)
    (h : ∃ e ∈ s.tracker.queue, e.sequence = (s.tracker.edgeSequence + 1) % 256) :
    s.takeEdge = s.edgeLost ((s.tracker.edgeSequence + 1) % 256) .sequenceHeld := by
  rw [State.takeEdge]
  exact (if_neg (Nat.not_le.mpr hl)).trans (if_pos (List.any_eq_true.mpr (by simpa using h)))

theorem State.takeEdge_new (hl : s.tracker.queue.length < 32)
    (h : ∀ e ∈ s.tracker.queue, e.sequence ≠ (s.tracker.edgeSequence + 1) % 256) :
    s.takeEdge = (s.joined ((s.tracker.edgeSequence + 1) % 256)).takeReached 3 ((s.tracker.edgeSequence + 1) % 256) := by
  rw [State.takeEdge]
  refine (if_neg (Nat.not_le.mpr hl)).trans (if_neg ?_)
  simpa using h

/-- Under a pairing distance above 0 the entry of an edge waits (R95). -/
theorem State.joined_waits (h : ∀ e ∈ s.tracker.queue, e.sequence ≠ q) (h1 : 1 ≤ s.tracker.geometry.pairing)
    (h2 : s.tracker.geometry.pairing ≤ 65535) : (s.joined q).takeReached 3 q = s.joined q := by
  refine State.takeReached_of_not_due (State.dueEvent_of_not_reached (State.entry?_of_queueAt (State.joined_queueAt h)) ?_) 3
  simp only [State.waitsOn, State.joined, State.Reached]
  omega

/-- The chain has reached the position where it stands. -/
theorem State.reached_position (s : State) : s.Reached (s.tracker.position % Config.chainModulus) := by
  simp only [State.Reached, Config.chainModulus]
  omega

/-- A gate that opens and closes at once is as it was (R126, R127). -/
theorem State.withGate_opened_closed (s : State) (bin : Nat) : (s.withGate bin (· + 1)).withGate bin (· - 1) = s := by
  have hgates : s.sorter.gates.modify bin (fun n => n + 1 - 1) = s.sorter.gates :=
    List.modify_id bin _
  simp only [State.withGate, List.modify_modify_eq, Function.comp_def, hgates]

/-- A board that is decided and leaves at once is counted and no longer counted under the ACTIVE plan (R124). -/
theorem State.drained_of_decidedUnder {t : State} {n : Nat} (ht : t.sorter = (s.decidedUnder n).sorter)
    (h : (s.sorter.slot n).role = .active) : t.drained n = { t with sorter := s.sorter } := by
  have hslot : t.sorter.slot n = { s.sorter.slot n with decided := (s.sorter.slot n).decided + 1 } := by
    rw [ht]
    exact (Sorter.slot_setSlot _ _ _ _).trans (if_pos Iff.rfl)
  have hback : t.sorter.setSlot n (s.sorter.slot n) = s.sorter := by
    simp only [ht, State.decidedUnder, State.setPlanSlot, Sorter.setSlot, Sorter.slot]
    split <;> rfl
  rw [State.drained, hslot, if_neg (by simp [h])]
  simp only [State.setPlanSlot, Nat.add_sub_cancel, hback]

/-- Under the geometry of power-on, the open and the close position of an entry of a NO_DATA decision are its
capture position (R93, R105). -/
theorem State.gatePositions_zero (h : s.tracker.geometry = ⟨0, List.replicate 16 0, 0, 0, 0⟩) (capture bin length : Nat) :
    s.gatePositions capture bin length = (capture % Config.chainModulus, capture % Config.chainModulus) := by
  have hoffset : ((List.replicate 16 0)[bin]?).getD 0 = 0 := by
    rw [List.getElem?_replicate]
    split <;> rfl
  simp only [State.gatePositions, h, hoffset, Config.chainModulus, Prod.mk.injEq]
  omega

/-- A board without charge and pack whose open and close position are reached leaves at once (R95, R106). -/
theorem State.takeReached_leaves {l r : List Entry} {e : Entry} {d : Decision} (h : s.QueueAt l e r)
    (hd : e.decision = some d) (hg : d.gateOpen = false) (hc : d.chargeSlot = none) (hp : d.packSlot = none)
    (ho : s.Reached d.openPos) (hr : s.Reached d.closePos) :
    s.takeReached 2 e.sequence = (s.withQueue (l ++ r)).drained d.planSlot := by
  have hopened : (s.openEntry e.sequence d).QueueAt l { e with decision := some { d with gateOpen := true } } r := by
    rw [State.openEntry_eq h]
    exact ⟨rfl, h.2⟩
  rw [State.takeReached_open h hd hg ho, State.takeReached_close hopened rfl rfl hr,
    State.closeEntry_eq (d := { d with gateOpen := true }) hopened hp, State.openEntry_eq h]
  simp only [hc, State.withGate_opened_closed]
  rfl

/-- Under the geometry of power-on the entry of an edge is decided as NO_DATA, opens its gate and leaves, all at
its edge (R93, R95, R102, R106). -/
theorem State.joined_leaves (h : ∀ e ∈ s.tracker.queue, e.sequence ≠ q)
    (hg : s.tracker.geometry = ⟨0, List.replicate 16 0, 0, 0, 0⟩)
    (ha : (s.sorter.slot s.sorter.activeSlot).role = .active) : (s.joined q).takeReached 3 q =
      ({ s with tracker := { s.tracker with edgeSequence := q } } : State).raise .transit (.transit q .untracked) := by
  generalize hn : s.sorter.activeSlot = n at ha
  let e : Entry := ⟨q, s.tracker.position, none⟩
  let d := (s.joined q).noDataDecision e n (s.sorter.planOf n)
  have hpos : d.openPos = s.tracker.position % Config.chainModulus ∧ d.closePos = s.tracker.position % Config.chainModulus :=
    (Prod.mk.injEq _ _ _ _).mp ((s.joined q).gatePositions_zero hg s.tracker.position (s.sorter.planOf n).reject 80)
  have hexpiry : (s.joined q).Reached ((s.joined q).waitsOn e) := by
    rw [State.waitsOn_waiting _ rfl, show (s.joined q).tracker.geometry = s.tracker.geometry from rfl, hg]
    exact (s.reached_mod _).mp s.reached_position
  have hplace := State.joined_queueAt h
  rw [State.takeReached_expiry hplace rfl hexpiry, State.decideNoData_active,
    show (s.joined q).sorter.activeSlot = n from hn]
  generalize ht : (s.joined q).noData e n _ = t
  have hdecided : t.QueueAt s.tracker.queue { e with decision := some d } [] :=
    ⟨by rw [← ht]; exact congrArg (·.tracker.queue) (State.setDecision_of_queueAt hplace d), hplace.2⟩
  have hreached : t.Reached (s.tracker.position % Config.chainModulus) := by
    rw [← ht]
    exact s.reached_position
  have hcounted : (t.withQueue (s.tracker.queue ++ [])).sorter = (s.decidedUnder n).sorter := by
    rw [← ht]
    rfl
  refine (State.takeReached_leaves hdecided rfl rfl rfl rfl (hpos.1 ▸ hreached) (hpos.2 ▸ hreached)).trans
    ((State.drained_of_decidedUnder hcounted ha).trans ?_)
  rw [← ht, List.append_nil]
  rfl

end Edge

/-- Settles O36: the pulse by the entries it settles one after the other, the edge by what becomes of its entry. -/
theorem encoderPulsesAndEdges : Obligations.EncoderPulsesAndEdges := by
  unfold Obligations.EncoderPulsesAndEdges
  intro s hs
  have hedge : exec .edge s = .next s.takeEdge := by
    rw [exec, execEdge, State.fieldEvent_released hs]
  refine ⟨?_, ?_⟩
  · intro u
    have hsettling (h : QueueOk s) : s.Settling [] s.tracker.queue := ⟨rfl, h.2.1, by simp⟩
    refine ⟨?_, s.sameLine_settleChain.position, State.settleChain_of_not_reached, fun h => (hsettling h).end, fun h ht => ?_⟩
    · rw [exec, execEncPulse, State.fieldEvent_released hs]
    · exact (hsettling h).runs hs (by simp) ht.reachedInOrder
  · intro q
    rw [hedge]
    refine ⟨fun h => by rw [State.takeEdge_full h], fun hl h => by rw [State.takeEdge_held hl h], fun hl h => ⟨fun h1 h2 => ?_, fun hg ha => ?_⟩⟩
    · rw [State.takeEdge_new hl h, State.joined_waits h h1 h2]
      rfl
    · rw [State.takeEdge_new hl h, State.joined_leaves h hg ha]

end Sys2Proof.Machine
end

section
/-! The pairing of a message with the entries that wait. -/

namespace Sys2Proof.Machine

/-! ## A NO_DATA decision leaves the rest of the line alone (R102) -/

section NoData
variable {s : State} {e : Entry} {n : Nat} {pl : Plan}

theorem State.noData_distinctEdges (h : s.DistinctEdges) : (s.noData e n pl).DistinctEdges := by
  have hseq (d : Decision) : ((fun x : Entry => x.sequence) ∘ fun x : Entry =>
      if x.sequence = e.sequence then { x with decision := some d } else x) = fun x => x.sequence := by
    funext x
    simp only [Function.comp_apply]
    split <;> rfl
  have hmap : (s.noData e n pl).tracker.queue.map (·.sequence) = s.tracker.queue.map (·.sequence) := by
    refine (List.map_map).trans ?_
    rw [hseq]
  rw [State.DistinctEdges, hmap]
  exact h

theorem State.noData_activePlan (h : s.ActivePlan n pl) (x : Entry) : (s.noData x n pl).ActivePlan n pl := by
  obtain ⟨hn, hp⟩ := h
  have hslot : (s.noData x n pl).sorter.slot n = { s.sorter.slot n with decided := (s.sorter.slot n).decided + 1 } :=
    (Sorter.slot_setSlot _ _ _ _).trans (if_pos Iff.rfl)
  have hrole : (s.noData x n pl).sorter.slot0.role = s.sorter.slot0.role := by
    simp only [State.noData, State.raise_sorter, State.decidedUnder, State.setPlanSlot, Sorter.setSlot, Sorter.slot]
    split <;> rfl
  exact ⟨by rw [hrole]; exact hn, by rw [hslot]; exact hp⟩

/-- The entry of sequence `k` that waits for its message (R99). -/
def State.waitingFor (s : State) (k : Nat) : Option Entry :=
  s.tracker.queue.find? (fun x => x.awaiting && x.sequence = k)

/-- An entry decided as NO_DATA is not the one that another sequence waits for. -/
theorem State.waitingFor_noData {k : Nat} (hk : e.sequence ≠ k) : (s.noData e n pl).waitingFor k = s.waitingFor k := by
  have hqueue : (s.noData e n pl).tracker.queue = s.tracker.queue.map (fun x =>
      if x.sequence = e.sequence then { x with decision := some (s.noDataDecision e n pl) } else x) := rfl
  rw [State.waitingFor, hqueue, List.find?_map, State.waitingFor]
  have hsame : ((fun x : Entry => x.awaiting && decide (x.sequence = k)) ∘ fun x =>
      if x.sequence = e.sequence then { x with decision := some (s.noDataDecision e n pl) } else x) =
        fun x => x.awaiting && decide (x.sequence = k) := by
    funext x
    by_cases hx : x.sequence = e.sequence <;> simp [hx, hk]
  rw [hsame]
  rcases hf : s.tracker.queue.find? _ with _ | x
  · rfl
  · have hx := List.find?_some hf
    simp only [Bool.and_eq_true, decide_eq_true_eq] at hx
    simp [hx.2, Ne.symm hk]

end NoData

/-! ## The skipped entries (R99, R102) -/

/-- Entries that wait, decided as NO_DATA one after the other. -/
theorem State.skipEntries_eq {s : State} {n : Nat} {pl : Plan} {l : List Entry} (hd : s.DistinctEdges)
    (ha : s.ActivePlan n pl) (hl : (l.map (·.sequence)).Nodup) (hw : ∀ x ∈ l, s.Waits x)
    (ho : ∀ x ∈ l, ¬s.Reached (s.noDataDecision x n pl).openPos) :
    s.skipEntries l = l.foldl (fun u x => u.noData x n pl) s := by
  induction l generalizing s with
  | nil => rfl
  | cons e l ih =>
    obtain ⟨hne, hl⟩ := List.nodup_cons.mp hl
    obtain ⟨a, b, hq⟩ := List.append_of_mem (hw e (by simp)).1
    have hone : (s.decideNoData e).takeReached 3 e.sequence = s.noData e n pl := by
      rw [State.decideNoData_eq ha, State.takeReached_noData (hd.queueAt hq) (ho e (by simp))]
    rw [State.skipEntries, List.foldl_cons, List.foldl_cons, hone]
    refine ih (State.noData_distinctEdges hd) (State.noData_activePlan ha e) hl (fun x hx => ?_)
      fun x hx => ho x (List.mem_cons_of_mem _ hx)
    obtain ⟨hm, hnone⟩ := hw x (List.mem_cons_of_mem _ hx)
    exact ⟨State.mem_setDecision _ hm fun hs => hne (List.mem_map.mpr ⟨x, hx, hs⟩), hnone⟩

theorem State.waitingFor_noDatas {k n : Nat} {pl : Plan} {l : List Entry} (h : ∀ x ∈ l, x.sequence ≠ k) (s : State) :
    (l.foldl (fun u x => u.noData x n pl) s).waitingFor k = s.waitingFor k := by
  induction l generalizing s with
  | nil => rfl
  | cons e l ih =>
    obtain ⟨he, hl⟩ := List.forall_mem_cons.mp h
    rw [List.foldl_cons, ih hl, State.waitingFor_noData he]

/-! ## A message pairs (R99, R100) -/

theorem State.pair_orphan {s : State} {m : BoardMessage} (h : s.oldestAwaiting = none) : s.pair m = s.orphaned m.sequence := by
  rw [State.pair, h]
  rfl

section Pair
variable {s : State} {m : BoardMessage} {e : Entry} (h : s.oldestAwaiting = some e)
include h

theorem State.pair_oldest (hd : (m.sequence + 256 - e.sequence) % 256 = 0) : s.pair m = s.arrive e m := by
  rw [State.pair, h]
  exact if_pos hd

theorem State.pair_behind (hd : 128 ≤ (m.sequence + 256 - e.sequence) % 256) : s.pair m = s.orphaned m.sequence := by
  rw [State.pair, h]
  exact (if_neg (by omega)).trans (if_neg (by omega))

theorem State.pair_ahead (h1 : 1 ≤ (m.sequence + 256 - e.sequence) % 256)
    (h2 : (m.sequence + 256 - e.sequence) % 256 ≤ 127) : s.pair m =
      (s.skipEntries (s.skipped e.sequence ((m.sequence + 256 - e.sequence) % 256))).pairOrOrphan m := by
  rw [State.pair, h]
  exact (if_neg (by omega)).trans (if_pos h2)

end Pair

theorem State.pairOrOrphan_some {s : State} {m : BoardMessage} {x : Entry} (h : s.waitingFor m.sequence = some x) :
    s.pairOrOrphan m = s.arrive x m := by
  rw [State.waitingFor] at h
  rw [State.pairOrOrphan, h]

theorem State.pairOrOrphan_none {s : State} {m : BoardMessage} (h : s.waitingFor m.sequence = none) :
    s.pairOrOrphan m = s.orphaned m.sequence := by
  rw [State.waitingFor] at h
  rw [State.pairOrOrphan, h]
  rfl

/-- Settles O40: by the difference of the sequences; the skipped entries are not the one the message names. -/
theorem messagePairing : Obligations.MessagePairing := by
  unfold Obligations.MessagePairing
  intro s m hm
  refine ⟨fun h => State.pair_orphan (State.oldestAwaiting_none h), ?_⟩
  intro l e r hq hl he hseq diff
  have hold := State.oldestAwaiting_eq hq hl he
  refine ⟨State.pair_oldest hold, State.pair_behind hold, ?_⟩
  intro h1 h2 hok n pl ha skipped ho t
  have hdistinct : s.DistinctEdges := hok.2.1
  have hskipped : s.skipped e.sequence diff = skipped := by
    have hnone : l.filter (fun x => x.awaiting && (x.sequence + 256 - e.sequence) % 256 < diff) = [] :=
      List.filter_eq_nil_iff.mpr fun x hx => by simp [Entry.awaiting, Option.isSome_iff_ne_none.mp (hl x hx)]
    rw [State.skipped, hq, List.filter_append, hnone]
    rfl
  have hother : ∀ x ∈ skipped, x.sequence ≠ m.sequence := by
    intro x hx hxm
    have := (List.mem_filter.mp hx).2
    simp only [hxm, Bool.and_eq_true, decide_eq_true_eq] at this
    exact Nat.lt_irrefl _ this.2
  have hsub : skipped.Sublist s.tracker.queue :=
    hq ▸ List.filter_sublist.trans (List.sublist_append_right l (e :: r))
  have hskip : s.skipEntries skipped = t := by
    refine State.skipEntries_eq hdistinct ha (hdistinct.sublist (hsub.map _)) (fun x hx => ⟨hsub.subset hx, ?_⟩) ho
    have := (List.mem_filter.mp hx).2
    simp only [Bool.and_eq_true, Option.isNone_iff_eq_none] at this
    exact this.1
  rw [State.pair_ahead hold h1 h2, hskipped, hskip]
  have hwaiting : t.waitingFor m.sequence = s.waitingFor m.sequence := State.waitingFor_noDatas hother s
  constructor
  · intro x hx hnone hxm
    refine State.pairOrOrphan_some (hwaiting.trans ?_)
    obtain ⟨a, b, hab⟩ := List.append_of_mem (show x ∈ s.tracker.queue by simp [hq, hx])
    obtain ⟨-, hne⟩ := hdistinct.queueAt hab
    refine List.find?_eq_some_iff_append.mpr ⟨by simp [Entry.awaiting, hnone, hxm], a, b, hab, fun y hy => ?_⟩
    have := hne y (by simp [hy])
    simp [← hxm, this]
  · intro hnone
    refine State.pairOrOrphan_none (hwaiting.trans (List.find?_eq_none.mpr fun x hx => ?_))
    rw [hq, List.mem_append, List.mem_cons] at hx
    rcases hx with hx | rfl | hx
    · simp [Entry.awaiting, Option.isSome_iff_ne_none.mp (hl x hx)]
    · have hxm : x.sequence ≠ m.sequence := fun hxm => by simp [diff, hxm] at h1
      simp [hxm]
    · by_cases hd : x.decision = none
      · simp [hnone x hx hd]
      · simp [Entry.awaiting, hd]

end Sys2Proof.Machine
end

section
/-! The board-message receiver: the digits of a message, and the characters one by one. -/

namespace Sys2Proof.Machine

/-! ## Digits (R184) -/

/-- The character is a hexadecimal digit received without error (R184). -/
def IsHexDigit (c : RxChar) : Prop :=
  c.error = false ∧ ((48 ≤ c.value.toNat ∧ c.value.toNat ≤ 57) ∨ (65 ≤ c.value.toNat ∧ c.value.toNat ≤ 70))

theorem isHexDigit_of_hexDigit {c : RxChar} {n : Nat} (he : c.error = false) (h : hexDigit c.value = some n) :
    IsHexDigit c := by
  refine ⟨he, ?_⟩
  simp only [hexDigit] at h
  split_ifs at h
  · exact .inl ‹_›
  · exact .inr ‹_›

/-- Characters that are read are digits, every one (R184). -/
theorem isHexDigit_of_readDigits : ∀ {l : List RxChar} {p : List Byte}, readDigits l = some p → ∀ c ∈ l, IsHexDigit c
  | [], _, _ => by simp
  | [_], _, h => by simp [readDigits] at h
  | a :: b :: l, _, h => by
    unfold readDigits at h
    split at h
    · cases h
    · rename_i he
      simp only [Bool.or_eq_true, not_or, Bool.not_eq_true] at he
      split at h
      · rename_i hi lo r hhi hlo hr
        exact List.forall_mem_cons.mpr ⟨isHexDigit_of_hexDigit he.1 hhi,
          List.forall_mem_cons.mpr ⟨isHexDigit_of_hexDigit he.2 hlo, isHexDigit_of_readDigits hr⟩⟩
      · cases h

theorem readDigits_none {l : List RxChar} (h : ∃ c ∈ l, ¬IsHexDigit c) : readDigits l = none := by
  obtain ⟨c, hc, hd⟩ := h
  rcases hr : readDigits l with _ | p
  · rfl
  · exact absurd (isHexDigit_of_readDigits hr c hc) hd

/-- The two characters of a field byte (R184). -/
def hexChars (b : Byte) : List RxChar := [hexChar (b.toNat / 16), hexChar (b.toNat % 16)]

theorem hexDigit_hexChar {n : Nat} (h : n < 16) :
    hexDigit (hexChar n).value = some n ∧ (hexChar n).error = false ∧ isStart (hexChar n) = false := by
  revert n
  decide

/-- The characters of field bytes are read as those bytes (R184). -/
theorem readDigits_hexChars (p : List Byte) : readDigits (p.flatMap hexChars) = some p := by
  induction p with
  | nil => rfl
  | cons b p ih =>
    obtain ⟨hhi, hehi, -⟩ := hexDigit_hexChar (n := b.toNat / 16) (by have := b.isLt; omega)
    obtain ⟨hlo, helo, -⟩ := hexDigit_hexChar (n := b.toNat % 16) (by omega)
    have hbyte : 16 * (b.toNat / 16) + b.toNat % 16 = b.toNat := Nat.div_add_mod _ _
    rw [List.flatMap_cons, hexChars, List.cons_append, List.cons_append, List.nil_append, readDigits, hehi, helo, hhi, hlo,
      ih]
    simp [hbyte]

theorem not_isStart_hexChars {p : List Byte} {c : RxChar} (h : c ∈ p.flatMap hexChars) : isStart c = false := by
  obtain ⟨b, -, hc⟩ := List.mem_flatMap.mp h
  simp only [hexChars, List.mem_cons, List.not_mem_nil, or_false] at hc
  rcases hc with rfl | rfl
  · exact (hexDigit_hexChar (by have := b.isLt; omega)).2.2
  · exact (hexDigit_hexChar (by omega)).2.2

/-! ## The fields of a message (R98, R184) -/

/-- The 10 field bytes of a message. -/
def BoardMessage.bytes (m : BoardMessage) : List Byte :=
  Machine.bytes 1 m.sequence ++ Machine.bytes 2 m.number ++ Machine.bytes 1 m.grade ++ Machine.bytes 1 m.lengthClass ++
    Machine.bytes 1 m.widthClass ++ Machine.bytes 1 m.thicknessClass ++ Machine.bytes 2 m.raw ++ signedBytes 1 m.temp

theorem BoardMessage.characters_eq (m : BoardMessage) : m.characters = m.bytes.flatMap hexChars := rfl

theorem BoardMessage.length_characters (m : BoardMessage) : m.characters.length = 20 := by
  simp [BoardMessage.characters, List.length_flatMap]

theorem BoardMessage.readMessage_bytes {m : BoardMessage} (h : m.Fits) : readMessage m.bytes = m := by
  obtain ⟨hs, hn, hg, hl, hw, ht, hr, ht1, ht2⟩ := h
  have htemp : signedField m.bytes 9 1 = m.temp := by
    have hfield : field m.bytes 9 1 = (m.temp % 2 ^ (8 * 1)).toNat := by
      simp [BoardMessage.bytes, signedBytes]
      omega
    rw [signedField, hfield]
    exact twosComplement_signed 1 _ (by decide) (by simpa using ht1) (by simpa using Int.lt_of_le_sub_one ht2)
  have hfields : field m.bytes 0 1 = m.sequence ∧ field m.bytes 1 2 = m.number ∧ field m.bytes 3 1 = m.grade ∧
      field m.bytes 4 1 = m.lengthClass ∧ field m.bytes 5 1 = m.widthClass ∧ field m.bytes 6 1 = m.thicknessClass ∧
      field m.bytes 7 2 = m.raw := by
    simp [BoardMessage.bytes]
    omega
  obtain ⟨h0, h1, h3, h4, h5, h6, h7⟩ := hfields
  rw [readMessage, h0, h1, h3, h4, h5, h6, h7, htemp]

theorem BoardMessage.inRange_iff (m : BoardMessage) : m.inRange = true ↔
    m.grade ≤ 15 ∧ m.lengthClass ≤ 31 ∧ m.widthClass ≤ 15 ∧ m.thicknessClass ≤ 15 := by
  simp [BoardMessage.inRange, and_assoc]

/-! ## The receiver, character by character (R184) -/

theorem isStart_eq_false {c : RxChar} (h : c.value = 35 → c.error = true) : isStart c = false := by
  simpa [isStart] using h

theorem State.setReceiver_self {s : State} {o : Option (List RxChar)} (h : s.tracker.receiver = o) : s.setReceiver o = s := by
  rw [State.setReceiver, ← h]

section Receiver
variable {s : State} {got : List RxChar}

theorem State.boardChar_ignored {c : RxChar} (h : s.tracker.receiver = none) (hc : isStart c = false) :
    s.boardChar c = s := by
  simp [State.boardChar, h, hc]

theorem State.boardChar_more {c : RxChar} (h : s.tracker.receiver = some got) (hc : isStart c = false)
    (hl : got.length + 1 < 20) : s.boardChar c = s.setReceiver (some (got ++ [c])) := by
  simp [State.boardChar, h, hc, hl]

theorem State.boardChar_last {c : RxChar} (h : s.tracker.receiver = some got) (hc : isStart c = false)
    (hl : 20 ≤ got.length + 1) : s.boardChar c = (s.setReceiver none).finishMessage (got ++ [c]) := by
  simp [State.boardChar, h, hc, Nat.not_lt.mpr hl]

theorem State.boardChars_ignored {l : List RxChar} (h : s.tracker.receiver = none) (hl : ∀ c ∈ l, isStart c = false) :
    l.foldl State.boardChar s = s := by
  induction l with
  | nil => rfl
  | cons c l ih =>
    obtain ⟨hc, hl⟩ := List.forall_mem_cons.mp hl
    rw [List.foldl_cons, State.boardChar_ignored h hc, ih hl]

/-- Less than a message is held (R184). -/
theorem State.boardChars_more {l : List RxChar} (h : s.tracker.receiver = some got) (hl : ∀ c ∈ l, isStart c = false)
    (hn : got.length + l.length < 20) : l.foldl State.boardChar s = s.setReceiver (some (got ++ l)) := by
  induction l generalizing s got with
  | nil => rw [List.foldl_nil, List.append_nil, State.setReceiver_self h]
  | cons c l ih =>
    obtain ⟨hc, hl⟩ := List.forall_mem_cons.mp hl
    rw [List.length_cons] at hn
    rw [List.foldl_cons, State.boardChar_more h hc (by omega), ih rfl hl (by simp; omega), List.append_assoc]
    rfl

/-- The twentieth character ends the message (R98, R184). -/
theorem State.boardChars_last {l : List RxChar} (h : s.tracker.receiver = some got) (hl : ∀ c ∈ l, isStart c = false)
    (hg : got.length < 20) (hn : got.length + l.length = 20) :
    l.foldl State.boardChar s = (s.setReceiver none).finishMessage (got ++ l) := by
  rcases List.eq_nil_or_concat l with rfl | ⟨k, c, rfl⟩
  · simp at hn
    omega
  · rw [List.concat_eq_append] at hl hn ⊢
    rw [List.length_append, List.length_singleton] at hn
    have hmore := State.boardChars_more (l := k) h (fun x hx => hl x (by simp [hx])) (by omega)
    rw [List.foldl_append, hmore, List.foldl_cons, List.foldl_nil, State.boardChar_last rfl (hl c (by simp)) (by simp; omega),
      List.append_assoc]
    rfl

theorem State.finishMessage_characters {m : BoardMessage} (h : m.Fits) (s : State) :
    s.finishMessage m.characters = if m.inRange then s.pair m else s.discardMessage := by
  rw [State.finishMessage, m.characters_eq, readDigits_hexChars]
  dsimp only
  rw [BoardMessage.readMessage_bytes h]

theorem State.finishMessage_bad {l : List RxChar} (h : ∃ c ∈ l, ¬IsHexDigit c) (s : State) :
    s.finishMessage l = s.discardMessage := by
  rw [State.finishMessage, readDigits_none h]

/-- The characters of a message, the first of them held already or none, end it (R184). -/
theorem State.boardChars_message {m : BoardMessage} {l : List RxChar} (hm : m.Fits) (h : s.tracker.receiver = some got)
    (hgl : got ++ l = m.characters) (hl : l ≠ []) : l.foldl State.boardChar s =
      if m.inRange then (s.setReceiver none).pair m else s.messageLost none := by
  have hlen : got.length + l.length = 20 := by rw [← List.length_append, hgl, m.length_characters]
  have hpos : 0 < l.length := List.length_pos_of_ne_nil hl
  have hstart : ∀ c ∈ l, isStart c = false := fun c hc =>
    not_isStart_hexChars (p := m.bytes) (by rw [← m.characters_eq, ← hgl]; simp [hc])
  rw [State.boardChars_last h hstart (by omega) hlen, hgl, State.finishMessage_characters hm]
  rfl

end Receiver

/-- The bits of a frame as a character (R184). -/
theorem boardChar_bits (f : BoardFrame) : (f.getLsbD 0 = true → boardChar f = none) ∧
    (f.getLsbD 0 = false → ∃ c, boardChar f = some c ∧
      (∀ i < 8, c.value.getLsbD i = f.getLsbD (i + 1)) ∧ (c.error = true ↔ f.getLsbD 9 = false)) := by
  refine ⟨fun h => if_neg (by rw [frameStarts, h]; decide), fun h => ⟨_, if_pos (by rw [frameStarts, h]; decide), fun i hi => ?_, ?_⟩⟩
  · rw [frameData_getLsbD]
    simp [hi]
  · simp

/-- Settles O39: the characters of a message, then those that are no message, the start character and the bits. -/
theorem boardMessageCharacters : Obligations.BoardMessageCharacters := by
  unfold Obligations.BoardMessageCharacters
  intro s hs
  have hexec (frames : List BoardFrame) : exec (.boardMessage frames) s = .next ((boardChars frames).foldl State.boardChar s) := by
    rw [exec, execBoardMessage, State.fieldEvent_released hs]
  have hstart : exec .startCharacter s = .next (s.boardChar ⟨35, false⟩) := by
    rw [exec, execStartCharacter, State.fieldEvent_released hs]
  refine ⟨fun m hm => ⟨fun hnone frames hframes => ?_, fun got frames hgot hchars hne hin => ?_⟩, fun got frames hgot => ?_,
    fun hnone => ⟨?_, fun frames hframes => ?_⟩, fun hsome => ?_, boardChar_bits⟩
  · have hfirst : s.boardChar ⟨35, false⟩ = s.setReceiver (some []) := by simp [State.boardChar, hnone, isStart]
    have hmessage : (boardChars frames).foldl State.boardChar s = if m.inRange then s.pair m else s.messageLost none := by
      have hne : m.characters ≠ [] := List.ne_nil_of_length_pos (by rw [m.length_characters]; decide)
      have hself : (s.setReceiver (some [])).setReceiver none = s := State.setReceiver_self hnone
      have hlost : (s.setReceiver (some [])).messageLost none = s.messageLost none := rfl
      rw [hframes, List.foldl_cons, hfirst,
        State.boardChars_message (s := s.setReceiver (some [])) (got := []) hm rfl (List.nil_append _) hne, hself, hlost]
    rw [hexec, hmessage, ← m.inRange_iff]
    exact ⟨fun h => by rw [if_pos h], fun h => by rw [if_neg h]⟩
  · rw [hexec, State.boardChars_message hm hgot hchars hne, if_pos (m.inRange_iff.mpr hin)]
  · intro chars hno
    have hno' : ∀ c ∈ chars, isStart c = false := fun c hc => isStart_eq_false (hno c hc)
    refine ⟨fun hlen => by rw [hexec, State.boardChars_more hgot hno' hlen], fun hg hlen hbad => ?_⟩
    rw [hexec, State.boardChars_last hgot hno' hg hlen, State.finishMessage_bad]
    · rfl
    · obtain ⟨c, hc, hbad⟩ := hbad
      refine ⟨c, hc, fun hd => ?_⟩
      rcases hbad with he | hv
      · simp [hd.1] at he
      · exact hv hd.2
  · rw [hstart]
    simp [State.boardChar, hnone, isStart]
  · rw [hexec, State.boardChars_ignored hnone fun c hc => isStart_eq_false (hframes c hc)]
  · obtain ⟨got, hgot⟩ := Option.isSome_iff_exists.mp hsome
    rw [hstart, State.boardChar, hgot]
    rfl

end Sys2Proof.Machine
end

section
/-! The board-arrival operation for a bin that builds packs. -/

namespace Sys2Proof.Machine

/-! ## Pack numbers (R133, R134) -/

theorem State.noPack_of_findPack {s : State} {n : Nat} (h : (s.findPack n).isSome = false) : s.NoPack n := by
  intro j p hp hn
  have hnone : s.findPack n = none := by simpa using h
  simpa [hn] using findLive_none.mp hnone p (List.mem_of_getElem? (State.record_of_pack? hp))

theorem State.findPack_isSome_iff {s : State} {n : Nat} : (s.findPack n).isSome = true ↔ ¬s.NoPack n := by
  constructor
  · intro h hno
    obtain ⟨⟨j, p⟩, hf⟩ := Option.isSome_iff_exists.mp h
    obtain ⟨hp, hn⟩ := State.pack?_of_findPack hf
    exact hno j p hp hn
  · intro h
    by_contra hf
    exact h (State.noPack_of_findPack (by simpa using hf))

/-- The number that follows `n` in `i` steps, 999,999 being followed by 1 (R134). -/
def numberAfter (n i : Nat) : Nat := (n - 1 + i) % 999999 + 1

theorem numberAfter_zero {n : Nat} (h1 : 1 ≤ n) (h2 : n ≤ 999999) : numberAfter n 0 = n := by
  simp only [numberAfter]
  omega

theorem nextPackNumber_eq {n : Nat} (h1 : 1 ≤ n) (h2 : n ≤ 999999) : nextPackNumber n = n % 999999 + 1 := by
  unfold nextPackNumber
  split <;> omega

theorem numberAfter_next {n : Nat} (h1 : 1 ≤ n) (h2 : n ≤ 999999) (i : Nat) :
    numberAfter (nextPackNumber n) i = numberAfter n (i + 1) := by
  rw [nextPackNumber_eq h1 h2, numberAfter, numberAfter]
  omega

theorem nextPackNumber_bounds {n : Nat} (h2 : n ≤ 999999) : 1 ≤ nextPackNumber n ∧ nextPackNumber n ≤ 999999 := by
  unfold nextPackNumber
  split <;> omega

theorem numberAfter_bounds (n i : Nat) : 1 ≤ numberAfter n i ∧ numberAfter n i ≤ 999999 := by
  simp only [numberAfter]
  omega

/-- The search for a number stops at the first one that no live pack holds (R134). -/
theorem State.unusedNumber_eq (s : State) {fuel n j : Nat} (h1 : 1 ≤ n) (h2 : n ≤ 999999) (hj : j ≤ fuel)
    (hused : ∀ i < j, ¬s.NoPack (numberAfter n i)) (hfree : s.NoPack (numberAfter n j)) :
    s.unusedNumber fuel n = numberAfter n j := by
  induction fuel generalizing n j with
  | zero =>
    obtain rfl : j = 0 := Nat.le_zero.mp hj
    exact (numberAfter_zero h1 h2).symm
  | succ fuel ih =>
    rw [State.unusedNumber]
    cases j with
    | zero =>
      rw [numberAfter_zero h1 h2] at hfree ⊢
      exact if_neg fun h => State.findPack_isSome_iff.mp h hfree
    | succ j =>
      have hn := hused 0 (Nat.succ_pos j)
      rw [numberAfter_zero h1 h2] at hn
      obtain ⟨b1, b2⟩ := nextPackNumber_bounds h2
      rw [if_pos (State.findPack_isSome_iff.mpr hn), ← numberAfter_next h1 h2]
      refine ih b1 b2 (by omega) (fun i hi => ?_) ?_
      · rw [numberAfter_next h1 h2]
        exact hused (i + 1) (by omega)
      · rwa [numberAfter_next h1 h2]

/-- Beside a free record the live packs hold fewer numbers than there are records, so one of as many numbers
in a row is unused (R131, R134). -/
theorem State.exists_noPack {s : State} {k : Nat} (hk : s.packs.records[k]? = some none)
    (hlen : s.packs.records.length = Config.packSlots) (n : Nat) : ∃ j ≤ 47, s.NoPack (numberAfter n j) := by
  by_contra hno
  simp only [not_exists, not_and] at hno
  have hdistinct : ((List.range 48).map (numberAfter n)).Nodup := by
    refine List.nodup_range.map_on fun i hi j hj hij => ?_
    rw [List.mem_range] at hi hj
    simp only [numberAfter] at hij
    omega
  have hheld : (List.range 48).map (numberAfter n) ⊆ (s.packs.records.filterMap id).map (·.number) := by
    intro x hx
    obtain ⟨j, hj, rfl⟩ := List.mem_map.mp hx
    have := hno j (by rw [List.mem_range] at hj; omega)
    simp only [State.NoPack, not_forall, not_not] at this
    obtain ⟨i, p, hp, hnum⟩ := this
    exact List.mem_map.mpr ⟨p, State.mem_livePacks.mpr ⟨i, hp⟩, hnum⟩
  have hcount := (hdistinct.subperm hheld).length_le
  have hfree : (s.packs.records.filterMap id).length < s.packs.records.length :=
    List.length_filterMap_lt_length_iff_exists.mpr ⟨none, List.mem_of_getElem? hk, rfl⟩
  simp only [List.length_map, List.length_range] at hcount
  rw [hlen] at hfree
  exact absurd (lt_of_le_of_lt hcount hfree) (by decide)

/-- The first unused number. -/
theorem State.exists_first_noPack {s : State} {k : Nat} (hk : s.packs.records[k]? = some none)
    (hlen : s.packs.records.length = Config.packSlots) (n : Nat) :
    ∃ j ≤ 47, (∀ i < j, ¬s.NoPack (numberAfter n i)) ∧ s.NoPack (numberAfter n j) := by
  classical
  have h : ∃ j, s.NoPack (numberAfter n j) := by
    obtain ⟨j, -, hj⟩ := State.exists_noPack hk hlen n
    exact ⟨j, hj⟩
  obtain ⟨j, hj47, hj⟩ := State.exists_noPack hk hlen n
  exact ⟨Nat.find h, le_trans (Nat.find_min' h hj) hj47, fun i hi => Nat.find_min h hi, Nat.find_spec h⟩

/-! ## The binding of a board (R134, R135) -/

/-- A board bound to the pack `p` of a slot, which becomes CLOSING at its target (R135, R137). -/
def State.bindsTo (s : State) (bin k : Nat) (p : Pack) : State :=
  if p.pieces + p.bound + 1 < p.target then s.withPack k { p with bound := p.bound + 1 }
  else (s.withPack k { p with
    bound := p.bound + 1, state := .closing, closeReason := some .target }).setCurrent bin none

theorem State.withPack_withPack (s : State) (k : Nat) (p q : Pack) : (s.withPack k p).withPack k q = s.withPack k q := by
  simp only [State.withPack, List.set_set]

theorem State.bindPack_eq {s : State} {k : Nat} {p : Pack} (h : s.pack? k = some p) :
    s.bindPack k = s.bindsTo p.bin k p := by
  have hbound : (s.withPack k { p with bound := p.bound + 1 }).pack? k = some { p with bound := p.bound + 1 } :=
    (State.pack?_withPack s k k _ (State.lt_of_pack? h)).trans (if_pos rfl)
  rw [State.bindPack, State.modifyPack_eq_withPack h]
  simp only [hbound, State.bindsTo]
  by_cases ht : p.pieces + p.bound + 1 < p.target
  · rw [if_pos ht, if_neg (by omega)]
  · rw [if_neg ht, if_pos (by omega), State.closeRequest_eq hbound]
    simp only [State.withPack_withPack, Nat.succ_ne_zero, if_false]

/-- What changes of charges, of the line and of the Sorter leave of a binding, and it of them. -/
theorem State.bindsTo_frame (s : State) (bin k : Nat) (p : Pack) :
    s.bindsTo bin k p = { s with packs := (s.bindsTo bin k p).packs } := by
  unfold State.bindsTo
  split <;> rfl

theorem State.bindsTo_packs_congr {s t : State} (h : s.packs = t.packs) (bin k : Nat) (p : Pack) :
    (s.bindsTo bin k p).packs = (t.bindsTo bin k p).packs := by
  unfold State.bindsTo
  split <;> simp only [State.withPack, State.setCurrent, h]

section Stage
variable {s : State} {q bin : Nat} {reason : Reason} {pl : Plan} (hb : bin ∈ pl.building)
include hb

theorem State.stageFive_current {k : Nat} {p : Pack} (hk : s.currentPack bin = some k) (hp : s.pack? k = some p)
    (hbin : p.bin = bin) : s.stageFive q bin reason pl = (s.bindsTo bin k p, bin, reason, some k) := by
  rw [State.stageFive, if_pos (by simpa using hb), State.bindBoard, hk]
  dsimp only
  rw [State.bindPack_eq hp, hbin]

/-- The pack table with a pack of the number `number` allocated for a bin (R134). -/
theorem State.stageFive_allocated {k number : Nat} (hcurrent : s.currentPack bin = none)
    (hk : LowestFree s.packs.records k) (hn : s.unusedNumber Config.packSlots s.packs.nextNumber = number)
    (h1 : 1 ≤ number) (h2 : number ≤ 999999) : s.stageFive q bin reason pl =
      (({ s with packs := {
          records := s.packs.records, current := s.packs.current.set bin (some k)
          nextNumber := number % 999999 + 1 } } : State).bindsTo bin k
        (.allocated number bin ((pl.targets[bin]?).getD 1) ((pl.templates[bin]?).getD 0) (bin = pl.quarantine)),
        bin, reason, some k) := by
  have hlt : k < s.packs.records.length := (List.getElem?_eq_some_iff.mp hk.1).1
  have hpack : (s.allocatePack k bin pl).pack? k =
      some (.allocated number bin ((pl.targets[bin]?).getD 1) ((pl.templates[bin]?).getD 0) (bin = pl.quarantine)) := by
    rw [← hn]
    exact (join_set s.packs.records k k _ hlt).trans (if_pos rfl)
  rw [State.stageFive, if_pos (by simpa using hb), State.bindBoard, hcurrent]
  dsimp only
  rw [freeSlot_of_lowestFree hk]
  dsimp only
  rw [State.bindPack_eq hpack, State.allocatePack, hn, nextPackNumber_eq h1 h2]
  unfold State.bindsTo
  split
  · simp only [State.withPack, List.set_set]
  · simp only [State.withPack, List.set_set]
    rfl

theorem State.stageFive_full (hcurrent : s.currentPack bin = none) (hfull : ∀ o ∈ s.packs.records, o ≠ none) :
    s.stageFive q bin reason pl =
      (s.raise .transit (.transit q .packTableFull), pl.reject, .packTableFull, none) := by
  rw [State.stageFive, if_pos (by simpa using hb), State.bindBoard, hcurrent]
  dsimp only
  rw [freeSlot_none.mpr hfull]
  rfl

end Stage

/-! ## What the entry into quarantine leaves of the Pack Table (R140) -/

/-- The Pack Tables of both states hold the same packs, each of one bin, and the same current packs. -/
structure State.SamePacks (s t : State) : Prop where
  current : t.packs.current = s.packs.current
  nextNumber : t.packs.nextNumber = s.packs.nextNumber
  length : t.packs.records.length = s.packs.records.length
  bins : ∀ k, (t.pack? k).map (·.bin) = (s.pack? k).map (·.bin)

theorem State.SamePacks.trans {s t u : State} (h : s.SamePacks t) (h' : t.SamePacks u) : s.SamePacks u :=
  ⟨h'.current.trans h.current, h'.nextNumber.trans h.nextNumber, h'.length.trans h.length,
    fun k => (h'.bins k).trans (h.bins k)⟩

theorem State.SamePacks.of_eq {s t : State} (h : t.packs = s.packs) : s.SamePacks t := by
  refine ⟨by rw [h], by rw [h], by rw [h], fun k => ?_⟩
  rw [State.pack?, State.pack?, h]

theorem State.samePacks_modifyPack {s : State} {i : Nat} {f : Pack → Pack} (hf : ∀ p, (f p).bin = p.bin) :
    s.SamePacks (s.modifyPack i f) := by
  refine ⟨rfl, rfl, by simp [State.modifyPack], fun k => ?_⟩
  rw [State.pack?_modifyPack]
  split
  · cases s.pack? k <;> simp [hf]
  · rfl

theorem State.withdrawFrame_packs (s : State) (i : Nat) : (s.withdrawFrame i).packs = s.packs := by
  rw [s.withdrawFrame_labels i]

theorem State.samePacks_holdPack (s : State) (i n : Nat) : s.SamePacks (s.holdPack i n) :=
  (State.samePacks_modifyPack (f := fun p => { p with state := .held }) fun _ => rfl).trans (.of_eq rfl)

theorem State.samePacks_withdrawPack (s : State) (charge i : Nat) : s.SamePacks (s.withdrawPack charge i) := by
  unfold State.withdrawPack
  split
  · exact .of_eq rfl
  · split
    · have hmark : s.SamePacks (s.modifyPack i (fun p => { p with quarantineMix := true })) :=
        State.samePacks_modifyPack fun _ => rfl
      dsimp only
      split
      · exact hmark.trans (.trans (t := State.unqueue _ i) (.of_eq rfl) (State.samePacks_holdPack _ _ _))
      · exact hmark.trans (.trans (t := State.withdrawFrame _ i) (.of_eq (State.withdrawFrame_packs _ i))
          (State.samePacks_holdPack _ _ _))
      · exact hmark
    · exact .of_eq rfl

theorem State.samePacks_enterQuarantine (s : State) (i n : Nat) : s.SamePacks (s.enterQuarantine i n) := by
  have hpacks (l : List Nat) (t : State) : t.SamePacks (l.foldl (fun s slot => s.withdrawPack i slot) t) := by
    induction l generalizing t with
    | nil => exact .of_eq rfl
    | cons k l ih => exact (t.samePacks_withdrawPack i k).trans (ih _)
  exact State.SamePacks.trans (t := (s.modifyCharge i (fun c => { c with quarantined := true })).raise .quarantine (.charge n))
    (.of_eq rfl) (hpacks (List.range Config.packSlots) _)

/-- A current pack is of its own bin (R131). -/
theorem PacksOk.bin_of_current {s t : State} (h : PacksOk s) (ht : s.SamePacks t) {bin k : Nat} {p : Pack}
    (hb : bin < Config.bins) (hk : t.currentPack bin = some k) (hp : t.pack? k = some p) : p.bin = bin := by
  obtain ⟨-, ⟨-, -, hcurrent, -⟩, -⟩ := h
  rw [State.currentPack, ht.current] at hk
  have hany := hcurrent bin hb k (Option.mem_toList.mpr hk)
  have hbins := ht.bins k
  rw [hp, Option.map_some] at hbins
  rcases hq : s.pack? k with _ | q
  · simp [hq] at hany
  · simp only [hq, Option.any_some, decide_eq_true_eq] at hany
    rw [hq, Option.map_some, Option.some.injEq] at hbins
    exact hbins.trans hany.2

/-! ## A board arrives (R103) -/

/-- A found board measured and counted: what stages 2 and 3 hand on (R31, R34, R36). -/
theorem State.BoardFound.measured {s u : State} {l r : List Entry} {e : Entry} {m : BoardMessage} {slot n : Nat}
    {c c' : Charge} {sp : Species} {pl : Plan} {mc : Option Nat} {cls : MClass} {flagged : Bool}
    (h : s.BoardFound l e r m slot c sp n pl) (hmc : (computeReading sp.meter m.raw (meterTemp m.temp)).mc = mc)
    (hcls : classify c.dry c.wet mc = cls) (hc' : c.Counted mc cls c')
    (hflag : flagged = true ↔ (c.quarantined = true ∨ c'.Trips mc))
    (hu : c'.Trips mc → u = (s.withCharge slot c').enterQuarantine slot c.number)
    (hu' : ¬c'.Trips mc → u = s.withCharge slot c') :
    ∃ t : State, s.measureBoard m slot c = (t, ⟨mc, cls, sp.group, flagged⟩) ∧
      t.modifyCharge slot (fun c => { c with transitRef := c.transitRef + 1 }) = u ∧ t.sorter = s.sorter := by
  obtain ⟨-, -, ⟨hslot, -⟩, -, -, hsp, -⟩ := h
  have hcount : (s.modifyCharge slot (fun _ => c.addBoard mc cls)).modifyCharge slot
      (fun c => { c with transitRef := c.transitRef + 1 }) = s.withCharge slot c' := by
    rw [hc'.eq_addBoard, ← State.modifyCharge_eq_withCharge hslot
      (fun _ => { c.addBoard mc cls with transitRef := (c.addBoard mc cls).transitRef + 1 })]
    simp only [State.modifyCharge, List.modify_modify_eq]
    congr 2
    funext o
    cases o <;> rfl
  obtain ⟨htrips, hkeeps⟩ := State.measureBoard_eq (m := m) (slot := slot) hsp hmc hcls hc'
  by_cases ht : c'.Trips mc
  · obtain rfl : flagged = true := hflag.mpr (.inr ht)
    refine ⟨_, htrips ht, ?_, by simp⟩
    rw [State.enterQuarantine_modifyCharge _ _ _ (by intro c; rfl), hcount, hu ht]
  · obtain rfl : flagged = c.quarantined := by
      rw [Bool.eq_iff_iff, hflag]
      simp [ht]
    exact ⟨_, hkeeps ht, hcount.trans (hu' ht).symm, rfl⟩

/-- A found board decided after stage 5, whatever that stage answers (R103, R105). -/
theorem State.arrive_of_stageFive {s t v : State} {l r : List Entry} {e : Entry} {m : BoardMessage} {slot n : Nat}
    {c : Charge} {sp : Species} {pl : Plan} {b : Measured} {bin where_ : Nat} {reason why : Reason} {k : Option Nat}
    (h : s.BoardFound l e r m slot c sp n pl) (hm : s.measureBoard m slot c = (t, b)) (ht : t.sorter = s.sorter)
    (hd : pl.decide b.quarantined ⟨b.group, m.grade, m.lengthClass, m.thicknessClass, b.cls⟩ = (bin, reason))
    (hfive : (t.countDecision n).stageFive e.sequence bin reason pl = (v, where_, why, k))
    (hopen : ¬s.Reached (s.gatePositions e.capture where_ 0).1) :
    s.arrive e m = (v.modifyCharge slot (fun c => { c with transitRef := c.transitRef + 1 })).decidedAs e
      (s.decisionFor e m (some slot) b.mc b.cls why where_ n k) := by
  obtain ⟨hq, -, honly, hst, hseen, -, ha⟩ := h
  have hat : t.ActivePlan n pl := by simpa [State.ActivePlan, ht] using ha
  obtain ⟨hn, hp⟩ := hat.eq
  have htracker : v.tracker = s.tracker := by
    have h1 := s.measureBoard_tracker m slot c
    have h2 := (t.countDecision n).stageFive_tracker e.sequence bin reason pl
    rw [hm] at h1
    rw [hfive] at h2
    exact h2.trans h1
  have hfound : s.arriveFound e m slot c = (v.modifyCharge slot (fun c => { c with transitRef := c.transitRef + 1 })).decidedAs e
      (s.decisionFor e m (some slot) b.mc b.cls why where_ n k) := by
    rw [State.arriveFound, hm]
    dsimp only
    rw [hn, hp, hd, hfive]
    exact State.decideEntry_eq (s := s) (t := v.modifyCharge slot _) htracker _ _ _ _ _ _ _ _ _
  rw [State.arrive, State.lookupForBoard_of_only honly (State.takesBoards_of_found hst hseen)]
  dsimp only
  rw [hfound]
  generalize hw : v.modifyCharge slot _ = w
  have hwt : w.tracker = s.tracker := by rw [← hw]; exact htracker
  exact State.takeReached_decided (d := s.decisionFor e m (some slot) b.mc b.cls why where_ n k)
    (State.decidedAs_tracker_congr hwt e _) hq rfl hopen 3

/-- The count of the decision and the charge's reference, which stage 5 stands between, may come after it: stage 5
changes no more than the Pack Table and the attention classes. -/
theorem State.decided_after_stageFive {t u v w : State} {slot n : Nat} {packs : PackTable} {attention : Attention}
    (hu : t.modifyCharge slot (fun c => { c with transitRef := c.transitRef + 1 }) = u)
    (hv : v = { t.countDecision n with packs := packs, attention := attention })
    (hw : w = { u with packs := packs, attention := attention }) (e : Entry) (d : Decision) :
    (v.modifyCharge slot (fun c => { c with transitRef := c.transitRef + 1 })).decidedAs e d =
      (w.decidedAs e d).decidedUnder n := by
  subst hu hv hw
  rfl

theorem PacksOk.plan_ok {s : State} (h : PacksOk s) {n : Nat} {pl : Plan} (ha : s.ActivePlan n pl) : pl.Ok := by
  obtain ⟨-, -, hplans, -⟩ := h
  obtain ⟨-, hp⟩ := ha
  refine hplans pl (List.mem_append.mpr ?_)
  unfold Sorter.slot at hp
  split at hp
  · exact .inl (Option.mem_toList.mpr hp)
  · exact .inr (Option.mem_toList.mpr hp)

theorem PacksOk.lt_of_building {s : State} {l r : List Entry} {e : Entry} {m : BoardMessage} {slot n bin : Nat}
    {c : Charge} {sp : Species} {pl : Plan} (h : PacksOk s) (hfound : s.BoardFound l e r m slot c sp n pl)
    (hb : bin ∈ pl.building) : bin < Config.bins := by
  obtain ⟨-, -, -, -, -, -, ha⟩ := hfound
  obtain ⟨-, -, -, hbuilding, -⟩ := h.plan_ok ha
  exact hbuilding bin hb

/-- Settles O42: the measured board, then what stage 5 answers in each case of the Pack Table. -/
theorem boardBindsToItsBinsPack : Obligations.BoardBindsToItsBinsPack := by
  unfold Obligations.BoardBindsToItsBinsPack
  intro s l e r m slot c sp n pl hfound hok mc cls c' hc' flagged hflag u hu hu' bin reason hdec hbin decided binds hopen hreject
  obtain ⟨t, hm, htu, hts⟩ := hfound.measured rfl rfl hc' hflag hu hu'
  have harrive {v : State} {where_ : Nat} {why : Reason} {k : Option Nat} :=
    State.arrive_of_stageFive (v := v) (where_ := where_) (why := why) (k := k) hfound hm hts hdec.eq
  have hcharge : s.SamePacks (s.withCharge slot c') := .of_eq rfl
  have hsame : s.SamePacks u := by
    by_cases ht : c'.Trips mc
    · rw [hu ht]
      exact hcharge.trans (State.samePacks_enterQuarantine _ _ _)
    · rw [hu' ht]
      exact hcharge
  have hpacks : (t.countDecision n).packs = u.packs := by rw [← htu]; rfl
  have hbinds (v : State) (k : Nat) (p : Pack) : binds v k p = v.bindsTo bin k p := rfl
  have hframe {x y : State} (hx : x = { t.countDecision n with packs := x.packs }) (hy : y = { u with packs := y.packs })
      (h : x.packs = y.packs) (k : Nat) (p : Pack) (d : Decision) :
      ((x.bindsTo bin k p).modifyCharge slot (fun c => { c with transitRef := c.transitRef + 1 })).decidedAs e d =
        ((y.bindsTo bin k p).decidedAs e d).decidedUnder n := by
    refine State.decided_after_stageFive (packs := (y.bindsTo bin k p).packs) (attention := u.attention) htu ?_ ?_ e d
    · rw [x.bindsTo_frame, State.bindsTo_packs_congr h, hx, ← htu]
      rfl
    · rw [y.bindsTo_frame, hy]
  have hparts := hok
  obtain ⟨-, ⟨hrecords, -⟩, -, -, -, -, hnext1, hnext2⟩ := hparts
  refine ⟨fun k p hk hp => ?_, fun k hcurrent hk => ?_, fun hcurrent hfull => ?_⟩
  · have hlt : bin < Config.bins := hok.lt_of_building hfound hbin
    have hfive := State.stageFive_current (s := t.countDecision n) (q := e.sequence) (reason := reason) hbin
      (k := k) (p := p) (by rw [State.currentPack, hpacks]; exact hk) (by rw [State.pack?, hpacks]; exact hp)
      (hok.bin_of_current hsame hlt hk hp)
    exact (harrive hfive hopen).trans (hframe rfl rfl hpacks k p _)
  · obtain ⟨j, hj, hused, hfree⟩ := State.exists_first_noPack hk.1 (hsame.length.trans hrecords) u.packs.nextNumber
    refine ⟨j, hj, hused, hfree, ?_⟩
    intro p v
    have hno (i : Nat) : (t.countDecision n).NoPack i ↔ u.NoPack i := by
      simp only [State.NoPack, State.pack?, hpacks]
    have hnumber : (t.countDecision n).unusedNumber Config.packSlots (t.countDecision n).packs.nextNumber =
        numberAfter u.packs.nextNumber j := by
      rw [hpacks]
      refine State.unusedNumber_eq _ (hsame.nextNumber ▸ hnext1) (hsame.nextNumber ▸ hnext2) (Nat.le_succ_of_le hj) ?_ ?_
      · exact fun i hi h => hused i hi ((hno _).mp h)
      · exact (hno _).mpr hfree
    obtain ⟨hone, hmax⟩ := numberAfter_bounds u.packs.nextNumber j
    have hfive := State.stageFive_allocated (s := t.countDecision n) (q := e.sequence) (reason := reason) hbin
      (k := k) (by rw [State.currentPack, hpacks]; exact hcurrent) (by rw [hpacks]; exact hk) hnumber hone hmax
    exact (harrive hfive hopen).trans (hframe rfl rfl (by rw [hpacks]; rfl) k p _)
  · have hfive := State.stageFive_full (s := t.countDecision n) (q := e.sequence) (reason := reason) hbin
      (by rw [State.currentPack, hpacks]; exact hcurrent) (by rw [hpacks]; exact hfull)
    refine (harrive hfive hreject).trans (State.decided_after_stageFive (packs := u.packs)
      (attention := (u.raise .transit (.transit e.sequence .packTableFull)).attention) htu ?_ rfl e _)
    rw [← htu]
    rfl

end Sys2Proof.Machine
end

section
/-! LINE_RESTART: every entry leaves the queue, and its board the pack it is bound to. -/

namespace Sys2Proof.Machine

/-! ## One board unbound from its pack (R149) -/

/-- The record of a pack whose last bound board is removed: freed without pieces, closed when it is CLOSING,
else as it is (R149, R138). -/
def Pack.unbound (p : Pack) : Option Pack :=
  if p.pieces = 0 then none
  else if p.state = .closing then
    some { p with bound := 0, state := if p.quarantine || p.quarantineMix then .held else .labelQueued }
  else some { p with bound := 0 }

/-- The state after the last board bound to the pack `p` of a slot is removed (R149). -/
def State.unboundLast (s : State) (k : Nat) (p : Pack) : State :=
  if p.state = .closing then
    if p.pieces = 0 then s.freePack k else s.packClosed k { p with bound := 0 }
  else if p.pieces = 0 then (s.freePack k).setCurrent p.bin none
  else s.withPack k { p with bound := 0 }

theorem State.freePack_withPack (s : State) (k : Nat) (q : Pack) : (s.withPack k q).freePack k = s.freePack k := by
  simp only [State.freePack, State.withPack, List.set_set]

theorem State.closePack_withPack {s : State} {k : Nat} (hl : k < s.packs.records.length) (q : Pack) :
    (s.withPack k q).closePack k = if q.pieces = 0 then s.freePack k else s.packClosed k q := by
  rw [State.closePack_eq ((State.pack?_withPack s k k q hl).trans (if_pos rfl)), State.freePack_withPack,
    State.withPack_withPack, State.withPack_withPack]
  rfl

theorem State.unbindPack_eq {s : State} {k : Nat} {p : Pack} (h : s.pack? k = some p)
    (hst : p.state = .opened ∨ p.state = .closing) : s.unbindPack k =
      if p.bound ≤ 1 then s.unboundLast k p else s.withPack k { p with bound := p.bound - 1 } := by
  have hlast : p.bound - 1 = 0 ↔ p.bound ≤ 1 := by omega
  have hl := State.lt_of_pack? h
  simp only [State.unbindPack, h, State.modifyPack_eq_withPack h, hlast, State.unboundLast]
  by_cases hb : p.bound ≤ 1
  · rw [if_pos hb, if_pos hb, hlast.mpr hb, State.closePack_withPack hl, State.freePack_withPack]
    by_cases hc : p.state = .closing
    · rw [if_pos hc, if_pos hc]
    · rw [if_neg hc, if_neg hc]
      simp only [hst.resolve_right hc, true_and]
  · rw [if_neg hb, if_neg hb]

theorem State.pack?_unboundLast {s : State} {k : Nat} {p : Pack} (h : s.pack? k = some p) (j : Nat) :
    (s.unboundLast k p).pack? j = if k = j then p.unbound else s.pack? j := by
  have hl := State.lt_of_pack? h
  unfold State.unboundLast Pack.unbound
  split
  · split
    · exact s.pack?_freePack k j hl
    · unfold State.packClosed
      split
      · simp only [*]
        exact s.pack?_withPack k j _ hl
      · simp only [*]
        exact s.pack?_withPack k j _ hl
  · split
    · exact s.pack?_freePack k j hl
    · exact s.pack?_withPack k j _ hl

theorem State.unboundLast_records_length (s : State) (k : Nat) (p : Pack) :
    (s.unboundLast k p).packs.records.length = s.packs.records.length := by
  unfold State.unboundLast State.packClosed
  split_ifs <;> exact List.length_set

theorem State.unboundLast_current_length (s : State) (k : Nat) (p : Pack) :
    (s.unboundLast k p).packs.current.length = s.packs.current.length := by
  have hset : ((s.freePack k).setCurrent p.bin none).packs.current.length = s.packs.current.length := List.length_set
  unfold State.unboundLast State.packClosed
  split_ifs
  · rfl
  · rfl
  · rfl
  · exact hset
  · rfl

theorem Pack.of_unbound {p q : Pack} (h : p.unbound = some q) : q.bound = 0 ∧ q.bin = p.bin ∧ 0 < q.pieces ∧
    (q.state = .opened ↔ p.state = .opened) := by
  unfold Pack.unbound at h
  split at h
  · cases h
  · rename_i hz
    split at h
    · rename_i hc
      cases h
      refine ⟨rfl, rfl, Nat.pos_of_ne_zero hz, ?_⟩
      rw [hc]
      dsimp only
      split <;> simp
    · cases h
      exact ⟨rfl, rfl, Nat.pos_of_ne_zero hz, Iff.rfl⟩

/-- The pack record after all its boards are unbound (R149). -/
def Pack.cleared (p : Pack) : Option Pack := if p.bound = 0 then some p else p.unbound

theorem Pack.cleared_of_bound {p : Pack} (h : p.bound ≠ 0) : p.cleared = p.unbound := if_neg h

/-- A pack that holds a piece or has a board bound is freed when it holds no piece. -/
theorem Pack.cleared_isSome {p : Pack} (h : 1 ≤ p.pieces + p.bound) : p.cleared.isSome = decide (0 < p.pieces) := by
  unfold Pack.cleared Pack.unbound
  by_cases hz : p.pieces = 0
  · rw [if_neg (by omega), if_pos hz, hz]
    rfl
  · rw [if_neg hz, decide_eq_true (Nat.pos_of_ne_zero hz)]
    split_ifs <;> rfl

theorem Pack.unbound_bind_cleared (p : Pack) : p.unbound.bind Pack.cleared = p.unbound := by
  rcases h : p.unbound with _ | q
  · rfl
  · obtain ⟨hb, -⟩ := Pack.of_unbound h
    exact if_pos hb

/-! ## The Pack Table and the boards still to be unbound (R132, R135) -/

/-- The boards bound to the packs are those of the slots `ks`, and the OPEN packs are the current ones. -/
structure State.BoundBy (s : State) (ks : List Nat) : Prop where
  records : s.packs.records.length = 48
  currents : s.packs.current.length = 16
  live : ∀ k ∈ ks, (s.pack? k).isSome = true
  bound : ∀ k p, s.pack? k = some p → p.bound = ks.count k
  state : ∀ k p, s.pack? k = some p → 0 < p.bound → p.state = .opened ∨ p.state = .closing
  filled : ∀ k p, s.pack? k = some p → p.state = .opened → 1 ≤ p.pieces + p.bound
  opened : ∀ k p, s.pack? k = some p → p.state = .opened → p.bin < 16 ∧ s.currentPack p.bin = some k
  current : ∀ b k, s.currentPack b = some k → ∃ p, s.pack? k = some p ∧ p.state = .opened ∧ p.bin = b

/-- The slot and number of a CLOSING pack that holds a piece and whose quarantine mark is as given: at its close
it is HELD with the mark and queued for its label without (R138). -/
def State.closingAs (s : State) (marked : Bool) (k : Nat) : Option (Nat × Nat) :=
  (s.pack? k).bind fun p =>
    if p.state = .closing ∧ 0 < p.pieces ∧ (p.quarantine || p.quarantineMix) = marked then some (k, p.number) else none

def State.closings (s : State) (marked : Bool) (ended : List Nat) : List (Nat × Nat) :=
  ended.filterMap (s.closingAs marked)

/-- PACK_HELD occurs for each of the packs (R138). -/
def Attention.packsHeld (a : Attention) (l : List (Nat × Nat)) : Attention :=
  l.foldl (fun a x => a.set .packHeld ((a.get .packHeld).occur (.pack x.2))) a

/-- `t` is `s` after boards were unbound and the packs of the slots `ended` lost their last one, in this order. -/
structure State.Unbound (s t : State) (ended : List Nat) : Prop where
  frame : t = { s with
    packs := { t.packs with nextNumber := s.packs.nextNumber }
    labels := { s.labels with queue := s.labels.queue ++ (s.closings false ended).map (·.1) }
    attention := s.attention.packsHeld (s.closings true ended) }
  current : ∀ b, t.currentPack b = (s.currentPack b).filter (fun k => (t.pack? k).isSome)

theorem State.currentPack_filter_live {s t : State} {b : Nat} (hc : t.currentPack b = s.currentPack b)
    (hlive : ∀ k, s.currentPack b = some k → (t.pack? k).isSome = true) :
    t.currentPack b = (s.currentPack b).filter (fun k => (t.pack? k).isSome) := by
  rw [hc]
  rcases h : s.currentPack b with _ | k
  · rfl
  · simp [Option.filter, hlive k h]

/-- Slots whose packs do not change close alike. -/
theorem State.closings_congr {s t : State} {l : List Nat} (h : ∀ k ∈ l, ∀ m, t.closingAs m k = s.closingAs m k) (m : Bool) :
    t.closings m l = s.closings m l := List.filterMap_congr fun k hk => h k hk m

theorem State.Unbound.refl {s : State} (h : ∀ b k, s.currentPack b = some k → (s.pack? k).isSome = true) :
    s.Unbound s [] :=
  ⟨by simp [State.closings, Attention.packsHeld], fun b => State.currentPack_filter_live rfl (h b)⟩

theorem State.Unbound.trans {s t u : State} {l r : List Nat} (hst : s.Unbound t l) (htu : t.Unbound u r)
    (hr : ∀ k ∈ r, ∀ m, t.closingAs m k = s.closingAs m k)
    (hlive : ∀ k, (u.pack? k).isSome = true → (t.pack? k).isSome = true) : s.Unbound u (l ++ r) := by
  refine ⟨?_, fun b => ?_⟩
  · rw [htu.frame, State.closings_congr hr, State.closings_congr hr, hst.frame]
    simp [State.closings, Attention.packsHeld]
  · rw [htu.current, hst.current]
    rcases s.currentPack b with _ | k
    · rfl
    · by_cases hk : (u.pack? k).isSome
      · simp [Option.filter, hk, hlive k hk]
      · by_cases ht : (t.pack? k).isSome <;> simp [Option.filter, hk, ht]

theorem State.closings_single {s : State} {k : Nat} {p : Pack} (h : s.pack? k = some p) (m : Bool) :
    s.closings m [k] = if p.state = .closing ∧ 0 < p.pieces ∧ (p.quarantine || p.quarantineMix) = m then [(k, p.number)]
      else [] := by
  rw [State.closings, List.filterMap_cons, State.closingAs, h, Option.bind_some]
  by_cases hc : p.state = .closing ∧ 0 < p.pieces ∧ (p.quarantine || p.quarantineMix) = m
  · rw [if_pos hc, if_pos hc]
    rfl
  · rw [if_neg hc, if_neg hc]
    rfl

/-- The last board of a pack unbound. -/
theorem State.BoundBy.unboundLast {s : State} {k : Nat} {ks : List Nat} {p : Pack} (h : s.BoundBy ks)
    (hp : s.pack? k = some p) (hst : p.state = .opened ∨ p.state = .closing) : s.Unbound (s.unboundLast k p) [k] := by
  have hpack := State.pack?_unboundLast hp
  refine ⟨?_, fun b => ?_⟩
  · rw [State.closings_single hp, State.closings_single hp, State.unboundLast]
    by_cases hc : p.state = .closing
    · rw [if_pos hc]
      by_cases hz : p.pieces = 0
      · simp [hz, Attention.packsHeld, State.freePack]
      · rw [if_neg hz, State.packClosed]
        by_cases hm : (p.quarantine || p.quarantineMix) = true
        · simp [hc, hm, Nat.pos_of_ne_zero hz, Attention.packsHeld, State.withPack, State.raise]
        · simp [hc, hm, Nat.pos_of_ne_zero hz, Attention.packsHeld, State.withPack]
    · rw [if_neg hc]
      split <;> simp [hc, Attention.packsHeld, State.freePack, State.withPack, State.setCurrent]
  · have hcur : (s.unboundLast k p).currentPack b =
        if p.state = .opened ∧ p.pieces = 0 ∧ b = p.bin then none else s.currentPack b := by
      rcases hst with ho | hc
      · obtain ⟨hbin, -⟩ := h.opened k p hp ho
        have hset := (s.freePack k).currentPack_setCurrent p.bin b none (h.currents ▸ hbin)
        by_cases hz : p.pieces = 0
        · simp only [State.unboundLast, ho, hz, reduceCtorEq, if_false, if_true, hset, true_and, eq_comm]
          rfl
        · simp only [State.unboundLast, ho, hz, reduceCtorEq, if_false, false_and, and_false]
          rfl
      · simp only [State.unboundLast, State.packClosed, hc, reduceCtorEq, if_true, if_false, false_and]
        split
        · rfl
        · split <;> rfl
    rw [hcur]
    rcases hb : s.currentPack b with _ | j
    · split <;> rfl
    · obtain ⟨q, hq, hqo, rfl⟩ := h.current b j hb
      by_cases hkj : k = j
      · subst hkj
        obtain rfl := Option.some.inj (hp.symm.trans hq)
        by_cases hz : p.pieces = 0 <;> simp [hpack, Option.filter, hqo, hz, Pack.unbound]
      · have hother : ¬(p.state = .opened ∧ p.pieces = 0 ∧ q.bin = p.bin) := fun ⟨ho, _, hbin⟩ => by
          obtain ⟨-, hown⟩ := h.opened k p hp ho
          rw [← hbin, hb] at hown
          exact hkj (Option.some.inj hown).symm
        rw [if_neg hother]
        simp [hpack, Option.filter, hkj, hq]

section Step
variable {s : State} {k : Nat} {ks : List Nat} (h : s.BoundBy (k :: ks))
include h

/-- The pack of the board that is unbound next. -/
theorem State.BoundBy.next : ∃ p, s.pack? k = some p ∧ (p.state = .opened ∨ p.state = .closing) ∧ p.bound = ks.count k + 1 ∧
    s.unbindPack k = (if k ∈ ks then s.withPack k { p with bound := ks.count k } else s.unboundLast k p) ∧
    ∀ j, (s.unbindPack k).pack? j =
      if k = j then (if k ∈ ks then some { p with bound := ks.count k } else p.unbound) else s.pack? j := by
  obtain ⟨p, hp⟩ := Option.isSome_iff_exists.mp (h.live k List.mem_cons_self)
  have hb := h.bound k p hp
  rw [List.count_cons_self] at hb
  have hst := h.state k p hp (by omega)
  have hnext : s.unbindPack k = if k ∈ ks then s.withPack k { p with bound := ks.count k } else s.unboundLast k p := by
    rw [State.unbindPack_eq hp hst, hb, Nat.add_sub_cancel]
    by_cases hk : k ∈ ks
    · have := List.count_pos_iff.mpr hk
      rw [if_pos hk, if_neg (by omega)]
    · have := List.count_eq_zero.mpr hk
      rw [if_neg hk, if_pos (by omega)]
  refine ⟨p, hp, hst, hb, hnext, fun j => ?_⟩
  rw [hnext]
  split
  · exact s.pack?_withPack k j _ (State.lt_of_pack? hp)
  · exact State.pack?_unboundLast hp j

theorem State.BoundBy.unbound : s.Unbound (s.unbindPack k) (if k ∈ ks then [] else [k]) := by
  obtain ⟨p, hp, hst, -, hnext, -⟩ := h.next
  rw [hnext]
  by_cases hk : k ∈ ks
  · rw [if_pos hk, if_pos hk]
    refine ⟨by simp [State.closings, Attention.packsHeld, State.withPack], fun b => ?_⟩
    refine State.currentPack_filter_live rfl fun j hj => ?_
    obtain ⟨q, hq, -⟩ := h.current b j hj
    rw [State.pack?_withPack s k j _ (State.lt_of_pack? hp), hq]
    split <;> rfl
  · rw [if_neg hk, if_neg hk]
    exact h.unboundLast hp hst

/-- What one board unbound leaves of the packs. -/
theorem State.BoundBy.pack?_next {j : Nat} {q : Pack} (hq : (s.unbindPack k).pack? j = some q) :
    ∃ p, s.pack? j = some p ∧ q.bound = ks.count j ∧ q.bin = p.bin ∧ (0 < q.bound → q.state = p.state ∧ 0 < p.bound) ∧
      (q.state = .opened ↔ p.state = .opened) ∧ (q.state = .opened → 1 ≤ q.pieces + q.bound) := by
  obtain ⟨p, hp, -, hb, -, hpack⟩ := h.next
  rw [hpack] at hq
  by_cases hkj : k = j
  · subst hkj
    rw [if_pos rfl] at hq
    refine ⟨p, hp, ?_⟩
    by_cases hk : k ∈ ks
    · rw [if_pos hk, Option.some.injEq] at hq
      subst hq
      exact ⟨rfl, rfl, fun _ => ⟨rfl, by omega⟩, Iff.rfl, fun _ => Nat.le_add_left_of_le (List.count_pos_iff.mpr hk)⟩
    · rw [if_neg hk] at hq
      obtain ⟨hzero, hbin, hpos, hopen⟩ := Pack.of_unbound hq
      exact ⟨hzero.trans (List.count_eq_zero.mpr hk).symm, hbin, fun h => absurd h (by omega), hopen, fun _ => by omega⟩
  · rw [if_neg hkj] at hq
    refine ⟨q, hq, ?_, rfl, fun hb => ⟨rfl, hb⟩, Iff.rfl, h.filled j q hq⟩
    rw [h.bound j q hq, List.count_cons_of_ne hkj]

theorem State.BoundBy.step : (s.unbindPack k).BoundBy ks := by
  obtain ⟨p, hp, -, -, hnext, hpack⟩ := h.next
  have hcurrent := h.unbound.current
  refine ⟨?_, ?_, fun j hj => ?_, fun j q hq => ?_, fun j q hq hpos => ?_, fun j q hq => ?_, fun j q hq ho => ?_,
    fun b j hbj => ?_⟩
  · rw [← h.records, hnext]
    split
    · exact List.length_set
    · exact s.unboundLast_records_length k p
  · rw [← h.currents, hnext]
    split
    · rfl
    · exact s.unboundLast_current_length k p
  · rw [hpack]
    split
    · subst_vars
      rw [if_pos hj]
      rfl
    · exact h.live j (List.mem_cons_of_mem k hj)
  · obtain ⟨-, -, hbound, -⟩ := h.pack?_next hq
    exact hbound
  · obtain ⟨r, hr, -, -, hsame, -⟩ := h.pack?_next hq
    obtain ⟨hstate, hrpos⟩ := hsame hpos
    rw [hstate]
    exact h.state j r hr hrpos
  · obtain ⟨-, -, -, -, -, -, hfilled⟩ := h.pack?_next hq
    exact hfilled
  · obtain ⟨r, hr, -, hbin, -, hopen, -⟩ := h.pack?_next hq
    obtain ⟨hlt, hcur⟩ := h.opened j r hr (hopen.mp ho)
    rw [hbin, hcurrent, hcur]
    exact ⟨hlt, by simp [Option.filter, hq]⟩
  · rw [hcurrent, Option.filter_eq_some_iff] at hbj
    obtain ⟨hbj, hlive⟩ := hbj
    obtain ⟨q, hq⟩ := Option.isSome_iff_exists.mp hlive
    obtain ⟨r, hr, -, hbin, -, hopen, -⟩ := h.pack?_next hq
    obtain ⟨r', hr', hro, hrb⟩ := h.current b j hbj
    obtain rfl := Option.some.inj (hr.symm.trans hr')
    exact ⟨q, hq, hopen.mpr hro, hbin.trans hrb⟩

end Step

/-! ## All boards unbound -/

/-- A pack with boards still bound closes as it would have before. -/
theorem State.BoundBy.closingAs_next {s : State} {k : Nat} {ks : List Nat} (h : s.BoundBy (k :: ks)) {j : Nat} (hj : j ∈ ks)
    (m : Bool) : (s.unbindPack k).closingAs m j = s.closingAs m j := by
  obtain ⟨p, hp, -, -, -, hpack⟩ := h.next
  rw [State.closingAs, State.closingAs, hpack]
  by_cases hkj : k = j
  · subst hkj
    rw [if_pos rfl, if_pos hj, hp]
    rfl
  · rw [if_neg hkj]

theorem State.BoundBy.cleared_next {s : State} {k : Nat} {ks : List Nat} (h : s.BoundBy (k :: ks)) (j : Nat) :
    ((s.unbindPack k).pack? j).bind Pack.cleared = (s.pack? j).bind Pack.cleared := by
  obtain ⟨p, hp, -, hb, -, hpack⟩ := h.next
  rw [hpack]
  by_cases hkj : k = j
  · subst hkj
    rw [if_pos rfl, hp, Option.bind_some, Pack.cleared_of_bound (by omega)]
    split
    · rename_i hk
      exact Pack.cleared_of_bound (List.count_pos_iff.mpr hk).ne'
    · exact p.unbound_bind_cleared
  · rw [if_neg hkj]

/-- All boards unbound: the packs close in the order of their last boards. -/
theorem State.BoundBy.foldl {s : State} {ks : List Nat} (h : s.BoundBy ks) :
    s.Unbound (ks.foldl State.unbindPack s) ks.dedup ∧ (ks.foldl State.unbindPack s).BoundBy [] ∧
      ∀ j, (ks.foldl State.unbindPack s).pack? j = (s.pack? j).bind Pack.cleared := by
  induction ks generalizing s with
  | nil =>
    refine ⟨.refl fun b k hb => ?_, h, fun j => ?_⟩
    · obtain ⟨p, hp, -⟩ := h.current b k hb
      exact Option.isSome_iff_exists.mpr ⟨p, hp⟩
    · rcases hp : s.pack? j with _ | p
      · exact hp
      · exact hp.trans (if_pos (h.bound j p hp)).symm
  | cons k ks ih =>
    obtain ⟨hrest, hend, hpack⟩ := ih h.step
    refine ⟨?_, hend, fun j => (hpack j).trans (h.cleared_next j)⟩
    have hdedup : (k :: ks).dedup = (if k ∈ ks then [] else [k]) ++ ks.dedup := by
      rw [List.dedup_cons]
      split <;> rfl
    rw [hdedup, List.foldl_cons]
    refine h.unbound.trans hrest (fun j hj m => h.closingAs_next (List.mem_dedup.mp hj) m) fun j hj => ?_
    rw [hpack] at hj
    exact Option.isSome_of_isSome_bind hj

/-! ## The entries removed (R112, R15) -/

/-- The slots of the packs that the boards of the entries are bound to, in queue order. -/
def boundSlots (l : List Entry) : List Nat := l.filterMap (fun e => e.decision.bind (·.packSlot))

theorem count_boundSlots (l : List Entry) (k : Nat) :
    (boundSlots l).count k = l.countP (fun e => e.decision.any (fun d => d.packSlot = some k)) := by
  rw [boundSlots, List.count, List.countP_filterMap]
  refine List.countP_congr fun e _ => ?_
  rcases e.decision with _ | d
  · rfl
  · rcases hd : d.packSlot with _ | j <;> simp [hd]

theorem mem_boundSlots {l : List Entry} {k : Nat} :
    k ∈ boundSlots l ↔ ∃ e ∈ l, ∃ d, e.decision = some d ∧ d.packSlot = some k := by
  simp only [boundSlots, List.mem_filterMap, Option.bind_eq_some_iff]

/-- The charges replaced. -/
def State.withCharges (s : State) (cs : List (Option Charge)) : State := { s with charges := cs }

theorem State.unbindPack_withCharges (s : State) (cs : List (Option Charge)) (k : Nat) :
    (s.withCharges cs).unbindPack k = (s.unbindPack k).withCharges cs := by
  have hclose (u : State) : (u.withCharges cs).closePack k = (u.closePack k).withCharges cs := by
    simp only [State.closePack, show (u.withCharges cs).pack? k = u.pack? k from rfl]
    split
    · rfl
    · split_ifs <;> rfl
  simp only [State.unbindPack, show (s.withCharges cs).pack? k = s.pack? k from rfl]
  split
  · rfl
  · split_ifs
    · exact hclose (s.modifyPack k _)
    · rfl
    · rfl
    · rfl

theorem State.foldl_unbindPack_withCharges (s : State) (cs : List (Option Charge)) (ks : List Nat) :
    ks.foldl State.unbindPack (s.withCharges cs) = (ks.foldl State.unbindPack s).withCharges cs := by
  induction ks generalizing s with
  | nil => rfl
  | cons k ks ih => rw [List.foldl_cons, State.unbindPack_withCharges, ih, List.foldl_cons]

theorem State.foldl_unbindPack_charges (s : State) (ks : List Nat) : (ks.foldl State.unbindPack s).charges = s.charges := by
  have h := s.foldl_unbindPack_withCharges s.charges ks
  rw [show s.withCharges s.charges = s from rfl] at h
  rw [h]
  rfl

/-- A removed entry: its board is unbound from its pack, and its charge loses a reference. -/
theorem State.unbindEntry_eq (s : State) (e : Entry) : s.unbindEntry e =
    ((boundSlots [e]).foldl State.unbindPack s).modifyChargeOf (e.decision.bind (·.chargeSlot))
      (fun c => { c with transitRef := c.transitRef - 1 }) := by
  unfold State.unbindEntry boundSlots
  rcases hd : e.decision with _ | d
  · simp [hd, State.modifyChargeOf]
  · rcases hp : d.packSlot with _ | k <;> simp [hd, hp]

theorem boundSlots_cons (e : Entry) (l : List Entry) : boundSlots (e :: l) = boundSlots [e] ++ boundSlots l :=
  List.filterMap_append (l := [e])

/-- Apart from the charges, the entries removed leave what the boards unbound do. -/
theorem State.foldl_unbindEntry_withCharges (s : State) (cs : List (Option Charge)) (l : List Entry) :
    (l.foldl State.unbindEntry s).withCharges cs = ((boundSlots l).foldl State.unbindPack s).withCharges cs := by
  have hcharge (u : State) (o : Option Nat) (f : Charge → Charge) :
      (u.modifyChargeOf o f).withCharges cs = u.withCharges cs := by cases o <;> rfl
  induction l generalizing s with
  | nil => rfl
  | cons e l ih =>
    rw [List.foldl_cons, ih, ← State.foldl_unbindPack_withCharges, State.unbindEntry_eq, hcharge,
      State.foldl_unbindPack_withCharges, boundSlots_cons e l, List.foldl_append]

theorem State.unbindEntry_charges_length (s : State) (e : Entry) : (s.unbindEntry e).charges.length = s.charges.length := by
  rw [State.unbindEntry_eq]
  cases e.decision.bind (·.chargeSlot) with
  | none => rw [State.modifyChargeOf, State.foldl_unbindPack_charges]
  | some i => rw [State.modifyChargeOf, State.modifyCharge, State.foldl_unbindPack_charges, List.length_modify]

theorem State.charge?_unbindEntry (s : State) (e : Entry) (i : Nat) : (s.unbindEntry e).charge? i =
    (s.charge? i).map (fun c => { c with
      transitRef := c.transitRef - if e.decision.any (fun d => d.chargeSlot = some i) then 1 else 0 }) := by
  have hcharge : ((boundSlots [e]).foldl State.unbindPack s).charge? i = s.charge? i := by
    rw [State.charge?, State.foldl_unbindPack_charges, State.charge?]
  have hnames : e.decision.any (fun d => d.chargeSlot = some i) = decide (e.decision.bind (·.chargeSlot) = some i) := by
    cases e.decision <;> simp
  rw [State.unbindEntry_eq, hnames]
  rcases e.decision.bind (·.chargeSlot) with _ | j
  · simpa [State.modifyChargeOf] using hcharge
  · rw [State.modifyChargeOf, State.charge?_modifyCharge, hcharge]
    by_cases hij : j = i <;> simp [hij]

/-- A charge's references fall once for each entry that names it. -/
theorem State.charge?_foldl_unbindEntry (s : State) (l : List Entry) (i : Nat) :
    (l.foldl State.unbindEntry s).charge? i = (s.charge? i).map (fun c => { c with
      transitRef := c.transitRef - l.countP (fun e => e.decision.any (fun d => d.chargeSlot = some i)) }) := by
  induction l generalizing s with
  | nil => simp
  | cons e l ih =>
    rw [List.foldl_cons, ih, State.charge?_unbindEntry, Option.map_map, List.countP_cons, Nat.add_comm]
    simp only [Function.comp_def, Nat.sub_sub]

theorem State.foldl_unbindEntry_charges_length (s : State) (l : List Entry) :
    (l.foldl State.unbindEntry s).charges.length = s.charges.length := by
  induction l generalizing s with
  | nil => rfl
  | cons e l ih => exact (ih _).trans (s.unbindEntry_charges_length e)

/-! ## LINE_RESTART (R112, R128) -/

theorem PacksOk.boundBy {s : State} (h : PacksOk s) : s.BoundBy (boundSlots s.tracker.queue) := by
  obtain ⟨-, ⟨hrecords, hcurrents, hcurrent, hopened⟩, -, hpacks, hlive, -⟩ := h
  have hlt {k : Nat} {p : Pack} (hp : s.pack? k = some p) : k < Config.packSlots := hrecords ▸ State.lt_of_pack? hp
  have hok {k : Nat} {p : Pack} (hp : s.pack? k = some p) : PackOk s k p := hpacks k (hlt hp) p (Option.mem_toList.mpr hp)
  refine ⟨hrecords, hcurrents, fun k hk => ?_, fun k p hp => ?_, fun k p hp => ?_, fun k p hp ho => ?_,
    fun k p hp => hopened k (hlt hp) p (Option.mem_toList.mpr hp), fun b k hb => ?_⟩
  · obtain ⟨e, he, d, hd, hdk⟩ := mem_boundSlots.mp hk
    exact hlive e he d (Option.mem_toList.mpr hd) k (Option.mem_toList.mpr hdk)
  · obtain ⟨hbound, -⟩ := hok hp
    rw [hbound, count_boundSlots, State.decidedCount]
  · obtain ⟨-, hstate, -⟩ := hok hp
    exact hstate
  · obtain ⟨-, -, -, hfilled, -⟩ := hok hp
    obtain ⟨hone, -⟩ := hfilled ho
    exact hone
  · have hb16 : b < Config.bins := by
      by_contra hge
      rw [State.currentPack, List.getElem?_eq_none (by rw [hcurrents]; exact Nat.le_of_not_lt hge)] at hb
      cases hb
    have hany := hcurrent b hb16 k (Option.mem_toList.mpr hb)
    rw [Option.any_eq_true] at hany
    obtain ⟨p, hp, hpb⟩ := hany
    exact ⟨p, hp, of_decide_eq_true hpb⟩

/-- What an observer of the closing packs sees of those with a quarantine mark and of those without. -/
theorem State.closings_eq (s : State) (l : List Nat) (m : Bool) : s.closings m l =
    ((l.filterMap (fun k => (s.pack? k).bind (fun p =>
      if p.state = .closing ∧ 0 < p.pieces then some (k, p) else none))).filter
        (fun x => (x.2.quarantine || x.2.quarantineMix) = m)).map (fun x => (x.1, x.2.number)) := by
  rw [List.filter_filterMap, List.map_filterMap]
  refine List.filterMap_congr fun k _ => ?_
  rw [State.closingAs]
  rcases s.pack? k with _ | p
  · rfl
  · by_cases hc : p.state = .closing ∧ 0 < p.pieces
    · by_cases hm : (p.quarantine || p.quarantineMix) = m <;> simp [hc, hm]
    · have hno : ¬(p.state = .closing ∧ 0 < p.pieces ∧ (p.quarantine || p.quarantineMix) = m) :=
        fun ⟨hclosing, hpos, _⟩ => hc ⟨hclosing, hpos⟩
      rw [Option.bind_some, Option.bind_some, if_neg hno, if_neg hc]
      rfl

theorem State.foldl_raise_attention (s : State) (l : List (Nat × Pack)) :
    (l.foldl (fun u x => u.raise .packHeld (.pack x.2.number)) s).attention =
      s.attention.packsHeld (l.map (fun x => (x.1, x.2.number))) := by
  induction l generalizing s with
  | nil => rfl
  | cons x l ih => exact ih _

/-- Settles O35, by induction on the boards that the restart unbinds: the packs close in the order of their last
boards, which is the order of the slots without their earlier occurrences. -/
theorem lineRestartEmptiesTheLine : Obligations.LineRestartEmptiesTheLine := by
  unfold Obligations.LineRestartEmptiesTheLine
  intro s hr
  have hreach : Reaches .lineRestart 99 lineRestart s := fun _ _ => rfl
  refine ⟨fun p hne hp => hreach.refused hr hp (if_pos (by simpa using hne)), fun hok => ?_⟩
  obtain ⟨⟨hframe, hcurrent⟩, hend, hpack⟩ := hok.boundBy.foldl
  have hentries := fun cs => s.foldl_unbindEntry_withCharges cs s.tracker.queue
  have hcharges := s.charge?_foldl_unbindEntry s.tracker.queue
  have hlength := s.foldl_unbindEntry_charges_length s.tracker.queue
  generalize hv : s.tracker.queue.foldl State.unbindEntry s = v at hentries hcharges hlength
  generalize (boundSlots s.tracker.queue).foldl State.unbindPack s = w at hframe hcurrent hend hpack hentries
  have hvw : v = w.withCharges v.charges := hentries v.charges
  have hpacks : v.packs = w.packs := by
    rw [hvw]
    rfl
  refine ⟨_, hreach.answers hr (by simp) rfl, ?_⟩
  rw [hv]
  intro marked bound closing restarted
  have hqueue : (closing.filter (fun x => !marked x.2)).map (·.1) = (s.closings false bound).map (·.1) := by
    rw [State.closings_eq, List.map_map]
    simp only [closing, marked, Bool.decide_eq_false]
    rfl
  have hheld : ((closing.filter (fun x => marked x.2)).foldl (fun u x => u.raise .packHeld (.pack x.2.number)) s).attention =
      s.attention.packsHeld (s.closings true bound) := by
    rw [State.foldl_raise_attention, State.closings_eq]
    simp only [closing, marked, Bool.decide_eq_true]
  refine ⟨?_, hlength, ?_, ?_, hcharges, fun b => ?_, fun k => ?_⟩
  · rw [hqueue, hheld, hvw, hframe]
    rfl
  · exact hpacks ▸ hend.records
  · exact hpacks ▸ hend.currents
  · rw [State.currentPack, hpacks]
    refine (hcurrent b).trans ?_
    rcases hb : s.currentPack b with _ | k
    · rfl
    · obtain ⟨p, hp, ho, -⟩ := hok.boundBy.current b k hb
      have hlive := Pack.cleared_isSome (hok.boundBy.filled k p hp ho)
      simp only [Option.filter, hpack, hp, Option.bind_some, hlive, Option.any_some]
  · rw [State.pack?, hpacks]
    exact hpack k

end Sys2Proof.Machine
end

section
/-! PLAN_LOAD: the plan and the rules that its parts carry, and what its owner makes of them. -/

namespace Sys2Proof.Machine

theorem Sorter.otherSlot_eq_shadowSlot (s : State) : s.sorter.otherSlot = s.shadowSlot := by
  unfold Sorter.otherSlot Sorter.activeSlot State.shadowSlot
  split <;> rfl

theorem Sorter.draining_iff (t : Sorter) :
    t.draining = true ↔ t.slot0.role = .draining ∨ t.slot1.role = .draining := by
  simp [Sorter.draining]

/-! ## The header part (R120) -/

/-- The template and target of each bin, as a header part sends them (R120). -/
def binsPart (bins : List (Nat × Nat)) : List Byte := bins.flatMap (fun b => bytes 1 b.1 ++ bytes 2 b.2)

/-- The payload of a header part (R120). -/
def headerPart (reject quarantine building count : Nat) (bins : List (Nat × Nat)) : List Byte :=
  bytes 1 0 ++ bytes 1 reject ++ bytes 1 quarantine ++ bytes 2 building ++ binsPart bins ++ bytes 1 count

/-- The plan that a header part starts, without rules (R120). -/
def headerPlan (reject quarantine building count : Nat) (bins : List (Nat × Nat)) : Plan :=
  ⟨reject, quarantine, (List.range 16).filter building.testBit, bins.map (·.1), bins.map (·.2), count, []⟩

theorem length_binsPart (bins : List (Nat × Nat)) : (binsPart bins).length = 3 * bins.length := by
  simp [binsPart, List.length_flatMap, Nat.mul_comm]

theorem readBins_binsPart {bins : List (Nat × Nat)} (h : ∀ b ∈ bins, b.1 ≤ 255 ∧ b.2 ≤ 65535) (r : List Byte) :
    readBins (binsPart bins ++ r) bins.length = bins := by
  induction bins with
  | nil => rfl
  | cons b bins ih =>
    obtain ⟨⟨h1, h2⟩, hrest⟩ := List.forall_mem_cons.mp h
    have hsplit : binsPart (b :: bins) ++ r = bytes 1 b.1 ++ (bytes 2 b.2 ++ (binsPart bins ++ r)) := by
      simp [binsPart]
    have hfields : field (binsPart (b :: bins) ++ r) 0 1 = b.1 ∧ field (binsPart (b :: bins) ++ r) 1 2 = b.2 := by
      rw [hsplit]
      simp
      omega
    have hdrop : (binsPart (b :: bins) ++ r).drop 3 = binsPart bins ++ r := by
      rw [hsplit, ← List.append_assoc]
      exact List.drop_left' (by simp)
    obtain ⟨htemplate, htarget⟩ := hfields
    rw [List.length_cons, readBins, hdrop, ih hrest, htemplate, htarget]

theorem Plan.headerOk_iff (p : Plan) : p.headerOk = true ↔
    p.reject ≤ 15 ∧ p.quarantine ≤ 15 ∧ p.reject ∉ p.building ∧ (p.quarantine = p.reject ∨ p.quarantine ∈ p.building) ∧
      (∀ x ∈ p.templates, x ≤ 3) ∧ (∀ x ∈ p.targets, 1 ≤ x ∧ x ≤ 9999) ∧ p.ruleCount ≤ 48 := by
  simp [Plan.headerOk, and_assoc]

section Header
variable {reject quarantine building count : Nat} {bins : List (Nat × Nat)}

theorem length_headerPart (hl : bins.length = 16) : (headerPart reject quarantine building count bins).length = 54 := by
  simp [headerPart, length_binsPart, hl]

theorem readHeader_headerPart (hr : reject ≤ 255) (hq : quarantine ≤ 255) (hb : building ≤ 65535) (hc : count ≤ 255)
    (hl : bins.length = 16) (hbins : ∀ b ∈ bins, b.1 ≤ 255 ∧ b.2 ≤ 65535) :
    readHeader (headerPart reject quarantine building count bins) = headerPlan reject quarantine building count bins := by
  generalize hp : headerPart reject quarantine building count bins = p
  have hfields : field p 1 1 = reject ∧ field p 2 1 = quarantine ∧ field p 3 2 = building ∧ field p 53 1 = count := by
    subst hp
    simp [headerPart, length_binsPart, hl]
    omega
  have hdrop : readBins (p.drop 5) 16 = bins := by
    rw [← hp, headerPart, List.append_assoc _ (binsPart bins), List.drop_left' (by simp), ← hl]
    exact readBins_binsPart hbins _
  obtain ⟨h1, h2, h3, h53⟩ := hfields
  rw [readHeader, hdrop, h1, h2, h3, h53]
  rfl

/-- The conditions of R120 on the values that a header part carries. -/
theorem headerOk_headerPlan : (headerPlan reject quarantine building count bins).headerOk = true ↔
    reject ≤ 15 ∧ quarantine ≤ 15 ∧ building.testBit reject = false ∧
      (quarantine = reject ∨ building.testBit quarantine = true) ∧
      (∀ b ∈ bins, b.1 ≤ 3 ∧ 1 ≤ b.2 ∧ b.2 ≤ 9999) ∧ count ≤ 48 := by
  have hmem {n : Nat} (hn : n ≤ 15) : n ∈ (List.range 16).filter building.testBit ↔ building.testBit n = true := by
    rw [List.mem_filter, List.mem_range]
    exact and_iff_right (by omega)
  have hbins : (∀ b ∈ bins, b.1 ≤ 3 ∧ 1 ≤ b.2 ∧ b.2 ≤ 9999) ↔
      (∀ x ∈ bins.map (·.1), x ≤ 3) ∧ ∀ x ∈ bins.map (·.2), 1 ≤ x ∧ x ≤ 9999 := by
    rw [List.forall_mem_map, List.forall_mem_map, ← forall₂_and]
  rw [Plan.headerOk_iff, hbins, and_assoc]
  dsimp only [headerPlan]
  refine and_congr_right fun hr => and_congr_right fun hq => ?_
  rw [hmem hr, hmem hq, Bool.not_eq_true]

theorem planLoad_headerPart {s : State} (hr : reject ≤ 255) (hq : quarantine ≤ 255) (hb : building ≤ 65535)
    (hc : count ≤ 255) (hl : bins.length = 16) (hbins : ∀ b ∈ bins, b.1 ≤ 255 ∧ b.2 ≤ 65535) :
    planLoad (headerPart reject quarantine building count bins) s =
      let plan := headerPlan reject quarantine building count bins
      if s.sorter.draining = true then .refuse .busy
      else if plan.headerOk = false then .refuse .badField
      else .ok (bytes 1 s.shadowSlot ++ bytes 1 count)
        (s.setPlanSlot s.shadowSlot { s.sorter.slot s.shadowSlot with plan := some plan }) := by
  have hheader : planLoad (headerPart reject quarantine building count bins) s =
      planHeader (headerPart reject quarantine building count bins) s := rfl
  rw [hheader, planHeader, if_neg (by simp [length_headerPart hl]), readHeader_headerPart hr hq hb hc hl hbins,
    Sorter.otherSlot_eq_shadowSlot]
  simp only [Bool.not_eq_true']
  rfl

end Header

/-! ## The rule parts (R121) -/

theorem RuleFields.length_bytes (f : RuleFields) : f.bytes.length = 9 := by
  simp [RuleFields.bytes]

theorem length_flatMap_ruleBytes (rules : List RuleFields) : (rules.flatMap RuleFields.bytes).length = 9 * rules.length := by
  simp [List.length_flatMap, RuleFields.length_bytes, Nat.mul_comm]

theorem drop_ruleBytes (f : RuleFields) (r : List Byte) : (f.bytes ++ r).drop 9 = r :=
  List.drop_left' f.length_bytes

/-- The set of moisture classes that a sum stands for (section 7.3). -/
theorem classMembers_eq (sum : Nat) : classMembers sum =
    ([(0, .pass), (1, .wet), (2, .overdry), (3, .unmeasured)].filter
      (fun x : Nat × MClass => sum.testBit x.1)).map (·.2) := by
  have hcode (c : MClass) (k : Nat) (h : c.setCode = 2 ^ k) : hasCode sum c.setCode = sum.testBit k := by
    rw [h, hasCode_two_pow]
  simp only [classMembers, MClass.all, List.filter_cons, List.filter_nil, hcode .pass 0 rfl, hcode .wet 1 rfl,
    hcode .overdry 2 rfl, hcode .unmeasured 3 rfl]
  split_ifs <;> rfl

/-- The rule that 9 bytes carry, and the sum that they send for its moisture classes. -/
theorem readRule_bytes {f : RuleFields} (h : f.Fits) (r : List Byte) :
    readRule (f.bytes ++ r) = f.rule ∧ field (f.bytes ++ r) 7 1 = f.moisture := by
  obtain ⟨h1, h2, h3, h4, h5, h6, h7⟩ := h
  generalize hp : f.bytes ++ r = p
  have hfields : field p 0 1 = f.groups ∧ field p 1 2 = f.grades ∧ field p 3 1 = f.lo ∧ field p 4 1 = f.hi ∧
      field p 5 2 = f.thickness ∧ field p 7 1 = f.moisture ∧ field p 8 1 = f.bin := by
    subst hp
    simp [RuleFields.bytes]
    omega
  obtain ⟨e0, e1, e3, e4, e5, e7, e8⟩ := hfields
  refine ⟨?_, e7⟩
  rw [readRule, e0, e1, e3, e4, e5, e7, e8, classMembers_eq]
  rfl

theorem ruleOk_bytes {f : RuleFields} (h : f.Fits) (pl : Plan) (r : List Byte) :
    ruleOk pl (f.bytes ++ r) = true ↔ f.InRange pl := by
  obtain ⟨hrule, hmoisture⟩ := readRule_bytes h r
  simp only [ruleOk, hrule, hmoisture, RuleFields.rule, RuleFields.InRange, Bool.and_eq_true, Bool.not_eq_true',
    decide_eq_true_eq, Bool.and_eq_false_iff, decide_eq_false_iff_not]
  omega

theorem rulesOk_flatMap {rules : List RuleFields} (h : ∀ f ∈ rules, f.Fits) (pl : Plan) :
    rulesOk pl (rules.flatMap RuleFields.bytes) rules.length = true ↔ ∀ f ∈ rules, f.InRange pl := by
  induction rules with
  | nil => simp [rulesOk]
  | cons f rules ih =>
    obtain ⟨hf, hrest⟩ := List.forall_mem_cons.mp h
    rw [List.flatMap_cons, List.length_cons, rulesOk, Bool.and_eq_true, drop_ruleBytes, ruleOk_bytes hf, ih hrest,
      List.forall_mem_cons]

theorem readRules_flatMap {rules : List RuleFields} (h : ∀ f ∈ rules, f.Fits) :
    readRules (rules.flatMap RuleFields.bytes) rules.length = rules.map RuleFields.rule := by
  induction rules with
  | nil => rfl
  | cons f rules ih =>
    obtain ⟨hf, hrest⟩ := List.forall_mem_cons.mp h
    rw [List.flatMap_cons, List.length_cons, readRules, drop_ruleBytes, (readRule_bytes hf _).1, ih hrest, List.map_cons]

/-- The payload of a rule part (R121). -/
def rulePart (start : Nat) (rules : List RuleFields) : List Byte :=
  bytes 1 1 ++ bytes 1 start ++ rules.flatMap RuleFields.bytes

theorem length_rulePart (start : Nat) (rules : List RuleFields) : (rulePart start rules).length = 2 + 9 * rules.length := by
  rw [rulePart, List.length_append, List.length_append, length_bytes, length_bytes, length_flatMap_ruleBytes]

/-- A rule part is due: the load has rules to come, and these are the next of them (R121). -/
def Plan.Due (pl : Plan) (start count : Nat) : Prop :=
  pl.rules.length < pl.ruleCount ∧ start = pl.rules.length ∧ start + count ≤ pl.ruleCount

theorem PlanSlot.fill_eq {p : PlanSlot} {pl : Plan} (h : p.plan = some pl) :
    p.fill = if pl.rules.length < pl.ruleCount then .loading else .loaded := by
  rw [PlanSlot.fill, h]

/-- The order of a rule part is judged on the slot's fill (R121). -/
theorem not_due_iff {p : PlanSlot} {pl : Plan} (h : p.plan = some pl) (start count : Nat) :
    (p.fill ≠ .loading ∨ start ≠ pl.rules.length ∨ pl.ruleCount < start + count) ↔ ¬pl.Due start count := by
  have hfill : p.fill = .loading ↔ pl.rules.length < pl.ruleCount := by
    rw [PlanSlot.fill_eq h]
    split <;> simp [*]
  rw [Plan.Due, ne_eq, hfill]
  omega

section Rules
variable {s : State} {start : Nat} {rules : List RuleFields}

/-- What a rule part finds in the slot, once no slot is draining (R121). -/
theorem planLoad_rulePart (hs : start ≤ 255) (h1 : 1 ≤ rules.length) (h16 : rules.length ≤ 16)
    (hfit : ∀ f ∈ rules, f.Fits) : planLoad (rulePart start rules) s =
      let slot := s.sorter.slot s.shadowSlot
      if s.sorter.draining = true then .refuse .busy
      else match slot.plan with
        | none => .refuse .wrongState
        | some pl =>
          if slot.fill ≠ .loading ∨ start ≠ pl.rules.length ∨ pl.ruleCount < start + rules.length then .refuse .wrongState
          else if rulesOk pl (rules.flatMap RuleFields.bytes) rules.length = false then .refuse .badField
          else
            let pl' := { pl with rules := pl.rules ++ rules.map RuleFields.rule }
            .ok (loadAnswer s.shadowSlot pl') (s.setPlanSlot s.shadowSlot { slot with plan := some pl' }) := by
  have hpart : planLoad (rulePart start rules) s = planRules (rulePart start rules) s := rfl
  have hlen := length_rulePart start rules
  have hcount : ((rulePart start rules).length - 2) / 9 = rules.length := by omega
  have hok : rulePartLength (rulePart start rules).length = true := by
    simp only [rulePartLength, hlen, Bool.and_eq_true, decide_eq_true_eq]
    omega
  have hstart : field (rulePart start rules) 1 1 = start := by
    simp [rulePart]
    omega
  have hdrop : (rulePart start rules).drop 2 = rules.flatMap RuleFields.bytes :=
    List.drop_left' (by simp)
  rw [hpart, planRules, if_neg (by simp [hok]), hcount, hstart, hdrop, Sorter.otherSlot_eq_shadowSlot]
  simp only [Bool.not_eq_true', readRules_flatMap hfit] <;> rfl

end Rules

/-- Settles O44, part by part: the drain first, then the order of the parts, then the ranges of their values. -/
theorem planLoadBuildsTheShadowPlan : Obligations.PlanLoadBuildsTheShadowPlan := by
  unfold Obligations.PlanLoadBuildsTheShadowPlan
  intro s hr n draining
  have hdrain : s.sorter.draining = true ↔ draining := s.sorter.draining_iff
  constructor
  · intro reject quarantine building count bins hrej hq hb hc hl hbins payload inRange
    have hx : Reaches .planLoadHeader 112 planLoad s := fun _ _ => rfl
    have hlen : payload.length ≤ 250 := (length_headerPart hl).trans_le (by decide)
    have hown : planLoad payload s = _ := planLoad_headerPart (s := s) hrej hq hb hc hl hbins
    have hrange : (headerPlan reject quarantine building count bins).headerOk = true ↔ inRange := headerOk_headerPlan
    refine ⟨fun hd => hx.refused hr hlen ?_, fun hd hbad => hx.refused hr hlen ?_, fun hd hin => hx.answers hr hlen ?_⟩
    · exact hown.trans (if_pos (hdrain.mpr hd))
    · exact hown.trans ((if_neg (hdrain.not.mpr hd)).trans (if_pos (by simpa using hrange.not.mpr hbad)))
    · exact hown.trans ((if_neg (hdrain.not.mpr hd)).trans (if_neg (by simp [hrange.mpr hin])))
  · intro start rules hs h1 h16 hfit payload
    have hx : Reaches .planLoadRules 112 planLoad s := fun _ _ => rfl
    have hlen : payload.length ≤ 250 := (length_rulePart start rules).trans_le (by omega)
    have hown : planLoad payload s = _ := planLoad_rulePart (s := s) hs h1 h16 hfit
    refine ⟨fun hd => hx.refused hr hlen (hown.trans (if_pos (hdrain.mpr hd))), fun hd hpl => hx.refused hr hlen ?_,
      fun pl hd hpl => ?_⟩
    · refine hown.trans ((if_neg (hdrain.not.mpr hd)).trans ?_)
      rw [hpl]
    · have hplan := hown.trans (if_neg (hdrain.not.mpr hd))
      rw [hpl] at hplan
      have hdue := not_due_iff hpl start rules.length
      have hrules := rulesOk_flatMap hfit pl
      refine ⟨fun hnot => hx.refused hr hlen (hplan.trans (if_pos (hdue.mpr hnot))),
        fun hin hbad => hx.refused hr hlen ?_, fun hin hall => hx.answers hr hlen ?_⟩
      · have hno : ¬∀ f ∈ rules, f.InRange pl := by
          simpa using hbad
        exact hplan.trans ((if_neg (hdue.not.mpr (not_not_intro hin))).trans (if_pos (by simpa using hrules.not.mpr hno)))
      · refine hplan.trans ((if_neg (hdue.not.mpr (not_not_intro hin))).trans
          ((if_neg (by simp [hrules.mpr hall])).trans ?_))
        obtain ⟨-, hstart, -⟩ := hin
        have hleft : loadAnswer n { pl with rules := pl.rules ++ rules.map RuleFields.rule } =
            bytes 1 n ++ bytes 1 (pl.ruleCount - (start + rules.length)) := by
          simp [loadAnswer, Plan.expected, hstart]
        exact congrArg (Reply.ok · _) hleft

end Sys2Proof.Machine
end

section
/-! PLAN_READ, PACK_READ and PACK_LIST. -/

namespace Sys2Proof.Machine

/-! ## PLAN_READ (R125) -/

theorem classSum_eq_sum (l : List MClass) : classSum l = (l.map MClass.setCode).sum := by
  rw [classSum, List.sum_eq_foldl, List.foldl_map]

/-- PLAN_READ on the values that its payload carries. -/
theorem planRead_bytes {s : State} {n start : Nat} (hn : n ≤ 255) (hs : start ≤ 255) :
    planRead (bytes 1 n ++ bytes 1 start) s =
      if 1 < n then .refuse .badField
      else match (s.sorter.slot n).plan with
        | none => .refuse .noSuch
        | some plan => if 47 < start then .refuse .badField else .ok (planReport n start (s.sorter.slot n) plan) s := by
  have hfields : field (bytes 1 n ++ bytes 1 start) 0 1 = n ∧ field (bytes 1 n ++ bytes 1 start) 1 1 = start := by
    simp
    omega
  obtain ⟨h0, h1⟩ := hfields
  rw [planRead, if_neg (by simp), h0, h1] <;> rfl

/-- The sums of a rule's sets, in the words of the obligation (R125). -/
theorem Rule.bytes_eq (r : Rule) : r.bytes = Machine.bytes 1 (powerSum r.groups) ++ Machine.bytes 2 (powerSum r.grades) ++
    Machine.bytes 1 r.lengthLo ++ Machine.bytes 1 r.lengthHi ++ Machine.bytes 2 (powerSum r.thickness) ++
    Machine.bytes 1 ((r.moisture.map (fun m => match m with
      | .pass => 1 | .wet => 2 | .overdry => 4 | .unmeasured => 8)).sum) ++ Machine.bytes 1 r.bin := by
  rw [Rule.bytes, setSum_eq_powerSum, setSum_eq_powerSum, setSum_eq_powerSum, classSum_eq_sum]
  rfl

theorem PlanSlot.fill_code {slot : PlanSlot} {p : Plan} (h : slot.plan = some p) :
    slot.fill.code = if p.rules.length < p.ruleCount then 1 else 2 := by
  rw [PlanSlot.fill_eq h]
  split <;> rfl

theorem planReport_eq {n start : Nat} {slot : PlanSlot} {p : Plan} (h : slot.plan = some p) :
    planReport n start slot p =
      bytes 1 n ++ bytes 1 slot.role.code ++ bytes 1 (if p.rules.length < p.ruleCount then 1 else 2) ++
        bytes 1 slot.decided ++ bytes 1 p.reject ++ bytes 1 p.quarantine ++ bytes 2 (powerSum p.building) ++ p.binBytes ++
        bytes 1 p.ruleCount ++ bytes 1 p.rules.length ++ bytes 1 start ++
        bytes 1 ((p.rules.drop start).take 16).length ++ ((p.rules.drop start).take 16).flatMap Rule.bytes := by
  rw [planReport, PlanSlot.fill_code h, setSum_eq_powerSum]

/-! ## PACK_READ (R141, R142) -/

theorem State.findPack_of_onlyPack {s : State} {n i : Nat} {p : Pack} (h : s.OnlyPack n i p) :
    s.findPack n = some (i, p) := by
  obtain ⟨hi, hn, honly⟩ := h
  rcases hf : s.findPack n with _ | ⟨j, q⟩
  · exact absurd hn (State.noPack_of_findPack (by rw [hf]; rfl) i p hi)
  · obtain ⟨hj, hq⟩ := State.pack?_of_findPack hf
    obtain rfl := honly j q hj hq
    rw [Option.some.inj (hi.symm.trans hj)]

/-- A pack request on the number of the only live pack that holds it (R141). -/
theorem onPack_only {s : State} {n i : Nat} {p : Pack} (h1 : 1 ≤ n) (h2 : n ≤ 999999) (h : s.OnlyPack n i p)
    (f : Nat → Pack → Reply) : onPack (bytes 3 n) s f = f i p := by
  have hm : n % 16777216 = n := by omega
  have hok : ¬badPackNumber n = true := by
    simp [badPackNumber]
    omega
  rw [onPack, if_neg (by simp), field_bytes_zero, show 256 ^ 3 = 16777216 from rfl, hm]
  refine (if_neg hok).trans ?_
  rw [State.findPack_of_onlyPack h]

/-- The two bytes of a pack's dimension, 255 each when it is absent (R142). -/
def dimensionPart : Option (Nat × Nat) → List Byte
  | none => [255, 255]
  | some (t, w) => bytes 1 t ++ bytes 1 w

theorem optBytes_dimension (d : Option (Nat × Nat)) (r : List Byte) :
    optBytes 1 255 (d.map (·.1)) ++ (optBytes 1 255 (d.map (·.2)) ++ r) = dimensionPart d ++ r := by
  cases d <;> rfl

theorem Pack.marks_eq (p : Pack) : p.marks =
    (if p.quarantine then 1 else 0) + (if p.quarantineMix then 2 else 0) + (if p.mixedDim then 4 else 0) := by
  unfold Pack.marks
  cases p.quarantine <;> cases p.quarantineMix <;> cases p.mixedDim <;> rfl

/-- The report of a pack, field by field, in the words of the obligation (R142). -/
theorem State.packReport_eq (s : State) (slot : Nat) (p : Pack) : s.packReport slot p =
    bytes 3 p.number ++ bytes 1 slot ++ bytes 1 p.bin ++ bytes 1 p.state.code ++
      bytes 1 (if s.currentPack p.bin = some slot then 1 else 0) ++ bytes 2 p.target ++ bytes 1 p.template ++
      bytes 2 p.pieces ++ bytes 1 p.bound ++ bytes 5 p.volume ++
      dimensionPart p.dimension ++
      bytes 1 ((if p.quarantine then 1 else 0) + (if p.quarantineMix then 2 else 0) + (if p.mixedDim then 4 else 0)) ++
      bytes 1 (closeReasonCode p.closeReason) ++ bytes 1 (if p.truncated then 1 else 0) ++
      bytes 2 (powerSum p.grades) ++ bytes 8 (powerSum p.charges) ++ bytes 2 p.measured ++ bytes 3 p.mcSum ++
      bytes 2 (p.lowest.getD 65535) ++ bytes 2 (p.highest.getD 65535) ++ bytes 1 p.tally.length ++
      p.tally.flatMap (fun x => bytes 1 x.1 ++ bytes 2 x.2) := by
  unfold State.packReport
  rw [← Pack.marks_eq, flagByte_eq, flagByte_eq, setSum_eq_powerSum, setSum_eq_powerSum]
  simp only [List.append_assoc, decide_eq_true_eq, optBytes_dimension]
  rfl

/-! ## PACK_LIST (R143) -/

theorem PackState.setCode_eq_two_pow (x : PackState) : x.setCode = 2 ^ (x.code - 1) := by
  cases x <;> rfl

theorem Pack.listed_iff {start states bin charge : Nat} {p : Pack} : p.listed start states bin charge = true ↔
    start ≤ p.number ∧ states.testBit (p.state.code - 1) = true ∧ (bin = 255 ∨ p.bin = bin) ∧
      (charge = 255 ∨ charge ∈ p.charges) := by
  simp [Pack.listed, PackState.setCode_eq_two_pow, hasCode_two_pow, and_assoc]

theorem State.mem_packsListed {s : State} {start states bin charge i : Nat} {p : Pack} :
    (i, p) ∈ s.packsListed start states bin charge ↔
      s.pack? i = some p ∧ p.listed start states bin charge = true := by
  rw [State.packsListed, (perm_sortBy _ _).mem_iff, List.mem_filter, mem_liveSlots]
  simp [State.pack?, Option.join_eq_some_iff]

theorem State.nodup_packsListed (s : State) (start states bin charge : Nat) :
    (s.packsListed start states bin charge).Nodup := by
  rw [State.packsListed, (perm_sortBy _ _).nodup_iff]
  refine List.Nodup.filter _ ((pairwise_liveSlots 0 s.packs.records).imp fun hab h => ?_)
  exact absurd hab (h ▸ Nat.lt_irrefl _)

/-- PACK_LIST on the values that its payload carries. -/
theorem packList_bytes {s : State} {start states bin charge : Nat} (h1 : start ≤ 16777215) (h2 : states ≤ 255)
    (h3 : bin ≤ 255) (h4 : charge ≤ 255) :
    let found := s.packsListed start states bin charge
    packList (bytes 3 start ++ bytes 1 states ++ bytes 1 bin ++ bytes 1 charge) s =
      if 999999 < start ∨ states = 0 ∨ (16 ≤ bin ∧ bin ≤ 254) ∨ (64 ≤ charge ∧ charge ≤ 254) then .refuse .badField
      else .ok (bytes 1 (found.take 24).length ++ bytes 3 ((found[24]?).elim 0 (fun x => x.2.number)) ++
        (found.take 24).flatMap (fun x => x.2.entry x.1)) s := by
  intro found
  generalize hp : bytes 3 start ++ bytes 1 states ++ bytes 1 bin ++ bytes 1 charge = p
  have hfields : p.length = 6 ∧ field p 0 3 = start ∧ field p 3 1 = states ∧ field p 4 1 = bin ∧ field p 5 1 = charge := by
    subst hp
    simp
    omega
  obtain ⟨hlen, e0, e3, e4, e5⟩ := hfields
  rw [packList, if_neg (not_not_intro hlen), e0, e3, e4, e5]

/-- Settles O46: what each owner answers on the values of its payload, then the list as the first 24 of the sorted
matches. -/
theorem planAndPackReports : Obligations.PlanAndPackReports := by
  unfold Obligations.PlanAndPackReports
  intro s hr code
  refine ⟨fun n start hn hs => ?_, fun n slot p h1 h2 hp => ?_, fun start states bin charge h1 h2 h3 h4 => ?_⟩
  · intro request slot
    have hx : Reaches .planRead 114 planRead s := fun _ _ => rfl
    have hown : planRead request s = _ := planRead_bytes (s := s) hn hs
    refine ⟨fun h => hx.refused hr (by simp [request]) (hown.trans (if_pos h)),
      fun hslot he => hx.refused hr (by simp [request]) (hown.trans ((if_neg (by omega)).trans (by rw [he]))),
      fun p hslot hp => ?_⟩
    have hplan := hown.trans (if_neg (by omega))
    rw [hp] at hplan
    refine ⟨fun h => hx.refused hr (by simp [request]) (hplan.trans (if_pos h)),
      fun h => hx.answers hr (by simp [request]) (hplan.trans ((if_neg (by omega)).trans ?_))⟩
    rw [planReport_eq hp, List.flatMap_congr fun r _ => r.bytes_eq]
    rfl
  · have hx : Reaches .packRead 128 packRead s := fun _ _ => rfl
    refine hx.answers hr (by simp) ?_
    obtain ⟨-, hnumber, -⟩ := id hp
    rw [packRead, onPack_only h1 h2 hp, State.packReport_eq, hnumber]
    rfl
  · intro request inRange
    have hx : Reaches .packList 129 packList s := fun _ _ => rfl
    have hown : packList request s = _ := packList_bytes (s := s) h1 h2 h3 h4
    have hbad : 999999 < start ∨ states = 0 ∨ (16 ≤ bin ∧ bin ≤ 254) ∨ (64 ≤ charge ∧ charge ≤ 254) ↔ ¬inRange := by
      simp only [inRange]
      omega
    refine ⟨fun h => hx.refused hr (by simp [request]) (hown.trans (if_pos (hbad.mpr h))), fun h => ?_⟩
    have hlist := hown.trans (if_neg (hbad.not.mpr (not_not_intro h)))
    refine ⟨(s.packsListed start states bin charge).take 24, (s.packsListed start states bin charge).drop 24, ?_⟩
    rw [List.take_append_drop]
    refine ⟨s.nodup_packsListed start states bin charge, fun i p => ?_, sorted_sortBy _ _, List.length_take, ?_⟩
    · rw [State.mem_packsListed, Pack.listed_iff]
      rfl
    · rw [← List.head?_drop] at hlist
      rcases hd : (s.packsListed start states bin charge).drop 24 with _ | ⟨x, r⟩
      · rw [hd] at hlist
        exact hx.answers hr (by simp [request]) hlist
      · rw [hd] at hlist
        exact hx.answers hr (by simp [request]) hlist

end Sys2Proof.Machine
end

section
/-! PLAN_SWITCH: the close-requests on the current packs of the bins that stop building, one after the other. -/

namespace Sys2Proof.Machine

/-! ## One close-request (R137, R138) -/

/-- A pack with a quarantine mark is held when it closes (R138). -/
def Pack.marked (p : Pack) : Bool := p.quarantine || p.quarantineMix

/-- The record of a pack after its close-request with reason PLAN: CLOSING while boards are bound to it, else
closed (R137, R138). -/
def Pack.planClosed (p : Pack) : Pack :=
  { p with
    closeReason := some .plan
    state := if 0 < p.bound then .closing else if p.marked then .held else .labelQueued }

/-- The slots of `ks` whose packs have no board bound, with the packs: a close-request closes them at once (R137). -/
def State.closedAtOnce (s : State) (ks : List Nat) : List (Nat × Pack) :=
  ks.filterMap (fun k => (s.pack? k).bind (fun p => if p.bound = 0 then some (k, p) else none))

/-- Packs that close at once: those without a mark join the label queue, the others raise PACK_HELD (R138). -/
def State.afterClosing (s : State) (l : List (Nat × Pack)) : State :=
  { s with
    labels := { s.labels with queue := s.labels.queue ++ (l.filter (fun x => !x.2.marked)).map (·.1) }
    attention := ((l.filter (fun x => x.2.marked)).foldl (fun u x => u.raise .packHeld (.pack x.2.number)) s).attention }

theorem State.afterClosing_nil (s : State) : s.afterClosing [] = s := by
  simp [State.afterClosing]

theorem State.afterClosing_attention (s : State) (l : List (Nat × Pack)) : (s.afterClosing l).attention =
    s.attention.packsHeld ((l.filter (fun x => x.2.marked)).map (fun x => (x.1, x.2.number))) :=
  s.foldl_raise_attention _

theorem State.afterClosing_single (s : State) (k : Nat) (p : Pack) : s.afterClosing [(k, p)] =
    { s with
      labels := { s.labels with queue := s.labels.queue ++ if p.marked then [] else [k] }
      attention := if p.marked then (s.raise .packHeld (.pack p.number)).attention else s.attention } := by
  by_cases h : p.marked = true <;> simp [State.afterClosing, h]

theorem State.closedAtOnce_single {s : State} {k : Nat} {p : Pack} (h : s.pack? k = some p) :
    s.closedAtOnce [k] = if p.bound = 0 then [(k, p)] else [] := by
  rw [State.closedAtOnce, List.filterMap_cons, h, Option.bind_some]
  split_ifs <;> rfl

/-- A CLOSING pack closes as one that its close-request closes at once (R138). -/
theorem State.packClosed_eq_afterClosing (s : State) (k : Nat) (p : Pack) : s.packClosed k p =
    (s.withPack k { p with state := if p.marked then .held else .labelQueued }).afterClosing [(k, p)] := by
  rw [State.afterClosing_single]
  by_cases h : p.marked = true
  · refine (if_pos h).trans ?_
    simp [h, State.raise]
  · refine (if_neg h).trans ?_
    simp [h]

theorem State.withPack_setCurrent_withPack (s : State) (k b : Nat) (o : Option Nat) (p q : Pack) :
    ((s.withPack k p).setCurrent b o).withPack k q = (s.withPack k q).setCurrent b o := by
  simp only [State.withPack, State.setCurrent, List.set_set]

/-- A close-request on a pack that holds a piece or has a board bound: its record, its bin without a current pack,
and the work of the packs that close at once (R137, R138). -/
theorem State.closeRequest_plan {s : State} {k : Nat} {p : Pack} (h : s.pack? k = some p) (hp : 1 ≤ p.pieces + p.bound) :
    s.closeRequest k .plan =
      ((s.withPack k p.planClosed).setCurrent p.bin none).afterClosing (s.closedAtOnce [k]) := by
  rw [State.closeRequest_eq h, State.closedAtOnce_single h]
  generalize hq : ({ p with state := .closing, closeReason := some .plan } : Pack) = q
  by_cases hb : p.bound = 0
  · have hpack : ((s.withPack k q).setCurrent p.bin none).pack? k = some q :=
      (s.pack?_withPack k k _ (State.lt_of_pack? h)).trans (if_pos rfl)
    have hpieces : q.pieces ≠ 0 := by
      rw [← hq]
      dsimp only
      omega
    have hclosed : ({ q with state := if q.marked then .held else .labelQueued } : Pack) = p.planClosed := by
      rw [← hq, Pack.planClosed, if_neg (by omega : ¬0 < p.bound)]
      rfl
    have hwork (t : State) : t.afterClosing [(k, q)] = t.afterClosing [(k, p)] := by
      rw [State.afterClosing_single, State.afterClosing_single, ← hq]
      rfl
    dsimp only
    rw [if_pos hb, if_pos hb, State.closePack_of_pieces hpack hpieces, State.packClosed_eq_afterClosing,
      State.withPack_setCurrent_withPack, hclosed, hwork]
  · have hclosed : p.planClosed = q := by
      rw [← hq, Pack.planClosed, if_pos (Nat.pos_of_ne_zero hb)]
    dsimp only
    rw [if_neg hb, if_neg hb, hclosed, State.afterClosing_nil]

/-! ## The bins one after the other (R123) -/

/-- The current packs of the bins, bins without one passed over (R123). -/
def State.currents (s : State) (bins : List Nat) : List Nat := bins.filterMap s.currentPack

/-- `t` is `s` after a close-request with reason PLAN on the current pack of each of the bins (R123, R137, R138). -/
structure State.PlanClosed (s t : State) (bins : List Nat) : Prop where
  frame : t = { s.afterClosing (s.closedAtOnce (s.currents bins)) with packs := t.packs }
  nextNumber : t.packs.nextNumber = s.packs.nextNumber
  records : t.packs.records.length = 48
  currents : t.packs.current.length = 16
  current : ∀ b, t.currentPack b = if b ∈ bins then none else s.currentPack b
  pack : ∀ k, t.pack? k = (s.pack? k).map (fun p => if k ∈ s.currents bins then p.planClosed else p)

theorem State.BoundBy.congr {s t : State} {ks : List Nat} (h : s.BoundBy ks) (ht : t.packs = s.packs) : t.BoundBy ks := by
  have hpack (k : Nat) : t.pack? k = s.pack? k := by rw [State.pack?, ht, State.pack?]
  have hcurrent (b : Nat) : t.currentPack b = s.currentPack b := by rw [State.currentPack, ht, State.currentPack]
  obtain ⟨h1, h2, h3, h4, h5, h6, h7, h8⟩ := h
  simp only [← hpack, ← hcurrent, ← ht] at h1 h2 h3 h4 h5 h6 h7 h8
  exact ⟨h1, h2, h3, h4, h5, h6, h7, h8⟩

/-- The work of packs that close before others (R157). -/
theorem State.afterClosing_append (s : State) (l r : List (Nat × Pack)) :
    s.afterClosing (l ++ r) = (s.afterClosing l).afterClosing r := by
  have hattention : (s.afterClosing (l ++ r)).attention = ((s.afterClosing l).afterClosing r).attention := by
    simp only [State.afterClosing_attention, List.filter_append, List.map_append, Attention.packsHeld, List.foldl_append]
  have hqueue : (s.afterClosing (l ++ r)).labels = ((s.afterClosing l).afterClosing r).labels := by
    simp [State.afterClosing]
  calc s.afterClosing (l ++ r)
      = { s with labels := (s.afterClosing (l ++ r)).labels, attention := (s.afterClosing (l ++ r)).attention } := rfl
    _ = _ := by rw [hattention, hqueue]; rfl

/-- The Pack Table does not look at the packs' work, nor it at the Pack Table. -/
theorem State.afterClosing_withPacks (s : State) (l : List (Nat × Pack)) (x : PackTable) :
    ({ s with packs := x } : State).afterClosing l = { s.afterClosing l with packs := x } := by
  have hattention := ({ s with packs := x } : State).afterClosing_attention l
  calc ({ s with packs := x } : State).afterClosing l
      = { s.afterClosing l with packs := x, attention := (({ s with packs := x } : State).afterClosing l).attention } := rfl
    _ = _ := by rw [hattention, ← s.afterClosing_attention l]

section Step
variable {s t : State} {ks bins : List Nat} {b : Nat} (h : s.BoundBy ks) (ht : s.PlanClosed t bins)
include h ht

/-- A current pack of another bin is as it was. -/
theorem State.PlanClosed.pack_next {k : Nat} {p : Pack} (hb : b ∉ bins) (hk : s.currentPack b = some k)
    (hp : s.pack? k = some p) : t.pack? k = some p := by
  have hnot : k ∉ s.currents bins := by
    intro hmem
    obtain ⟨c, hc, hck⟩ := List.mem_filterMap.mp hmem
    obtain ⟨q, hq, -, rfl⟩ := h.current b k hk
    obtain ⟨r, hr, -, rfl⟩ := h.current c k hck
    exact hb (Option.some.inj (hq.symm.trans hr) ▸ hc)
  rw [ht.pack, hp, Option.map_some, if_neg hnot]

/-- One bin more, which holds a current pack. -/
theorem State.PlanClosed.step_some {k : Nat} (hb : b ∉ bins) (hk : s.currentPack b = some k) :
    s.PlanClosed (t.closeRequest k .plan) (bins ++ [b]) := by
  obtain ⟨p, hp, hopen, rfl⟩ := h.current b k hk
  have hpt := ht.pack_next h hb hk hp
  obtain ⟨hbin, -⟩ := h.opened k p hp hopen
  have hnext := State.closeRequest_plan hpt (h.filled k p hp hopen)
  have hlist : s.currents (bins ++ [p.bin]) = s.currents bins ++ [k] := by
    simp [State.currents, hk]
  have hsingle : t.closedAtOnce [k] = s.closedAtOnce [k] := by
    rw [State.closedAtOnce_single hpt, State.closedAtOnce_single hp]
  have hpacks : (t.closeRequest k .plan).packs = ((t.withPack k p.planClosed).setCurrent p.bin none).packs := by
    rw [hnext]
    rfl
  refine ⟨?_, ?_, ?_, ?_, fun c => ?_, fun j => ?_⟩
  · have hclosed : s.closedAtOnce (s.currents (bins ++ [p.bin])) =
        s.closedAtOnce (s.currents bins) ++ s.closedAtOnce [k] := by
      rw [hlist, State.closedAtOnce, List.filterMap_append]
      rfl
    have hbefore : (t.withPack k p.planClosed).setCurrent p.bin none =
        { s.afterClosing (s.closedAtOnce (s.currents bins)) with
          packs := ((t.withPack k p.planClosed).setCurrent p.bin none).packs } :=
      congrArg (fun u : State => { u with packs := ((t.withPack k p.planClosed).setCurrent p.bin none).packs }) ht.frame
    rw [hpacks, hnext, hsingle, hclosed, State.afterClosing_append, ← State.afterClosing_withPacks, ← hbefore]
  · rw [hpacks]
    exact ht.nextNumber
  · rw [hpacks]
    exact List.length_set.trans ht.records
  · rw [hpacks]
    exact List.length_set.trans ht.currents
  · rw [State.currentPack, hpacks]
    refine ((t.withPack k p.planClosed).currentPack_setCurrent p.bin c none (ht.currents ▸ hbin)).trans ?_
    have hsame : (t.withPack k p.planClosed).currentPack c = t.currentPack c := rfl
    rw [hsame, ht.current]
    by_cases hc : p.bin = c
    · simp [hc]
    · simp [hc, Ne.symm hc]
  · rw [State.pack?, hpacks, hlist]
    refine (t.pack?_withPack k j p.planClosed (State.lt_of_pack? hpt)).trans ?_
    by_cases hj : k = j
    · subst hj
      simp [hp]
    · simp [hj, Ne.symm hj, ht.pack]

end Step

/-- One bin more, which has no current pack. -/
theorem State.PlanClosed.step_none {s t : State} {bins : List Nat} {b : Nat} (ht : s.PlanClosed t bins)
    (hb : s.currentPack b = none) : s.PlanClosed t (bins ++ [b]) := by
  have hlist : s.currents (bins ++ [b]) = s.currents bins := by
    simp [State.currents, hb]
  obtain ⟨hframe, hnext, hrecords, hcurrents, hcurrent, hpack⟩ := ht
  refine ⟨hlist ▸ hframe, hnext, hrecords, hcurrents, fun c => ?_, hlist ▸ hpack⟩
  rw [hcurrent]
  by_cases hc : c = b
  · simp [hc, hb]
  · simp [hc]

theorem State.BoundBy.planClosed_nil {s : State} {ks : List Nat} (h : s.BoundBy ks) : s.PlanClosed s [] := by
  refine ⟨?_, rfl, h.records, h.currents, fun b => rfl, fun k => ?_⟩
  · exact s.afterClosing_nil.symm
  · exact Option.map_id'.symm

/-- The close-requests bin by bin, and how many packs they were on (R123). -/
theorem State.BoundBy.foldl_closeForPlan {s : State} {ks : List Nat} (h : s.BoundBy ks) {bins : List Nat}
    (hbins : bins.Nodup) : s.PlanClosed (bins.foldl closeForPlan (s, 0)).1 bins ∧
      (bins.foldl closeForPlan (s, 0)).2 = (s.currents bins).length := by
  induction bins using List.reverseRecOn with
  | nil => exact ⟨h.planClosed_nil, rfl⟩
  | append_singleton bins b ih =>
    obtain ⟨hdistinct, -, hnew⟩ := List.nodup_append.mp hbins
    have hb : b ∉ bins := fun hmem => hnew b hmem b List.mem_cons_self rfl
    obtain ⟨ht, hn⟩ := ih hdistinct
    rw [List.foldl_append, List.foldl_cons, List.foldl_nil]
    generalize bins.foldl closeForPlan (s, 0) = acc at ht hn
    have hcurrent : acc.1.currentPack b = s.currentPack b := by rw [ht.current, if_neg hb]
    have hcount : (s.currents (bins ++ [b])).length = (s.currents bins).length + (s.currentPack b).toList.length := by
      rw [State.currents, List.filterMap_append, List.length_append]
      rcases hk : s.currentPack b with _ | k <;> simp [State.currents, hk]
    rw [closeForPlan, hcurrent, hcount]
    rcases hk : s.currentPack b with _ | k
    · exact ⟨ht.step_none hk, hn⟩
    · exact ⟨ht.step_some h hb hk, congrArg (· + 1) hn⟩

/-! ## PLAN_SWITCH (R122) -/

/-- The state with the plan slots switched: the shadow slot ACTIVE, and the former slot DRAINING or empty (R122). -/
def State.switched (s : State) : State :=
  (s.setPlanSlot s.shadowSlot { s.sorter.slot s.shadowSlot with role := .active }).setPlanSlot (1 - s.shadowSlot)
    (if 0 < (s.sorter.slot (1 - s.shadowSlot)).decided
      then { s.sorter.slot (1 - s.shadowSlot) with role := .draining } else ⟨.shadow, none, 0⟩)

/-- The bins that build under the former plan and not under the new one (R123). -/
def stoppedBins (former new : Plan) : List Nat :=
  (List.range 16).filter (fun b => former.building.contains b && !new.building.contains b)

theorem Sorter.activeSlot_eq (s : State) : s.sorter.activeSlot = 1 - s.shadowSlot := by
  unfold Sorter.activeSlot State.shadowSlot
  split <;> rfl

theorem Sorter.planOf_eq {t : Sorter} {n : Nat} {pl : Plan} (h : (t.slot n).plan = some pl) : t.planOf n = pl := by
  rw [Sorter.planOf, h, Option.getD_some]

theorem planSwitch_draining {s : State} (h : s.sorter.draining = true) : planSwitch [] s = .refuse .busy :=
  (if_neg (by simp)).trans (if_pos h)

section Switch
variable {s : State} (hd : ¬s.sorter.draining = true)
include hd

theorem planSwitch_empty (h : (s.sorter.slot s.shadowSlot).plan = none) : planSwitch [] s = .refuse .noSuch := by
  refine (if_neg (by simp)).trans ((if_neg hd).trans ?_)
  have hfill : (s.sorter.slot s.shadowSlot).fill = .empty := by rw [PlanSlot.fill, h]
  rw [Sorter.otherSlot_eq_shadowSlot]
  dsimp only
  rw [hfill]

variable {former new : Plan} (h : (s.sorter.slot s.shadowSlot).plan = some new)
include h

theorem planSwitch_loading (hl : new.rules.length < new.ruleCount) : planSwitch [] s = .refuse .wrongState := by
  refine (if_neg (by simp)).trans ((if_neg hd).trans ?_)
  rw [Sorter.otherSlot_eq_shadowSlot]
  dsimp only
  rw [PlanSlot.fill_eq h, if_pos hl]

theorem planSwitch_loaded (hl : ¬new.rules.length < new.ruleCount)
    (hf : (s.sorter.slot (1 - s.shadowSlot)).plan = some former) :
    planSwitch [] s =
      let r := (stoppedBins former new).foldl closeForPlan (s.switched, 0)
      .ok (bytes 1 s.shadowSlot ++ bytes 1 (if 0 < (s.sorter.slot (1 - s.shadowSlot)).decided then 3 else 2) ++
        bytes 1 r.2) r.1 := by
  have hrole : (if 0 < (s.sorter.slot (1 - s.shadowSlot)).decided
      then { s.sorter.slot (1 - s.shadowSlot) with role := .draining } else (⟨.shadow, none, 0⟩ : PlanSlot)).role.code =
        if 0 < (s.sorter.slot (1 - s.shadowSlot)).decided then 3 else 2 := by
    split <;> rfl
  refine (if_neg (by simp)).trans ((if_neg hd).trans ?_)
  rw [Sorter.otherSlot_eq_shadowSlot, Sorter.activeSlot_eq]
  dsimp only
  rw [PlanSlot.fill_eq h, if_neg hl]
  dsimp only
  rw [hrole, Sorter.planOf_eq h, Sorter.planOf_eq hf]
  rfl

end Switch

/-- Settles O45: the refusals, then the close-requests bin by bin on the state with the slots switched. -/
theorem planSwitchActivatesTheShadowPlan : Obligations.PlanSwitchActivatesTheShadowPlan := by
  unfold Obligations.PlanSwitchActivatesTheShadowPlan
  intro s hr n a draining
  have hx : Reaches .planSwitch 113 planSwitch s := fun _ _ => rfl
  have hdrain : s.sorter.draining = true ↔ draining := s.sorter.draining_iff
  refine ⟨fun hd => hx.refused hr (by simp) (planSwitch_draining (hdrain.mpr hd)),
    fun hd he => hx.refused hr (by simp) (planSwitch_empty (hdrain.not.mpr hd) he),
    fun new hd hp hl => hx.refused hr (by simp) (planSwitch_loading (hdrain.not.mpr hd) hp hl), ?_⟩
  intro former new hd hok ha hp hl marked stops closing ended drains
  obtain ⟨-, hformer⟩ := id ha
  have hloaded := planSwitch_loaded (hdrain.not.mpr hd) hp (Nat.not_lt.mpr hl) hformer
  have hbound : s.switched.BoundBy _ := hok.boundBy.congr rfl
  obtain ⟨ht, hcount⟩ := hbound.foldl_closeForPlan (bins := stoppedBins former new) (List.nodup_range.filter _)
  generalize (stoppedBins former new).foldl closeForPlan (s.switched, 0) = r at hloaded ht hcount
  obtain ⟨hframe, hnext, hrecords, hcurrents, hcurrent, hpack⟩ := ht
  have hclosing : s.switched.currents (stoppedBins former new) = closing := List.filterMap_filter
  have hended : s.switched.closedAtOnce closing = ended := rfl
  rw [hclosing] at hframe hcount hpack
  rw [hended] at hframe
  have hattention : (s.switched.afterClosing ended).attention =
      ((ended.filter (fun x => marked x.2)).foldl (fun u x => u.raise .packHeld (.pack x.2.number)) s).attention := by
    rw [State.afterClosing_attention, State.foldl_raise_attention]
    rfl
  refine ⟨r.1, hx.answers hr (by simp) (hcount ▸ hloaded), ?_, hrecords, hcurrents, fun b => ?_, hpack⟩
  · rw [← hattention, show s.packs.nextNumber = r.1.packs.nextNumber from hnext.symm]
    exact hframe
  · have hstops : b ∈ stoppedBins former new ↔ stops b = true := by
      rw [stoppedBins, List.mem_filter, List.mem_range]
      refine and_iff_right_of_imp fun hb => ?_
      obtain ⟨-, -, -, hbuilding, -⟩ := hok.plan_ok ha
      obtain ⟨hformerBuilds, -⟩ := Bool.and_eq_true_iff.mp hb
      exact hbuilding b (by simpa using hformerBuilds)
    simp only [hcurrent, hstops]
    rfl

end Sys2Proof.Machine
end

section
/-! PACK_CLOSE, PACK_RELEASE, PACK_REJECT, PACK_RETIRE and PACK_NUMBER_SET. -/

namespace Sys2Proof.Machine

/-! ## The number that a pack request carries (R141) -/

theorem badPackNumber_iff {n : Nat} : badPackNumber n = true ↔ n = 0 ∨ 999999 < n := by
  simp [badPackNumber]

theorem field_packNumber {n : Nat} (h : n ≤ 16777215) : field (bytes 3 n) 0 3 = n := by
  rw [field_bytes_zero]
  exact Nat.mod_eq_of_lt (by omega)

section Number
variable {s : State} {n : Nat} (h : n ≤ 16777215)
include h

theorem onPack_bad (hn : n = 0 ∨ 999999 < n) (f : Nat → Pack → Reply) : onPack (bytes 3 n) s f = .refuse .badField := by
  rw [onPack, if_neg (by simp), field_packNumber h]
  exact if_pos (badPackNumber_iff.mpr hn)

theorem onPack_none (hn : ¬(n = 0 ∨ 999999 < n)) (hno : s.NoPack n) (f : Nat → Pack → Reply) :
    onPack (bytes 3 n) s f = .refuse .noSuch := by
  have hfind : s.findPack n = none := by
    simpa using State.findPack_isSome_iff.not_left.mpr hno
  rw [onPack, if_neg (by simp), field_packNumber h]
  refine (if_neg (badPackNumber_iff.not.mpr hn)).trans ?_
  rw [hfind]

theorem packNumberSet_bytes : packNumberSet (bytes 3 n) s =
    if n = 0 ∨ 999999 < n then .refuse .badField
    else .ok (bytes 3 n) { s with packs := { s.packs with nextNumber := n } } := by
  rw [packNumberSet, if_neg (by simp), field_packNumber h]
  simp only [badPackNumber_iff]

end Number

/-! ## The close-request of a pack (R137, R138) -/

/-- The record that a pack takes when it closes replaces whatever stood in its slot. -/
theorem State.packClosed_withPack (s : State) (slot b : Nat) (p q : Pack) :
    ((s.withPack slot q).setCurrent b none).packClosed slot p = (s.setCurrent b none).packClosed slot p := by
  simp only [State.packClosed_eq_afterClosing, State.withPack_setCurrent_withPack]
  rfl

theorem State.pack?_packClosed (s : State) {slot : Nat} (h : slot < s.packs.records.length) (p : Pack) :
    (s.packClosed slot p).pack? slot = some { p with state := if p.marked then .held else .labelQueued } := by
  rw [State.packClosed_eq_afterClosing]
  exact (State.pack?_withPack s slot slot _ h).trans (if_pos rfl)

/-- The record of a pack that its close-request makes CLOSING (R137). -/
def Pack.asked (p : Pack) (why : CloseReason) : Pack := { p with state := .closing, closeReason := some why }

/-- A close-request on a pack with boards bound to it (R137). -/
theorem State.closeRequest_bound {s : State} {slot : Nat} {p : Pack} (h : s.pack? slot = some p) (hb : 0 < p.bound)
    (why : CloseReason) : s.closeRequest slot why = (s.withPack slot (p.asked why)).setCurrent p.bin none := by
  rw [State.closeRequest_eq h]
  exact if_neg (Nat.ne_of_gt hb)

/-- A close-request on a pack with pieces and no board bound closes it at once (R137, R138). -/
theorem State.closeRequest_unbound {s : State} {slot : Nat} {p : Pack} (h : s.pack? slot = some p) (hb : p.bound = 0)
    (hz : 0 < p.pieces) (why : CloseReason) : s.closeRequest slot why =
      (s.setCurrent p.bin none).packClosed slot (p.asked why) := by
  have hclosing : ((s.withPack slot (p.asked why)).setCurrent p.bin none).pack? slot = some (p.asked why) :=
    (State.pack?_withPack s slot slot _ (State.lt_of_pack? h)).trans (if_pos rfl)
  rw [State.closeRequest_eq h]
  refine (if_pos hb).trans ((State.closePack_of_pieces hclosing (Nat.ne_of_gt hz)).trans ?_)
  exact s.packClosed_withPack slot p.bin _ _

/-! ## The owners on the pack that the number names -/

section Named
variable {s : State} {n slot : Nat} {p : Pack} (h1 : 1 ≤ n) (h2 : n ≤ 999999) (hp : s.OnlyPack n slot p)
include h1 h2 hp

theorem packClose_bytes : packClose (bytes 3 n) s =
    if p.state ≠ .opened then .refuse .wrongState
    else .ok (bytes 1 (((s.closeRequest slot .request).pack? slot).elim PackState.closing (·.state)).code ++ bytes 1 p.bound)
      (s.closeRequest slot .request) := onPack_only h1 h2 hp _

/-- PACK_CLOSE on an OPEN pack with boards bound to it (R144). -/
theorem packClose_bound (ho : p.state = .opened) (hb : 0 < p.bound) : packClose (bytes 3 n) s =
    .ok ([2] ++ bytes 1 p.bound) ((s.withPack slot (p.asked .request)).setCurrent p.bin none) := by
  obtain ⟨hslot, -⟩ := id hp
  have hclosing : ((s.withPack slot (p.asked .request)).setCurrent p.bin none).pack? slot = some (p.asked .request) :=
    (State.pack?_withPack s slot slot _ (State.lt_of_pack? hslot)).trans (if_pos rfl)
  rw [packClose_bytes h1 h2 hp, if_neg (not_not_intro ho), State.closeRequest_bound hslot hb, hclosing]
  simp [Pack.asked, PackState.code, bytes_one]

/-- PACK_CLOSE on an OPEN pack with pieces and no board bound (R144). -/
theorem packClose_unbound (ho : p.state = .opened) (hb : p.bound = 0) (hz : 0 < p.pieces) : packClose (bytes 3 n) s =
    .ok [if p.quarantine || p.quarantineMix then 7 else 3, 0]
      ((s.setCurrent p.bin none).packClosed slot (p.asked .request)) := by
  obtain ⟨hslot, -⟩ := id hp
  have hclosed := (s.setCurrent p.bin none).pack?_packClosed (State.lt_of_pack? hslot) (p.asked .request)
  have hcode : (if (p.asked .request).marked then PackState.held else PackState.labelQueued).code =
      if p.quarantine || p.quarantineMix then 7 else 3 := apply_ite PackState.code _ _ _
  rw [packClose_bytes h1 h2 hp, if_neg (not_not_intro ho), State.closeRequest_unbound hslot hb hz, hclosed,
    Option.elim_some, hcode, hb]
  congr 1
  split <;> simp [bytes_one]

theorem packRelease_bytes : packRelease (bytes 3 n) s =
    if p.state ≠ .held then .refuse .wrongState else .ok [] (s.queueTail slot) := onPack_only h1 h2 hp _

theorem packReject_bytes : packReject (bytes 3 n) s =
    if p.state ≠ .held then .refuse .wrongState
    else .ok [] (s.modifyPack slot (fun p => { p with state := .rejected })) := onPack_only h1 h2 hp _

theorem packRetire_bytes : packRetire (bytes 3 n) s =
    if p.state ≠ .labelled ∧ p.state ≠ .rejected then .refuse .wrongState
    else .ok (bytes 1 p.charges.length) ((s.lowerPackRefs p.charges).freePack slot) := onPack_only h1 h2 hp _

end Named

/-! ## PACK_RETIRE (R147) -/

/-- The charges of a charge set lose a pack reference each, and nothing else changes (R16). -/
theorem State.lowerPackRefs_eq (s : State) (l : List Nat) :
    s.lowerPackRefs l = { s with charges := (s.lowerPackRefs l).charges } ∧
      (s.lowerPackRefs l).charges.length = s.charges.length := by
  unfold State.lowerPackRefs
  induction l generalizing s with
  | nil => exact ⟨rfl, rfl⟩
  | cons i l ih =>
    obtain ⟨hframe, hlen⟩ := ih (s.modifyCharge i (fun ch => { ch with packRef := ch.packRef - 1 }))
    exact ⟨hframe, hlen.trans (List.length_modify _ _ _)⟩

/-! ## The requests (R141, R144 to R148) -/

/-- Settles O47: the number's range first, then the lookup, then the state of the pack that it names. -/
theorem packRequestsChangeTheNamedPack : Obligations.PackRequestsChangeTheNamedPack := by
  unfold Obligations.PackRequestsChangeTheNamedPack
  intro s n hr hn
  have hlen : (bytes 3 n).length ≤ 250 := by simp
  have hread : Reaches .packRead 128 packRead s := fun _ _ => rfl
  have hclose : Reaches .packClose 130 packClose s := fun _ _ => rfl
  have hrelease : Reaches .packRelease 131 packRelease s := fun _ _ => rfl
  have hreject : Reaches .packReject 132 packReject s := fun _ _ => rfl
  have hretire : Reaches .packRetire 133 packRetire s := fun _ _ => rfl
  have hset : Reaches .packNumberSet 134 packNumberSet s := fun _ _ => rfl
  have hreprint : Reaches .labelReprint 146 labelReprint s := fun _ _ => rfl
  have hnumber := packNumberSet_bytes (s := s) hn
  refine ⟨fun hbad => ?_, fun h1 h2 => ⟨?_, fun hno => ?_, fun slot p hp => ?_⟩⟩
  · have hfield := onPack_bad (s := s) hn hbad
    exact ⟨hread.refused hr hlen (hfield _), hclose.refused hr hlen (hfield _), hrelease.refused hr hlen (hfield _),
      hreject.refused hr hlen (hfield _), hretire.refused hr hlen (hfield _),
      hset.refused hr hlen (hnumber.trans (if_pos hbad)), hreprint.refused hr hlen (hfield _)⟩
  · exact hset.answers hr hlen (hnumber.trans (if_neg (by omega)))
  · have hnone := onPack_none (s := s) hn (by omega) hno
    exact ⟨hread.refused hr hlen (hnone _), hclose.refused hr hlen (hnone _), hrelease.refused hr hlen (hnone _),
      hreject.refused hr hlen (hnone _), hretire.refused hr hlen (hnone _), hreprint.refused hr hlen (hnone _)⟩
  · obtain ⟨hslot, -⟩ := id hp
    have hrel := packRelease_bytes h1 h2 hp
    have hrej := packReject_bytes h1 h2 hp
    have hret := packRetire_bytes h1 h2 hp
    refine ⟨fun ho hb => hclose.answers hr hlen (packClose_bound h1 h2 hp ho hb),
      fun ho hb hz => hclose.answers hr hlen (packClose_unbound h1 h2 hp ho hb hz),
      fun ho => hclose.refused hr hlen ((packClose_bytes h1 h2 hp).trans (if_pos ho)), fun hh => ⟨?_, ?_⟩,
      fun hh => ⟨hrelease.refused hr hlen (hrel.trans (if_pos hh)), hreject.refused hr hlen (hrej.trans (if_pos hh))⟩,
      fun hst hnodup => ?_, fun hl hj => hretire.refused hr hlen (hret.trans (if_pos ⟨hl, hj⟩))⟩
    · exact hrelease.answers hr hlen (hrel.trans ((if_neg (not_not_intro hh)).trans (by rw [State.queueTail_eq hslot])))
    · exact hreject.answers hr hlen
        (hrej.trans ((if_neg (not_not_intro hh)).trans (by rw [State.modifyPack_eq_withPack hslot])))
    · obtain ⟨hframe, hcharges⟩ := s.lowerPackRefs_eq p.charges
      refine ⟨s.lowerPackRefs p.charges, hcharges, State.charge?_lowerPackRefs hnodup s, hretire.answers hr hlen ?_⟩
      rw [hret, if_neg (by tauto), hframe]
      rfl

end Sys2Proof.Machine
end

section
/-! The agreement of packs, transit queue and labels, said of each slot of the Pack Table. -/

namespace Sys2Proof.Machine

/-! ## One pack record (R132) -/

/-- How many boards in transit are bound to the pack of a slot (R132, R135). -/
def State.boundTo (s : State) (i : Nat) : Nat := s.decidedCount (fun d => d.packSlot = some i)

/-- Bound count, pieces and target of a pack agree with its state (R132, R135, R137). -/
structure Pack.PhaseOk (p : Pack) : Prop where
  bound : 0 < p.bound → p.state = .opened ∨ p.state = .closing
  closing : p.state = .closing → 0 < p.bound
  opened : p.state = .opened → 1 ≤ p.pieces + p.bound ∧ p.pieces + p.bound < p.target
  target : p.pieces + p.bound ≤ p.target

/-- The tally counts the pieces, tally and grade set ascend, and the number is in range (R132, R136, R139). -/
structure Pack.ContentOk (p : Pack) : Prop where
  pieces : p.pieces = (p.tally.map (·.2)).sum
  tally : p.tally.Pairwise (fun x y => x.1 < y.1)
  counts : ∀ x ∈ p.tally, 1 ≤ x.2
  grades : p.grades.Pairwise (· < ·)
  number : 1 ≤ p.number ∧ p.number ≤ 999999

/-- The record of a slot to which `n` boards in transit are bound. -/
def SlotOk (n : Nat) : Option Pack → Prop
  | none => n = 0
  | some p => p.bound = n ∧ p.PhaseOk ∧ p.ContentOk

/-- The record is an OPEN pack of the bin. -/
def OpenFor (o : Option Pack) (b : Nat) : Prop := ∃ p, o = some p ∧ p.state = .opened ∧ p.bin = b

/-- The current packs and the OPEN packs are the same (R131, R132). -/
def State.CurrentOk (s : State) : Prop := ∀ b i, s.currentPack b = some i ↔ OpenFor (s.pack? i) b

theorem packOk_iff {s : State} {i : Nat} {p : Pack} : PackOk s i p ↔ SlotOk (s.boundTo i) (some p) :=
  ⟨fun ⟨h1, h2, h3, h4, h5, h6, h7, h8, h9, h10⟩ => ⟨h1, ⟨h2, h3, h4, h5⟩, h6, h7, h8, h9, h10⟩,
    fun ⟨h1, ⟨h2, h3, h4, h5⟩, h6, h7, h8, h9, h10⟩ => ⟨h1, h2, h3, h4, h5, h6, h7, h8, h9, h10⟩⟩

/-! ## The Pack Table and the transit queue (R131 to R137) -/

/-- What the Pack Table, the transit queue and the plans say of each slot, bin and plan slot. -/
structure PackTableOk (s : State) : Prop where
  queue : QueueOk s
  plans : ∀ n pl, (s.sorter.slot n).plan = some pl → pl.Ok
  records : s.packs.records.length = Config.packSlots
  currents : s.packs.current.length = Config.bins
  slots : ∀ i, SlotOk (s.boundTo i) (s.pack? i)
  current : s.CurrentOk
  numbers : ∀ i j p q, s.pack? i = some p → s.pack? j = some q → p.number = q.number → i = j
  next : 1 ≤ s.packs.nextNumber ∧ s.packs.nextNumber ≤ 999999

theorem State.boundTo_pos {s : State} {i : Nat} :
    0 < s.boundTo i ↔ ∃ e ∈ s.tracker.queue, ∃ d, e.decision = some d ∧ d.packSlot = some i := by
  simp [State.boundTo, State.decidedCount, List.countP_pos_iff, Option.any_eq_true]

theorem currentPacksOk_iff {s : State} : CurrentPacksOk s ↔
    s.packs.records.length = Config.packSlots ∧ s.packs.current.length = Config.bins ∧ s.CurrentOk := by
  have hany (i b : Nat) : (s.pack? i).any (fun p => p.state = .opened ∧ p.bin = b) = true ↔ OpenFor (s.pack? i) b := by
    simp [OpenFor, Option.any_eq_true]
  refine and_congr_right fun hrecords => and_congr_right fun hcurrents => ?_
  have hbin {b i : Nat} (h : s.currentPack b = some i) : b < Config.bins := by
    by_contra hge
    rw [State.currentPack, List.getElem?_eq_none (by rw [hcurrents]; exact Nat.le_of_not_lt hge)] at h
    cases h
  constructor
  · rintro ⟨hcurrent, hopened⟩ b i
    refine ⟨fun h => (hany i b).mp (hcurrent b (hbin h) i (Option.mem_toList.mpr h)), ?_⟩
    rintro ⟨p, hp, ho, rfl⟩
    exact (hopened i (hrecords ▸ State.lt_of_pack? hp) p (Option.mem_toList.mpr hp) ho).2
  · refine fun h => ⟨fun b _ i hi => (hany i b).mpr ((h b i).mp (Option.mem_toList.mp hi)), fun i _ p hp ho => ?_⟩
    have hcur := (h p.bin i).mpr ⟨p, Option.mem_toList.mp hp, ho, rfl⟩
    exact ⟨hbin hcur, hcur⟩

theorem plansOk_iff {s : State} : (∀ pl ∈ s.sorter.slot0.plan.toList ++ s.sorter.slot1.plan.toList, pl.Ok) ↔
    ∀ n pl, (s.sorter.slot n).plan = some pl → pl.Ok := by
  simp only [List.mem_append, Option.mem_toList]
  refine ⟨fun h n pl hp => h pl ?_, fun h pl hp => hp.elim (h 0 pl) (h 1 pl)⟩
  unfold Sorter.slot at hp
  split at hp
  · exact .inl hp
  · exact .inr hp

theorem slotsOk_iff {s : State} (hlen : s.packs.records.length = Config.packSlots) :
    ((∀ i < Config.packSlots, ∀ p ∈ (s.pack? i).toList, PackOk s i p) ∧
      ∀ e ∈ s.tracker.queue, ∀ d ∈ e.decision.toList, ∀ i ∈ d.packSlot.toList, (s.pack? i).isSome = true) ↔
    ∀ i, SlotOk (s.boundTo i) (s.pack? i) := by
  constructor
  · rintro ⟨hpacks, hlive⟩ i
    rcases hp : s.pack? i with _ | p
    · refine Nat.eq_zero_of_not_pos fun hpos => ?_
      obtain ⟨e, he, d, hd, hdi⟩ := State.boundTo_pos.mp hpos
      have := hlive e he d (Option.mem_toList.mpr hd) i (Option.mem_toList.mpr hdi)
      simp [hp] at this
    · exact packOk_iff.mp (hpacks i (hlen ▸ State.lt_of_pack? hp) p (Option.mem_toList.mpr hp))
  · refine fun h => ⟨fun i _ p hp => ?_, fun e he d hd i hi => ?_⟩
    · have := h i
      rw [Option.mem_toList.mp hp] at this
      exact packOk_iff.mpr this
    · have hpos := State.boundTo_pos.mpr ⟨e, he, d, Option.mem_toList.mp hd, Option.mem_toList.mp hi⟩
      have hslot := h i
      rcases hp : s.pack? i with _ | p
      · rw [hp] at hslot
        exact absurd hslot (Nat.ne_of_gt hpos)
      · rfl

theorem packsOk_iff {s : State} : PacksOk s ↔ PackTableOk s := by
  constructor
  · rintro ⟨hqueue, hcurrent, hplans, hpacks, hlive, hnumbers, hnext⟩
    obtain ⟨hrecords, hcurrents, hcur⟩ := currentPacksOk_iff.mp hcurrent
    exact ⟨hqueue, plansOk_iff.mp hplans, hrecords, hcurrents, (slotsOk_iff hrecords).mp ⟨hpacks, hlive⟩, hcur,
      (nodup_numbers_iff Pack.number s.packs.records).mp hnumbers, hnext⟩
  · rintro ⟨hqueue, hplans, hrecords, hcurrents, hslots, hcur, hnumbers, hnext⟩
    obtain ⟨hpacks, hlive⟩ := (slotsOk_iff hrecords).mpr hslots
    exact ⟨hqueue, currentPacksOk_iff.mpr ⟨hrecords, hcurrents, hcur⟩, plansOk_iff.mpr hplans, hpacks, hlive,
      (nodup_numbers_iff Pack.number s.packs.records).mpr hnumbers, hnext⟩

/-! ## The label side (R157 to R162) -/

/-- The packs in the frames are the ones that are ready or print, each in one frame (R159). -/
structure FramesOk (s : State) : Prop where
  frames : ∀ n < 2, FrameOk s (s.labels.frame n)
  apart : ∀ n < 2, ∀ m < 2, ∀ i, (s.labels.frame n).pack = some i → (s.labels.frame m).pack = some i → n = m
  placed : ∀ i, s.packIs i .labelReady = true ∨ s.packIs i .printing = true → ∃ n < 2, (s.labels.frame n).pack = some i

/-- Port, cursor, bit count and timeouts agree with the frames (R160 to R163, R185). -/
structure LabelPortOk (l : Labels) : Prop where
  printing : l.port = .printing ↔ ∃ n < 2, (l.frame n).state = .printing
  single : ∀ n < 2, ∀ m < 2, (l.frame n).state = .printing → (l.frame m).state = .printing → n = m
  pass : l.passTimeout.isSome = true ↔ l.port = .printing
  cursor : l.cursor ≤ Config.frameRows
  bitCount : l.bitCount < 320
  templates : l.templates.length = Config.templates
  timeout : 1 ≤ l.timeout ∧ l.timeout ≤ 60

/-- The label queue holds the packs that wait, and the ready list the READY frames (R157, R159, R160). -/
structure LabelSideOk (s : State) : Prop where
  distinct : s.labels.queue.Nodup
  queue : ∀ i, i ∈ s.labels.queue ↔ s.packIs i .labelQueued = true
  readyDistinct : s.labels.ready.Nodup
  ready : ∀ n, n ∈ s.labels.ready ↔ n < 2 ∧ (s.labels.frame n).state = .ready
  frames : FramesOk s
  port : LabelPortOk s.labels

theorem forall_lt_two {P : Nat → Prop} : (∀ n < 2, P n) ↔ P 0 ∧ P 1 :=
  ⟨fun h => ⟨h 0 (by decide), h 1 (by decide)⟩, fun ⟨h0, h1⟩ n hn => by
    interval_cases n
    · exact h0
    · exact h1⟩

theorem exists_lt_two {P : Nat → Prop} : (∃ n < 2, P n) ↔ P 0 ∨ P 1 := by
  constructor
  · rintro ⟨n, hn, h⟩
    interval_cases n
    · exact .inl h
    · exact .inr h
  · exact fun h => h.elim (fun h => ⟨0, by decide, h⟩) fun h => ⟨1, by decide, h⟩

@[simp] theorem Labels.frame_zero (l : Labels) : l.frame 0 = l.frame0 := rfl

@[simp] theorem Labels.frame_one (l : Labels) : l.frame 1 = l.frame1 := rfl

theorem State.lt_of_packIs {s : State} {i : Nat} {st : PackState} (h : s.packIs i st = true) :
    i < s.packs.records.length := by
  obtain ⟨p, hp, -⟩ := (Option.any_eq_true _ _).mp h
  exact State.lt_of_pack? hp

theorem labelsOk_iff {s : State} : LabelsOk s ↔ CurrentPacksOk s ∧ LabelSideOk s := by
  refine and_congr_right fun hcur => ?_
  obtain ⟨hrecords, -⟩ := hcur
  have hlt {i : Nat} {st : PackState} (h : s.packIs i st = true) : i < Config.packSlots := hrecords ▸ State.lt_of_packIs h
  constructor
  · rintro ⟨hq, hr, hmem, hin, h0, h1, hlt2, hready, hdistinct, hplaced, hport, hsingle, hpass, hcursor, hbits,
      htemplates, htimeout⟩
    refine ⟨hq, fun i => ⟨hmem i, fun h => hin i (hlt h) h⟩, hr,
      fun n => ⟨fun h => ⟨hlt2 n h, (hready n (hlt2 n h)).mp h⟩, fun ⟨hn, h⟩ => (hready n hn).mpr h⟩,
      ⟨forall_lt_two.mpr ⟨h0, h1⟩, ?_, fun i h => exists_lt_two.mpr (hplaced i (h.elim hlt hlt) h)⟩,
      ⟨hport.trans (exists_lt_two (P := fun n => (s.labels.frame n).state = .printing)).symm, ?_, hpass, hcursor, hbits, htemplates, htimeout⟩⟩
    · simp only [forall_lt_two, Labels.frame_zero, Labels.frame_one, Option.mem_toList] at hdistinct ⊢
      exact ⟨⟨fun _ _ _ => trivial, fun i h h' => absurd h' (hdistinct i h)⟩,
        fun i h h' => absurd h (hdistinct i h'), fun _ _ _ => trivial⟩
    · simp only [forall_lt_two, Labels.frame_zero, Labels.frame_one]
      exact ⟨⟨fun _ _ => trivial, fun h h' => absurd ⟨h, h'⟩ hsingle⟩, fun h h' => absurd ⟨h', h⟩ hsingle,
        fun _ _ => trivial⟩
  · rintro ⟨hq, hmem, hr, hready, ⟨hframes, hapart, hplaced⟩, hport, hsingle, hpass, hcursor, hbits, htemplates, htimeout⟩
    obtain ⟨h0, h1⟩ := forall_lt_two.mp hframes
    refine ⟨hq, hr, fun i => (hmem i).mp, fun i _ => (hmem i).mpr, h0, h1, fun n h => ((hready n).mp h).1,
      fun n hn => (hready n).trans (and_iff_right hn), fun i h h' => ?_, fun i _ h => exists_lt_two.mp (hplaced i h),
      hport.trans exists_lt_two, fun ⟨h, h'⟩ => ?_, hpass, hcursor, hbits, htemplates, htimeout⟩
    · exact absurd (hapart 0 (by decide) 1 (by decide) i (Option.mem_toList.mp h) h') (by decide)
    · exact absurd (hsingle 0 (by decide) 1 (by decide) h h') (by decide)

/-- Packs, transit queue, plans and labels are in agreement. -/
structure PackSideOk (s : State) : Prop where
  table : PackTableOk s
  labels : LabelSideOk s

theorem packSideOk_iff {s : State} : PacksOk s ∧ LabelsOk s ↔ PackSideOk s := by
  rw [packsOk_iff, labelsOk_iff, currentPacksOk_iff]
  exact ⟨fun ⟨ht, _, hl⟩ => ⟨ht, hl⟩, fun ⟨ht, hl⟩ => ⟨ht, ⟨ht.records, ht.currents, ht.current⟩, hl⟩⟩

end Sys2Proof.Machine
end

section
/-! One record of the Pack Table replaced: what the other slots, the current packs and the labels keep. -/

namespace Sys2Proof.Machine

section Replace
variable {s t : State} {i : Nat} {o : Option Pack}

theorem State.pack?_set (hi : i < s.packs.records.length) (ht : t.packs.records = s.packs.records.set i o) (j : Nat) :
    t.pack? j = if i = j then o else s.pack? j := by
  rw [State.pack?, ht]
  exact join_set s.packs.records i j o hi

theorem State.packIs_set (hi : i < s.packs.records.length) (ht : t.packs.records = s.packs.records.set i o) (j : Nat)
    (st : PackState) : t.packIs j st = if i = j then o.any (fun p => p.state = st) else s.packIs j st := by
  rw [State.packIs, State.pack?_set hi ht]
  split <;> rfl

theorem State.boundTo_congr (h : t.tracker = s.tracker) (j : Nat) : t.boundTo j = s.boundTo j := by
  rw [State.boundTo, State.boundTo, State.decidedCount, State.decidedCount, h]

/-! ## The current packs (R131) -/

section Current
variable (h : s.CurrentOk) (hpack : ∀ j, t.pack? j = if i = j then o else s.pack? j)
include h hpack

theorem State.CurrentOk.same (hc : t.packs.current = s.packs.current) (ho : ∀ b, OpenFor o b ↔ OpenFor (s.pack? i) b) :
    t.CurrentOk := by
  intro b j
  rw [State.currentPack, hc, hpack]
  refine (h b j).trans ?_
  split
  · subst_vars
    exact (ho b).symm
  · rfl

/-- An OPEN pack stops being its bin's current pack (R137). -/
theorem State.CurrentOk.ended {p : Pack} (hp : s.pack? i = some p) (hst : p.state = .opened)
    (hc : t.packs.current = s.packs.current.set p.bin none) (ho : ∀ b, ¬OpenFor o b) : t.CurrentOk := by
  have hown : s.currentPack p.bin = some i := (h p.bin i).mpr ⟨p, hp, hst, rfl⟩
  have hlt : p.bin < s.packs.current.length := by
    by_contra hge
    rw [State.currentPack, List.getElem?_eq_none (Nat.le_of_not_lt hge)] at hown
    cases hown
  intro b j
  rw [State.currentPack, hc, join_set _ _ _ _ hlt, hpack]
  by_cases hb : p.bin = b
  · subst hb
    rw [if_pos rfl]
    refine iff_of_false nofun ?_
    split
    · exact ho _
    · intro hj
      exact ‹i ≠ j› (Option.some.inj (hown.symm.trans ((h _ j).mpr hj)))
  · rw [if_neg hb]
    refine (h b j).trans ?_
    split
    · subst_vars
      refine iff_of_false ?_ (ho b)
      rintro ⟨q, hq, -, rfl⟩
      exact hb (congrArg Pack.bin (Option.some.inj (hp.symm.trans hq)))
    · rfl

/-- A pack becomes the current pack of a bin without one (R134). -/
theorem State.CurrentOk.begun {c : Nat} (hnone : s.currentPack c = none) (hi : s.pack? i = none)
    (hlt : c < s.packs.current.length) (hc : t.packs.current = s.packs.current.set c (some i))
    (ho : ∀ b, OpenFor o b ↔ c = b) : t.CurrentOk := by
  intro b j
  rw [State.currentPack, hc, join_set _ _ _ _ hlt, hpack]
  by_cases hij : i = j
  · subst hij
    rw [if_pos rfl, ho]
    by_cases hb : c = b
    · simp [hb]
    · rw [if_neg hb]
      refine iff_of_false (fun hcur => ?_) hb
      obtain ⟨q, hq, -⟩ := (h b i).mp hcur
      rw [hi] at hq
      cases hq
  · rw [if_neg hij]
    by_cases hb : c = b
    · subst hb
      rw [if_pos rfl]
      refine iff_of_false (fun hcur => hij (Option.some.inj hcur)) fun hopen => ?_
      rw [(h c j).mpr hopen] at hnone
      cases hnone
    · rw [if_neg hb]
      exact h b j

end Current

theorem not_openFor {q : Pack} (h : q.state ≠ .opened) (b : Nat) : ¬OpenFor (some q) b := by
  rintro ⟨_, ⟨⟩, ho, -⟩
  exact h ho

theorem not_openFor_none (b : Nat) : ¬OpenFor none b := by
  rintro ⟨_, ⟨⟩, -⟩

theorem openFor_some {q : Pack} {b : Nat} : OpenFor (some q) b ↔ q.state = .opened ∧ q.bin = b :=
  ⟨fun ⟨_, h, hst, hb⟩ => Option.some.inj h ▸ ⟨hst, hb⟩, fun ⟨hst, hb⟩ => ⟨q, rfl, hst, hb⟩⟩

/-! ## The Pack Table -/

/-- The agreement rests on the Pack Table, the plans and the boards that the queue binds to each slot. -/
theorem PackTableOk.move (h : PackTableOk s) (hq : QueueOk t) (hb : ∀ j, t.boundTo j = s.boundTo j)
    (hp : t.packs = s.packs) (hplans : ∀ n pl, (t.sorter.slot n).plan = some pl → pl.Ok) : PackTableOk t := by
  have hpack (j : Nat) : t.pack? j = s.pack? j := by rw [State.pack?, hp, State.pack?]
  have hcurrent (b : Nat) : t.currentPack b = s.currentPack b := by rw [State.currentPack, hp, State.currentPack]
  obtain ⟨-, -, hrecords, hcurrents, hslots, hcur, hnumbers, hnext⟩ := h
  refine ⟨hq, hplans, hp ▸ hrecords, hp ▸ hcurrents, fun j => ?_, fun b j => ?_, fun j k p q hj hk => ?_, hp ▸ hnext⟩
  · rw [hb, hpack]
    exact hslots j
  · rw [hcurrent, hpack]
    exact hcur b j
  · rw [hpack] at hj hk
    exact hnumbers j k p q hj hk

/-- The record of one slot replaced, while boards are bound to that slot and unbound from it. -/
theorem PackTableOk.replace {c : List (Option Nat)} {n : Nat} (h : PackTableOk s) (hi : i < s.packs.records.length)
    (ht : t.packs = ⟨s.packs.records.set i o, c, n⟩) (hplans : t.sorter = s.sorter) (hq : QueueOk t)
    (hb : ∀ j, j ≠ i → t.boundTo j = s.boundTo j) (hslot : SlotOk (t.boundTo i) o)
    (hnum : ∀ q, o = some q → ∀ j p, s.pack? j = some p → p.number = q.number → j = i)
    (hcur : t.CurrentOk) (hc : c.length = s.packs.current.length) (hn : 1 ≤ n ∧ n ≤ 999999) : PackTableOk t := by
  have hpack := State.pack?_set (t := t) hi (congrArg PackTable.records ht)
  refine ⟨hq, hplans ▸ h.plans, ?_, ?_, fun j => ?_, hcur, fun j k p q hj hk hpq => ?_, ht ▸ hn⟩
  · rw [ht, List.length_set]
    exact h.records
  · rw [ht]
    exact hc.trans h.currents
  · rw [hpack]
    split
    · subst_vars
      exact hslot
    · rw [hb j (Ne.symm ‹_›)]
      exact h.slots j
  · rw [hpack] at hj hk
    split at hj <;> split at hk
    · subst_vars
      rfl
    · subst_vars
      exact (hnum p rfl k q hk hpq.symm).symm
    · subst_vars
      exact hnum q rfl j p hj hpq
    · exact h.numbers j k p q hj hk hpq

/-- No other live pack has the number of a live pack (R133). -/
theorem PackTableOk.only {p q : Pack} (h : PackTableOk s) (hp : s.pack? i = some p) (hq : q.number = p.number) (j : Nat)
    (r : Pack) (hj : s.pack? j = some r) (hr : r.number = q.number) : j = i :=
  h.numbers j i r p hj hp (hr.trans hq)

theorem PackTableOk.slot {p : Pack} (h : PackTableOk s) (hp : s.pack? i = some p) :
    p.bound = s.boundTo i ∧ p.PhaseOk ∧ p.ContentOk := by
  have := h.slots i
  rwa [hp] at this

theorem Pack.ContentOk.of_eq {p q : Pack} (h : p.ContentOk) (h1 : q.pieces = p.pieces := by rfl)
    (h2 : q.tally = p.tally := by rfl) (h3 : q.grades = p.grades := by rfl) (h4 : q.number = p.number := by rfl) :
    q.ContentOk :=
  ⟨h1 ▸ h2 ▸ h.pieces, h2 ▸ h.tally, h2 ▸ h.counts, h3 ▸ h.grades, h4 ▸ h.number⟩

/-- A pack that is neither OPEN nor CLOSING has no board bound to it (R132). -/
theorem Pack.PhaseOk.closed {p : Pack} (hb : p.bound = 0) (ho : p.state ≠ .opened) (hc : p.state ≠ .closing)
    (ht : p.pieces ≤ p.target) : p.PhaseOk :=
  ⟨fun h => absurd h (by omega), fun h => absurd h hc, fun h => absurd h ho, by omega⟩

/-- A pack record whose boards and current pack do not change. -/
theorem PackTableOk.rewrite {p q : Pack} (h : PackTableOk s) (hp : s.pack? i = some p)
    (ht : t.packs = ⟨s.packs.records.set i (some q), s.packs.current, s.packs.nextNumber⟩) (hk : t.tracker = s.tracker)
    (hplans : t.sorter = s.sorter) (hphase : q.PhaseOk) (hb : q.bound = p.bound) (hcontent : q.ContentOk)
    (hnum : q.number = p.number) (hopen : ∀ b, OpenFor (some q) b ↔ OpenFor (some p) b) : PackTableOk t := by
  have hi := State.lt_of_pack? hp
  refine h.replace hi ht hplans (h.queue.congr hk) (fun j _ => State.boundTo_congr hk j) ?_ ?_
    (h.current.same (State.pack?_set hi (congrArg PackTable.records ht)) (by rw [ht]) (hp ▸ hopen)) rfl h.next
  · rw [State.boundTo_congr hk]
    exact ⟨hb.trans (h.slot hp).1, hphase, hcontent⟩
  · rintro _ ⟨⟩
    exact h.only hp hnum

end Replace

/-! ## Packs that are neither OPEN nor CLOSING (R138 to R147) -/

/-- The pack is neither OPEN nor CLOSING. -/
def Pack.Shelved (p : Pack) : Prop := p.state ≠ .opened ∧ p.state ≠ .closing

section Shelved
variable {s t : State} {i : Nat} {p : Pack} (h : PackTableOk s) (hp : s.pack? i = some p) (hs : p.Shelved)
  (hk : t.tracker = s.tracker) (hplans : t.sorter = s.sorter)
include h hp hs

theorem PackTableOk.bound_of_shelved : p.bound = 0 := by
  obtain ⟨-, hphase, -⟩ := h.slot hp
  refine Nat.eq_zero_of_not_pos fun hpos => ?_
  exact (hphase.bound hpos).elim hs.1 hs.2

include hk hplans

/-- A pack takes another of the states in which no board is bound to it. -/
theorem PackTableOk.shelve {x : PackState} {b : Bool} (ho : x ≠ .opened) (hc : x ≠ .closing) {m : Bool}
    (ht : t.packs = ⟨s.packs.records.set i (some { p with state := x, truncated := b, quarantineMix := m }),
      s.packs.current, s.packs.nextNumber⟩) : PackTableOk t := by
  obtain ⟨-, hphase, hcontent⟩ := h.slot hp
  have hb := h.bound_of_shelved hp hs
  refine h.rewrite hp ht hk hplans (.closed hb ho hc ?_) rfl hcontent.of_eq rfl fun c =>
    iff_of_false (not_openFor ho c) (not_openFor hs.1 c)
  exact hb ▸ hphase.target

/-- The record is free after PACK_RETIRE (R147). -/
theorem PackTableOk.retire (ht : t.packs = ⟨s.packs.records.set i none, s.packs.current, s.packs.nextNumber⟩) :
    PackTableOk t := by
  have hi := State.lt_of_pack? hp
  refine h.replace hi ht hplans (h.queue.congr hk) (fun j _ => State.boundTo_congr hk j) ?_ nofun
    (h.current.same (State.pack?_set hi (congrArg PackTable.records ht)) (by rw [ht]) fun b => ?_) rfl h.next
  · rw [State.boundTo_congr hk]
    exact (h.slot hp).1.symm.trans (h.bound_of_shelved hp hs)
  · rw [hp]
    exact iff_of_false (not_openFor_none b) (not_openFor hs.1 b)

end Shelved

/-! ## The label queue (R157) -/

theorem FrameOk.congr {s t : State} {f : Frame} (h : FrameOk s f)
    (hpack : ∀ i, f.pack = some i → ∀ st, st = .labelReady ∨ st = .printing → t.packIs i st = s.packIs i st) :
    FrameOk t f := by
  obtain ⟨hfree, hready, hprint, hcells⟩ := h
  refine ⟨hfree, fun hst => ?_, fun hst => ?_, hcells⟩
  · obtain ⟨i, hi, his⟩ := (Option.any_eq_true _ _).mp (hready hst)
    rw [hi, Option.any_some, hpack i hi _ (.inl rfl), his]
  · obtain ⟨i, hi, his⟩ := (Option.any_eq_true _ _).mp (hprint hst)
    rw [hi, Option.any_some, hpack i hi _ (.inr rfl), his]

/-- A label queue that holds the packs that wait now, the packs in the frames being the same ones. -/
theorem LabelSideOk.requeue {s t : State} {l : List Nat} (h : LabelSideOk s) (ht : t.labels = { s.labels with queue := l })
    (hd : l.Nodup) (hl : ∀ i, i ∈ l ↔ t.packIs i .labelQueued = true)
    (hf : ∀ i st, st = .labelReady ∨ st = .printing → t.packIs i st = s.packIs i st) : LabelSideOk t := by
  have hframe (n : Nat) : t.labels.frame n = s.labels.frame n := by rw [ht]; rfl
  obtain ⟨-, -, hr, hready, ⟨hframes, hapart, hplaced⟩, hport⟩ := h
  refine ⟨by rwa [ht], fun i => by rw [ht]; exact hl i, by rwa [ht], fun n => ?_, ⟨fun n hn => ?_, ?_, fun i hi => ?_⟩, ?_⟩
  · rw [hframe, ht]
    exact hready n
  · rw [hframe]
    exact (hframes n hn).congr fun i _ => hf i
  · simp only [hframe]
    exact hapart
  · simp only [hframe]
    rw [hf i _ (.inl rfl), hf i _ (.inr rfl)] at hi
    exact hplaced i hi
  · obtain ⟨h1, h2, h3, h4, h5, h6, h7⟩ := hport
    rw [ht]
    exact ⟨h1, h2, h3, h4, h5, h6, h7⟩

/-- The record is not that of a pack that waits for its label or holds it in a frame. -/
def OffLabels (o : Option Pack) : Prop :=
  ∀ p, o = some p → p.state ≠ .labelQueued ∧ p.state ≠ .labelReady ∧ p.state ≠ .printing

theorem OffLabels.any {o : Option Pack} (h : OffLabels o) {st : PackState}
    (hst : st = .labelQueued ∨ st = .labelReady ∨ st = .printing) : o.any (fun p => p.state = st) = false := by
  rcases o with _ | p
  · rfl
  · obtain ⟨h1, h2, h3⟩ := h p rfl
    rcases hst with rfl | rfl | rfl <;> simpa

section Labels
variable {s t : State} {i : Nat} {o : Option Pack} (h : LabelSideOk s) (hi : i < s.packs.records.length)
  (hrecords : t.packs.records = s.packs.records.set i o)
include h hi hrecords

theorem LabelSideOk.mem_queue_same (ho : o.any (fun p => p.state = .labelQueued) = s.packIs i .labelQueued) (j : Nat) :
    j ∈ s.labels.queue ↔ t.packIs j .labelQueued = true := by
  rw [h.queue, State.packIs_set hi hrecords, ho]
  split <;> simp_all

theorem LabelSideOk.mem_queue_join (ho : o.any (fun p => p.state = .labelQueued) = true) (j : Nat) :
    j ∈ i :: s.labels.queue ↔ t.packIs j .labelQueued = true := by
  rw [List.mem_cons, h.queue, State.packIs_set hi hrecords, ho]
  by_cases hij : i = j
  · simp [hij]
  · simp [hij, Ne.symm hij]

theorem LabelSideOk.mem_queue_depart (ho : o.any (fun p => p.state = .labelQueued) = false) (j : Nat) :
    j ∈ s.labels.queue.filter (· ≠ i) ↔ t.packIs j .labelQueued = true := by
  rw [List.mem_filter, h.queue, State.packIs_set hi hrecords, ho]
  by_cases hij : i = j
  · simp [hij]
  · simp [hij, Ne.symm hij]

/-- A record with the same place on the label side, or with none as before. -/
theorem LabelSideOk.quiet (ht : t.labels = s.labels)
    (ho : ∀ st, st = .labelQueued ∨ st = .labelReady ∨ st = .printing →
      o.any (fun p => p.state = st) = (s.pack? i).any (fun p => p.state = st)) : LabelSideOk t := by
  have hsame (j : Nat) (st : PackState) (hst : st = .labelQueued ∨ st = .labelReady ∨ st = .printing) :
      t.packIs j st = s.packIs j st := by
    rw [State.packIs_set hi hrecords]
    split
    · subst_vars
      exact ho st hst
    · rfl
  refine h.requeue ht h.distinct (fun j => ?_) fun j st hst => hsame j st (.inr hst)
  rw [hsame j _ (.inl rfl)]
  exact h.queue j

theorem LabelSideOk.off (ht : t.labels = s.labels) (hold : OffLabels (s.pack? i)) (hnew : OffLabels o) : LabelSideOk t :=
  h.quiet hi hrecords ht fun _ hst => (hnew.any hst).trans (hold.any hst).symm

variable {q : Pack} (ho : o = some q)
include ho

/-- A pack that joins the label queue at either end (R157). -/
theorem LabelSideOk.join {l : List Nat} (hold : OffLabels (s.pack? i)) (hst : q.state = .labelQueued)
    (hl : l.Perm (i :: s.labels.queue)) (ht : t.labels = { s.labels with queue := l }) : LabelSideOk t := by
  have hout : i ∉ s.labels.queue := fun hmem => by
    have := (h.queue i).mp hmem
    rw [State.packIs, hold.any (.inl rfl)] at this
    cases this
  refine h.requeue ht (hl.nodup_iff.mpr (List.nodup_cons.mpr ⟨hout, h.distinct⟩)) (fun j => ?_) fun j st hst' => ?_
  · exact hl.mem_iff.trans (h.mem_queue_join hi hrecords (by simp [ho, hst]) j)
  · rw [State.packIs_set hi hrecords]
    split
    · subst_vars
      rw [State.packIs, hold.any (.inr hst')]
      rcases hst' with rfl | rfl <;> simp [hst]
    · rfl

/-- A pack that leaves the label queue (R140, R157). -/
theorem LabelSideOk.depart (hold : s.packIs i .labelQueued = true) (hnew : OffLabels (some q))
    (ht : t.labels = { s.labels with queue := s.labels.queue.filter (· ≠ i) }) : LabelSideOk t := by
  obtain ⟨p, hp, hst⟩ := (Option.any_eq_true _ _).mp hold
  have hst : p.state = .labelQueued := by simpa using hst
  subst ho
  refine h.requeue ht (h.distinct.filter _) (h.mem_queue_depart hi hrecords (hnew.any (.inl rfl))) fun j st hst' => ?_
  · rw [State.packIs_set hi hrecords]
    split
    · subst_vars
      rw [hnew.any (.inr hst'), State.packIs, hp]
      rcases hst' with rfl | rfl <;> simp [hst]
    · rfl

end Labels

end Sys2Proof.Machine
end

section
/-! The frames of the label side: a label composed, printed, ended or withdrawn. -/

namespace Sys2Proof.Machine

/-! ## One frame replaced (R159) -/

theorem State.packIs_iff {s : State} {i : Nat} {st : PackState} :
    s.packIs i st = true ↔ ∃ p, s.pack? i = some p ∧ p.state = st := by
  simp [State.packIs, Option.any_eq_true]

theorem State.packIs_of_pack? {s : State} {i : Nat} {p : Pack} (h : s.pack? i = some p) (st : PackState) :
    s.packIs i st = true ↔ p.state = st := by
  simp [State.packIs, h]

theorem Labels.frame_setFrame_of_lt {l : Labels} {f n : Nat} (hf : f < 2) (hn : n < 2) (fr : Frame) :
    (l.setFrame f fr).frame n = if n = f then fr else l.frame n := by
  have h : (f = 0 ↔ n = 0) ↔ n = f := by omega
  rw [Labels.frame_setFrame]
  simp only [h]

/-- The pack in a frame is ready or prints, as the frame does. -/
theorem FrameOk.of_pack {s : State} {f : Frame} {i : Nat} (h : FrameOk s f) (hi : f.pack = some i) :
    f.state = .ready ∧ s.packIs i .labelReady = true ∨ f.state = .printing ∧ s.packIs i .printing = true := by
  obtain ⟨hfree, hready, hprint, -⟩ := h
  cases hst : f.state with
  | free =>
    rw [hfree hst] at hi
    cases hi
  | ready =>
    have := hready hst
    rw [hi] at this
    exact .inl ⟨rfl, this⟩
  | printing =>
    have := hprint hst
    rw [hi] at this
    exact .inr ⟨rfl, this⟩

/-- The label port where the frames that print are the same ones. -/
theorem LabelPortOk.same {l l' : Labels} (h : LabelPortOk l)
    (hf : ∀ n < 2, (l'.frame n).state = .printing ↔ (l.frame n).state = .printing) (hp : l'.port = l.port)
    (ht : l'.passTimeout = l.passTimeout) (hc : l'.cursor ≤ Config.frameRows ∧ l'.bitCount < 320)
    (hl : l'.templates.length = Config.templates) (ho : 1 ≤ l'.timeout ∧ l'.timeout ≤ 60) : LabelPortOk l' := by
  refine ⟨?_, fun n hn m hm hpn hpm => ?_, by rw [ht, hp]; exact h.pass, hc.1, hc.2, hl, ho⟩
  · rw [hp]
    exact h.printing.trans (exists_congr fun n => and_congr_right fun hn => (hf n hn).symm)
  · exact h.single n hn m hm ((hf n hn).mp hpn) ((hf m hm).mp hpm)

section Reframe
variable {s t : State} {i f : Nat} {o : Option Pack} {fr : Frame} (h : LabelSideOk s)
  (hi : i < s.packs.records.length) (hrecords : t.packs.records = s.packs.records.set i o) (hf : f < 2)
  (hframe : ∀ n < 2, t.labels.frame n = if n = f then fr else s.labels.frame n)
include h hi hrecords hf hframe

/-- One frame and the record of its pack replaced. -/
theorem LabelSideOk.reframe (hold : ∀ j, (s.labels.frame f).pack = some j → j = i)
    (hother : ∀ n < 2, n ≠ f → (s.labels.frame n).pack ≠ some i) (hfr : FrameOk t fr)
    (hnew : ∀ j, fr.pack = some j → j = i)
    (hplaced : t.packIs i .labelReady = true ∨ t.packIs i .printing = true → fr.pack = some i)
    (hd : t.labels.queue.Nodup) (hq : ∀ j, j ∈ t.labels.queue ↔ t.packIs j .labelQueued = true)
    (hr : t.labels.ready.Nodup)
    (hready : ∀ n, n ∈ t.labels.ready ↔ if n = f then fr.state = .ready else n ∈ s.labels.ready)
    (hport : LabelPortOk t.labels) : LabelSideOk t := by
  have hpack {j : Nat} (hj : j ≠ i) (st : PackState) : t.packIs j st = s.packIs j st := by
    rw [State.packIs_set hi hrecords, if_neg (Ne.symm hj)]
  obtain ⟨hframes, hapart, hin⟩ := h.frames
  refine ⟨hd, hq, hr, fun n => ?_, ⟨fun n hn => ?_, fun n hn m hm j hnj hmj => ?_, fun j hj => ?_⟩, hport⟩
  · rw [hready]
    by_cases hnf : n = f
    · subst hnf
      rw [if_pos rfl, hframe n hf, if_pos rfl]
      exact (and_iff_right hf).symm
    · rw [if_neg hnf, h.ready]
      exact and_congr_right fun hn => by rw [hframe n hn, if_neg hnf]
  · rw [hframe n hn]
    split
    · exact hfr
    · exact (hframes n hn).congr fun j hj st _ => hpack (fun hji => hother n hn ‹_› (hji ▸ hj)) st
  · rw [hframe n hn] at hnj
    rw [hframe m hm] at hmj
    split at hnj <;> split at hmj
    · exact ‹n = f›.trans ‹m = f›.symm
    · exact absurd (hnew j hnj ▸ hmj) (hother m hm ‹_›)
    · exact absurd (hnew j hmj ▸ hnj) (hother n hn ‹_›)
    · exact hapart n hn m hm j hnj hmj
  · by_cases hji : j = i
    · subst hji
      exact ⟨f, hf, by rw [hframe f hf, if_pos rfl]; exact hplaced hj⟩
    · rw [hpack hji, hpack hji] at hj
      obtain ⟨n, hn, hnj⟩ := hin j hj
      refine ⟨n, hn, ?_⟩
      rw [hframe n hn, if_neg fun hnf : n = f => hji (hold j (hnf ▸ hnj))]
      exact hnj

omit hi hrecords in
/-- A frame that neither prints nor printed leaves the port as it is. -/
theorem LabelSideOk.port_reframe (hs : (s.labels.frame f).state ≠ .printing) (hst : fr.state ≠ .printing)
    (hp : t.labels.port = s.labels.port := by rfl) (ht : t.labels.passTimeout = s.labels.passTimeout := by rfl)
    (hc : t.labels.cursor = s.labels.cursor := by rfl) (hb : t.labels.bitCount = s.labels.bitCount := by rfl)
    (hl : t.labels.templates = s.labels.templates := by rfl) (ho : t.labels.timeout = s.labels.timeout := by rfl) :
    LabelPortOk t.labels := by
  obtain ⟨-, -, -, hcursor, hbits, htemplates, htimeout⟩ := h.port
  refine h.port.same (fun n hn => ?_) hp ht (hc ▸ hb ▸ ⟨hcursor, hbits⟩) (hl ▸ htemplates) (ho ▸ htimeout)
  rw [hframe n hn]
  split
  · subst_vars
    exact iff_of_false hst hs
  · rfl

end Reframe

/-! ## Cells (R151, R156) -/

/-- Twelve rows of forty cells. -/
def CardShape (cells : List (List Byte)) : Prop :=
  cells.length = Config.frameRows ∧ ∀ r ∈ cells, r.length = Config.frameColumns

theorem cardShape_blank : CardShape Frame.blank := by
  refine ⟨List.length_replicate, fun r hr => ?_⟩
  rw [(List.mem_replicate.mp hr).2, List.length_replicate]

theorem CardShape.writeCell {cells : List (List Byte)} (h : CardShape cells) (row col : Nat) (ch : Byte) :
    CardShape (writeCell cells row col ch) := by
  obtain ⟨hlen, hrows⟩ := h
  refine ⟨(List.length_modify _ _ _).trans hlen, fun r hr => ?_⟩
  obtain ⟨k, hk⟩ := List.mem_iff_getElem?.mp hr
  rw [Machine.writeCell, List.getElem?_modify] at hk
  obtain ⟨r', hr', rfl⟩ := Option.map_eq_some_iff.mp hk
  have hrow := hrows r' (List.mem_of_getElem? hr')
  split
  · exact List.length_set.trans hrow
  · exact hrow

theorem CardShape.writeText {cells : List (List Byte)} (h : CardShape cells) (pl : Placement) (text : List Byte)
    (row col : Nat) : CardShape (writeText pl text row col cells).1 := by
  induction text generalizing row col cells with
  | nil => exact h
  | cons ch text ih =>
    unfold Machine.writeText
    split
    · exact h
    · split
      · exact ih (h.writeCell row col ch) _ _
      · exact ih (h.writeCell row col ch) _ _

theorem cardShape_layout (s : State) (p : Pack) (l : List Placement) : CardShape (s.layout p l).1 :=
  List.foldlRecOn (motive := fun acc : List (List Byte) × Bool => CardShape acc.1) _ _ cardShape_blank
    fun _ h pl _ => h.writeText pl _ _ _

/-! ## Composition (R156, R158) -/

theorem Labels.freeFrame_some {l : Labels} {f : Nat} (h : l.freeFrame = some f) : f < 2 ∧ (l.frame f).state = .free := by
  unfold Labels.freeFrame at h
  split at h
  · cases h
    exact ⟨by decide, ‹_›⟩
  · split at h
    · cases h
      exact ⟨by decide, ‹_›⟩
    · cases h

/-- A frame replaced is a new value of one of the two. -/
theorem Labels.setFrame_eq (l : Labels) (f : Nat) (fr : Frame) : l.setFrame f fr =
    { l with frame0 := if f = 0 then fr else l.frame0, frame1 := if f = 0 then l.frame1 else fr } := by
  unfold Labels.setFrame
  split <;> rfl

section Frame
variable {s t : State} {i f : Nat} {q : Pack} (h : LabelSideOk s) (hi : i < s.packs.records.length)
  (hrecords : t.packs.records = s.packs.records.set i (some q)) (hf : f < 2)
include h

/-- A pack that is not ready and does not print is in no frame (R159). -/
theorem LabelSideOk.not_in_frame {n : Nat} (hn : n < 2) (h1 : s.packIs i .labelReady = false)
    (h2 : s.packIs i .printing = false) : (s.labels.frame n).pack ≠ some i := by
  intro hpack
  rcases (h.frames.frames n hn).of_pack hpack with ⟨-, his⟩ | ⟨-, his⟩
  · exact Bool.false_ne_true (h1.symm.trans his)
  · exact Bool.false_ne_true (h2.symm.trans his)

include hi hrecords hf

/-- A label composed: its pack leaves the queue for a FREE frame (R156). -/
theorem LabelSideOk.composed {cells : List (List Byte)} {rest : List Nat} (hfree : (s.labels.frame f).state = .free)
    (hqueue : s.labels.queue = i :: rest) (hcells : CardShape cells) (hst : q.state = .labelReady)
    (ht : t.labels = { s.labels.setFrame f ⟨.ready, some i, cells⟩ with ready := s.labels.ready ++ [f], queue := rest }) :
    LabelSideOk t := by
  obtain ⟨p, hp, hqueued⟩ := State.packIs_iff.mp ((h.queue i).mp (hqueue ▸ List.mem_cons_self))
  have hnone : (s.labels.frame f).pack = none := (h.frames.frames f hf).1 hfree
  obtain ⟨hnot, hdistinct⟩ := List.nodup_cons.mp (hqueue ▸ h.distinct)
  have hout : f ∉ s.labels.ready := fun hmem => by
    have := ((h.ready f).mp hmem).2
    rw [hfree] at this
    cases this
  have hrest : s.labels.queue.filter (· ≠ i) = rest := by
    rw [hqueue, List.filter_cons_of_neg (by simp), List.filter_eq_self]
    intro j hj
    simpa using fun hji : j = i => hnot (hji ▸ hj)
  have hframe : ∀ n < 2, t.labels.frame n = if n = f then ⟨.ready, some i, cells⟩ else s.labels.frame n := fun n hn => by
    rw [ht]
    exact Labels.frame_setFrame_of_lt hf hn _
  have his : t.packIs i .labelReady = true := by
    rw [State.packIs_set hi hrecords, if_pos rfl]
    simpa
  rw [Labels.setFrame_eq] at ht
  refine h.reframe hi hrecords hf hframe (by simp [hnone]) (fun n hn _ => h.not_in_frame hn ?_ ?_)
    ⟨nofun, fun _ => his, nofun, hcells⟩ (by simp) (fun _ => rfl) (by rw [ht]; exact hdistinct) (fun j => ?_) ?_ (fun n => ?_)
    (h.port_reframe hf hframe (by simp [hfree]) (by simp) (by rw [ht]) (by rw [ht]) (by rw [ht]) (by rw [ht]) (by rw [ht])
      (by rw [ht]))
  · simp [State.packIs, hp, hqueued]
  · simp [State.packIs, hp, hqueued]
  · rw [ht, ← hrest]
    exact h.mem_queue_depart hi hrecords (by simp [hst]) j
  · rw [ht, List.nodup_append]
    exact ⟨h.readyDistinct, by simp, by simpa using fun n hn (hnf : n = f) => hout (hnf ▸ hn)⟩
  · rw [ht, List.mem_append, List.mem_singleton]
    by_cases hnf : n = f <;> simp [hnf]

/-- A pass begun: the first READY frame prints (R160). -/
theorem LabelSideOk.started {rest : List Nat} (hready : s.labels.ready = f :: rest)
    (hpack : (s.labels.frame f).pack = some i) (hport : s.labels.port ≠ .printing) (hst : q.state = .printing)
    (ht : t.labels = { s.labels.setFrame f { s.labels.frame f with state := .printing } with
      ready := rest, port := .printing, cursor := 0, bitCount := 0, passTimeout := some s.labels.timeout }) :
    LabelSideOk t := by
  have hframe : ∀ n < 2, t.labels.frame n =
      if n = f then { s.labels.frame f with state := .printing } else s.labels.frame n := fun n hn => by
    rw [ht]
    exact Labels.frame_setFrame_of_lt hf hn _
  have hfstate : (s.labels.frame f).state = .ready := ((h.ready f).mp (hready ▸ List.mem_cons_self)).2
  have hold : s.packIs i .labelReady = true := by
    rcases (h.frames.frames f hf).of_pack hpack with ⟨-, his⟩ | ⟨hp, -⟩
    · exact his
    · rw [hfstate] at hp
      cases hp
  obtain ⟨p, hp, hpst⟩ := State.packIs_iff.mp hold
  obtain ⟨-, -, -, hcells⟩ := h.frames.frames f hf
  obtain ⟨hnot, hdistinct⟩ := List.nodup_cons.mp (hready ▸ h.readyDistinct)
  have hidle : ∀ n < 2, (s.labels.frame n).state ≠ .printing := fun n hn hpn =>
    hport (h.port.printing.mpr ⟨n, hn, hpn⟩)
  have his : t.packIs i .printing = true := by
    rw [State.packIs_set hi hrecords, if_pos rfl]
    simpa
  have hone : ∀ n < 2, (t.labels.frame n).state = .printing → n = f := fun n hn hpn => by
    rw [hframe n hn] at hpn
    split at hpn
    · assumption
    · exact absurd hpn (hidle n hn)
  rw [Labels.setFrame_eq] at ht
  refine h.reframe hi hrecords hf hframe (fun j hj => Option.some.inj (hj.symm.trans hpack))
    (fun n hn hnf hpn => hnf (h.frames.apart n hn f hf i hpn hpack)) ⟨nofun, nofun, fun _ => ?_, hcells⟩
    (fun j hj => Option.some.inj (hj.symm.trans hpack)) (fun _ => hpack) (by rw [ht]; exact h.distinct) (fun j => ?_)
    (by rw [ht]; exact hdistinct) (fun n => ?_) ⟨?_, ?_, ?_, ?_, ?_, ?_, ?_⟩
  · exact (congrArg (Option.any _) hpack).trans his
  · rw [ht]
    exact h.mem_queue_same hi hrecords (by simp [State.packIs, hp, hpst, hst]) j
  · rw [ht, hready, List.mem_cons]
    by_cases hnf : n = f
    · simpa [hnf] using hnot
    · simp [hnf]
  · exact iff_of_true (by rw [ht]) ⟨f, hf, by rw [hframe f hf, if_pos rfl]⟩
  · exact fun n hn m hm hpn hpm => (hone n hn hpn).trans (hone m hm hpm).symm
  · rw [ht]
    simp
  · rw [ht]
    exact Nat.zero_le _
  · rw [ht]
    exact Nat.zero_lt_succ _
  · rw [ht]
    exact h.port.templates
  · rw [ht]
    exact h.port.timeout

/-- A pass ended: its frame is FREE, and its pack leaves the frames (R162). -/
theorem LabelSideOk.ended {l : List Nat} {x : LabelPortState} (hpack : (s.labels.frame f).pack = some i)
    (hprint : (s.labels.frame f).state = .printing) (hx : x ≠ .printing)
    (hst : q.state ≠ .labelReady ∧ q.state ≠ .printing)
    (ht : t.labels = { s.labels.setFrame f (s.labels.frame f).freed with
      queue := l, port := x, passTimeout := none, bitCount := 0 })
    (hd : l.Nodup) (hl : ∀ j, j ∈ l ↔ t.packIs j .labelQueued = true) : LabelSideOk t := by
  have hframe : ∀ n < 2, t.labels.frame n = if n = f then (s.labels.frame f).freed else s.labels.frame n := fun n hn => by
    rw [ht]
    exact Labels.frame_setFrame_of_lt hf hn _
  obtain ⟨-, -, -, hcells⟩ := h.frames.frames f hf
  have hidle : ∀ n < 2, (t.labels.frame n).state ≠ .printing := fun n hn hpn => by
    rw [hframe n hn] at hpn
    split at hpn
    · cases hpn
    · exact absurd (h.port.single n hn f hf hpn hprint) ‹n ≠ f›
  have hgone : ¬(t.packIs i .labelReady = true ∨ t.packIs i .printing = true) := by
    simpa [State.packIs_set hi hrecords] using hst
  rw [Labels.setFrame_eq] at ht
  refine h.reframe hi hrecords hf hframe (fun j hj => Option.some.inj (hj.symm.trans hpack))
    (fun n hn hnf hpn => hnf (h.frames.apart n hn f hf i hpn hpack)) ⟨fun _ => rfl, nofun, nofun, hcells⟩ nofun
    (fun his => absurd his hgone) (by rw [ht]; exact hd) (fun j => by rw [ht]; exact hl j)
    (by rw [ht]; exact h.readyDistinct) (fun n => ?_) ⟨?_, ?_, ?_, ?_, ?_, ?_, ?_⟩
  · rw [ht]
    by_cases hnf : n = f
    · subst hnf
      rw [if_pos rfl]
      refine iff_of_false (fun hmem => ?_) nofun
      have hst := ((h.ready n).mp hmem).2
      rw [hprint] at hst
      cases hst
    · rw [if_neg hnf]
  · rw [ht]
    exact iff_of_false hx fun ⟨n, hn, hpn⟩ => hidle n hn (by rw [ht]; exact hpn)
  · exact fun n hn _ _ hpn => absurd hpn (hidle n hn)
  · rw [ht]
    exact iff_of_false nofun hx
  · rw [ht]
    exact h.port.cursor
  · rw [ht]
    exact Nat.zero_lt_succ _
  · rw [ht]
    exact h.port.templates
  · rw [ht]
    exact h.port.timeout

/-- A ready label withdrawn: its frame is FREE, and its pack leaves the frames (R140, R159). -/
theorem LabelSideOk.withdrawn (hpack : (s.labels.frame f).pack = some i) (hready : (s.labels.frame f).state = .ready)
    (hoff : OffLabels (some q)) (ht : t.labels = { s.labels.setFrame f (s.labels.frame f).freed with
      ready := s.labels.ready.filter (· ≠ f) }) : LabelSideOk t := by
  have hframe : ∀ n < 2, t.labels.frame n = if n = f then (s.labels.frame f).freed else s.labels.frame n := fun n hn => by
    rw [ht]
    exact Labels.frame_setFrame_of_lt hf hn _
  obtain ⟨-, -, -, hcells⟩ := h.frames.frames f hf
  have hold : s.packIs i .labelQueued = false := by
    rcases (h.frames.frames f hf).of_pack hpack with ⟨-, his⟩ | ⟨-, his⟩
    all_goals
      obtain ⟨p, hp, hst⟩ := State.packIs_iff.mp his
      simp [State.packIs, hp, hst]
  have hgone : ¬(t.packIs i .labelReady = true ∨ t.packIs i .printing = true) := by
    rw [State.packIs_set hi hrecords, State.packIs_set hi hrecords, if_pos rfl, if_pos rfl, hoff.any (.inr (.inl rfl)),
      hoff.any (.inr (.inr rfl))]
    simp
  rw [Labels.setFrame_eq] at ht
  refine h.reframe hi hrecords hf hframe (fun j hj => Option.some.inj (hj.symm.trans hpack))
    (fun n hn hnf hpn => hnf (h.frames.apart n hn f hf i hpn hpack)) ⟨fun _ => rfl, nofun, nofun, hcells⟩ nofun
    (fun his => absurd his hgone) (by rw [ht]; exact h.distinct) (fun j => ?_) (by rw [ht]; exact h.readyDistinct.filter _)
    (fun n => ?_)
    (h.port_reframe hf hframe (by simp [hready]) (by simp [Frame.freed]) (by rw [ht]) (by rw [ht]) (by rw [ht]) (by rw [ht])
      (by rw [ht]) (by rw [ht]))
  · rw [ht]
    exact h.mem_queue_same hi hrecords ((hoff.any (.inl rfl)).trans hold.symm) j
  · rw [ht, List.mem_filter]
    by_cases hnf : n = f <;> simp [hnf, Frame.freed]

end Frame

end Sys2Proof.Machine
end

section
/-! A pack of the transit queue: a board bound to it, delivered or unbound, and its end. -/

namespace Sys2Proof.Machine

/-! ## One record of the Pack Table and the boards bound to it -/

/-- From `s` to `t` the record of one slot becomes `o`, and only boards bound to that slot come or go. -/
structure State.OnlySlot (s t : State) (i : Nat) (o : Option Pack) : Prop where
  records : t.packs.records = s.packs.records.set i o
  next : t.packs.nextNumber = s.packs.nextNumber
  sorter : t.sorter = s.sorter
  queue : QueueOk t
  others : ∀ j, j ≠ i → t.boundTo j = s.boundTo j

/-- The current packs become `c'`: as they were when the pack is CLOSING, without it when it is OPEN (R131, R137). -/
def Pack.Leaves (p : Pack) (c c' : List (Option Nat)) : Prop :=
  p.state = .closing ∧ c' = c ∨ p.state = .opened ∧ c' = c.set p.bin none

theorem Pack.Leaves.offLabels {p : Pack} {c c' : List (Option Nat)} (h : p.Leaves c c') : OffLabels (some p) := by
  rintro _ ⟨⟩
  rcases h with ⟨hst, -⟩ | ⟨hst, -⟩ <;> simp [hst]

section Slot
variable {s t : State} {i : Nat} {o : Option Pack} {p q : Pack}

/-- The record of a pack in transit becomes that of one that is not OPEN, or free. -/
theorem PackTableOk.release (h : PackTableOk s) (hp : s.pack? i = some p) (ht : s.OnlySlot t i o)
    (hc : p.Leaves s.packs.current t.packs.current) (hslot : SlotOk (t.boundTo i) o)
    (ho : ∀ q, o = some q → q.number = p.number ∧ q.state ≠ .opened) : PackTableOk t := by
  have hi := State.lt_of_pack? hp
  have hpack := State.pack?_set (t := t) hi ht.records
  have hnot (b : Nat) : ¬OpenFor o b := by
    rintro ⟨q, rfl, hst, -⟩
    exact (ho q rfl).2 hst
  have hcur : t.CurrentOk ∧ t.packs.current.length = s.packs.current.length := by
    rcases hc with ⟨hst, hc⟩ | ⟨hst, hc⟩
    · refine ⟨h.current.same hpack hc fun b => iff_of_false (hnot b) ?_, by rw [hc]⟩
      rw [hp]
      exact not_openFor (by simp [hst]) b
    · exact ⟨h.current.ended hpack hp hst hc hnot, by rw [hc, List.length_set]⟩
  refine h.replace hi (c := t.packs.current) (n := t.packs.nextNumber) ?_ ht.sorter ht.queue ht.others hslot
    (fun q hq => h.only hp (ho q hq).1) hcur.1 hcur.2 (ht.next ▸ h.next)
  rw [← ht.records]

/-- The record of a pack that stays in its state and its bin. -/
theorem PackTableOk.alter (h : PackTableOk s) (hp : s.pack? i = some p) (ht : s.OnlySlot t i (some q))
    (hc : t.packs.current = s.packs.current) (hslot : SlotOk (t.boundTo i) (some q)) (hnum : q.number = p.number)
    (hst : q.state = p.state) (hbin : q.bin = p.bin) : PackTableOk t := by
  have hi := State.lt_of_pack? hp
  refine h.replace hi (c := t.packs.current) (n := t.packs.nextNumber) ?_ ht.sorter ht.queue ht.others hslot ?_
    (h.current.same (State.pack?_set hi ht.records) hc fun b => ?_) (by rw [hc]) (ht.next ▸ h.next)
  · rw [← ht.records]
  · rintro _ ⟨⟩
    exact h.only hp hnum
  · rw [hp, openFor_some, openFor_some, hst, hbin]

variable (h : PackSideOk s) (hp : s.pack? i = some p)
include h hp

/-- A pack in transit becomes one that is not OPEN and has no label work, or its record is free. -/
theorem PackSideOk.release (ht : s.OnlySlot t i o) (hc : p.Leaves s.packs.current t.packs.current)
    (hslot : SlotOk (t.boundTo i) o) (ho : ∀ q, o = some q → q.number = p.number ∧ q.state ≠ .opened)
    (hoff : OffLabels o) (hl : t.labels = s.labels) : PackSideOk t :=
  ⟨h.table.release hp ht hc hslot ho,
    h.labels.off (State.lt_of_pack? hp) ht.records hl (hp ▸ hc.offLabels) hoff⟩

/-- A pack in transit changes without leaving its state or its bin. -/
theorem PackSideOk.alter (ht : s.OnlySlot t i (some q)) (hc : t.packs.current = s.packs.current)
    (hslot : SlotOk (t.boundTo i) (some q)) (hnum : q.number = p.number) (hst : q.state = p.state) (hbin : q.bin = p.bin)
    (hl : t.labels = s.labels) : PackSideOk t :=
  ⟨h.table.alter hp ht hc hslot hnum hst hbin,
    h.labels.quiet (State.lt_of_pack? hp) ht.records hl fun st _ => by simp [hp, hst]⟩

/-- The record of a pack without pieces is free when its last board goes (R138, R149). -/
theorem PackSideOk.freed (ht : s.OnlySlot t i none) (hc : p.Leaves s.packs.current t.packs.current)
    (hb : t.boundTo i = 0) (hl : t.labels = s.labels) : PackSideOk t :=
  h.release hp ht hc hb nofun nofun hl

/-- The record of a pack that has closed: HELD with a quarantine mark, else queued for its label (R138). -/
def Pack.shut (q : Pack) : Pack := { q with state := if q.marked then .held else .labelQueued }

/-- A pack closes when its last board is gone (R138). -/
theorem PackSideOk.closed (ht : s.OnlySlot t i (some q.shut)) (hc : p.Leaves s.packs.current t.packs.current)
    (hb : t.boundTo i = 0) (hqb : q.bound = 0) (hq : q.ContentOk) (hnum : q.number = p.number) (hpieces : q.pieces ≤ q.target)
    (hl : t.labels = { s.labels with queue := s.labels.queue ++ if q.marked then [] else [i] }) : PackSideOk t := by
  have hst : q.shut.state = if q.marked then .held else .labelQueued := rfl
  have hopen : q.shut.state ≠ .opened := by rw [hst]; split <;> simp
  have hclosing : q.shut.state ≠ .closing := by rw [hst]; split <;> simp
  refine ⟨h.table.release hp ht hc ⟨hb ▸ hqb, .closed hqb hopen hclosing hpieces, hq.of_eq⟩ ?_, ?_⟩
  · rintro _ ⟨⟩
    exact ⟨hnum, hopen⟩
  · have hi := State.lt_of_pack? hp
    by_cases hm : q.marked = true
    · rw [if_pos hm] at hl hst
      refine h.labels.off hi ht.records (by rw [hl, List.append_nil]) (hp ▸ hc.offLabels) ?_
      rintro _ ⟨⟩
      simp [hst]
    · rw [if_neg hm] at hl hst
      exact h.labels.join hi ht.records rfl (hp ▸ hc.offLabels) hst (List.perm_append_singleton i s.labels.queue) hl

end Slot

/-! ## The tally and the grade set (R136) -/

theorem sum_tallyAdd (c : Nat) (l : List (Nat × Nat)) : ((tallyAdd c l).map (·.2)).sum = (l.map (·.2)).sum + 1 := by
  induction l with
  | nil => rfl
  | cons x l ih =>
    unfold tallyAdd
    split
    · simp only [List.map_cons, List.sum_cons]
      omega
    · split
      · simp only [List.map_cons, List.sum_cons]
        omega
      · simp only [List.map_cons, List.sum_cons, ih]
        omega

theorem one_le_of_mem_tallyAdd {c : Nat} {l : List (Nat × Nat)} (h : ∀ x ∈ l, 1 ≤ x.2) : ∀ x ∈ tallyAdd c l, 1 ≤ x.2 := by
  induction l with
  | nil => simp [tallyAdd]
  | cons y l ih =>
    obtain ⟨hy, hl⟩ := List.forall_mem_cons.mp h
    unfold tallyAdd
    split
    · exact List.forall_mem_cons.mpr ⟨Nat.le_refl 1, h⟩
    · split
      · exact List.forall_mem_cons.mpr ⟨Nat.le_add_left 1 _, hl⟩
      · exact List.forall_mem_cons.mpr ⟨hy, ih hl⟩

/-- The classes of a tally with one more piece are those of the tally and that of the piece. -/
theorem fst_of_mem_tallyAdd {c : Nat} {l : List (Nat × Nat)} {x : Nat × Nat} (h : x ∈ tallyAdd c l) :
    x.1 = c ∨ ∃ y ∈ l, x.1 = y.1 := by
  induction l with
  | nil => exact .inl (by rw [List.mem_singleton.mp h])
  | cons y l ih =>
    unfold tallyAdd at h
    split at h
    · rcases List.mem_cons.mp h with rfl | h
      · exact .inl rfl
      · exact .inr ⟨x, h, rfl⟩
    · split at h
      · rcases List.mem_cons.mp h with rfl | h
        · exact .inr ⟨y, List.mem_cons_self, rfl⟩
        · exact .inr ⟨x, List.mem_cons_of_mem y h, rfl⟩
      · rcases List.mem_cons.mp h with rfl | h
        · exact .inr ⟨_, List.mem_cons_self, rfl⟩
        · exact (ih h).imp_right fun ⟨z, hz, hxz⟩ => ⟨z, List.mem_cons_of_mem _ hz, hxz⟩

theorem pairwise_tallyAdd {c : Nat} {l : List (Nat × Nat)} (h : l.Pairwise (fun x y => x.1 < y.1)) :
    (tallyAdd c l).Pairwise (fun x y => x.1 < y.1) := by
  induction l with
  | nil => exact List.pairwise_singleton _ _
  | cons y l ih =>
    obtain ⟨hy, hl⟩ := List.pairwise_cons.mp h
    unfold tallyAdd
    split
    · refine List.pairwise_cons.mpr ⟨List.forall_mem_cons.mpr ⟨‹_›, fun z hz => ?_⟩, h⟩
      exact Nat.lt_trans ‹_› (hy z hz)
    · split
      · exact List.pairwise_cons.mpr ⟨hy, hl⟩
      · refine List.pairwise_cons.mpr ⟨fun z hz => ?_, ih hl⟩
        rcases fst_of_mem_tallyAdd hz with hzc | ⟨w, hw, hzw⟩
        · rw [hzc]
          omega
        · rw [hzw]
          exact hy w hw

theorem Pack.ContentOk.addPiece {p : Pack} (h : p.ContentOk) (dims : Dimensions) (d : Decision) (b : Bool) :
    (p.addPiece dims d b).ContentOk := by
  have hgrades : (d.grade.elim p.grades (fun g => insertAsc g p.grades)).Pairwise (· < ·) := by
    cases d.grade with
    | none => exact h.grades
    | some g => exact pairwise_insertAsc g _ h.grades
  have hsum : p.pieces + 1 = ((tallyAdd (d.lengthClass.getD 0) p.tally).map (·.2)).sum := by
    rw [sum_tallyAdd, h.pieces]
  unfold Pack.addPiece Pack.addMoisture
  cases d.mc <;> exact ⟨hsum, pairwise_tallyAdd h.tally, one_le_of_mem_tallyAdd h.counts, hgrades, h.number⟩

end Sys2Proof.Machine
end

section
/-! An entry of the transit queue that is decided, leaves or joins, and the pack that its board is bound to. -/

namespace Sys2Proof.Machine

/-! ## The boards of the queue (R97, R135) -/

/-- The slot of the pack that the board of an entry is bound to. -/
def Entry.packSlot (e : Entry) : Option Nat := e.decision.bind (·.packSlot)

theorem State.boundTo_eq (s : State) (i : Nat) :
    s.boundTo i = s.tracker.queue.countP (fun e => e.packSlot = some i) := by
  refine List.countP_congr fun e _ => ?_
  rcases hd : e.decision with _ | d <;> simp [Entry.packSlot, hd]

theorem State.boundTo_withQueue (s : State) (l : List Entry) (i : Nat) :
    (s.withQueue l).boundTo i = l.countP (fun e => e.packSlot = some i) := (s.withQueue l).boundTo_eq i

theorem countP_packSlot_middle (l r : List Entry) (e : Entry) (i : Nat) :
    (l ++ e :: r).countP (fun e => e.packSlot = some i) =
      (l ++ r).countP (fun e => e.packSlot = some i) + if e.packSlot = some i then 1 else 0 := by
  simp only [List.countP_append, List.countP_cons, decide_eq_true_eq, Nat.add_assoc]

/-- The state with another queue has the same packs, plans and labels. -/
theorem PackSideOk.move {s t : State} (h : PackSideOk s) (hq : QueueOk t) (hb : ∀ j, t.boundTo j = s.boundTo j)
    (hp : t.packs = s.packs := by rfl) (hl : t.labels = s.labels := by rfl)
    (hplans : ∀ n pl, (t.sorter.slot n).plan = some pl → pl.Ok) : PackSideOk t := by
  have his (i : Nat) (st : PackState) : t.packIs i st = s.packIs i st := by
    rw [State.packIs, State.packIs, State.pack?, State.pack?, hp]
  refine ⟨h.table.move hq hb hp hplans, h.labels.requeue hl h.labels.distinct (fun i => ?_) fun i st _ => his i st⟩
  rw [his]
  exact h.labels.queue i

/-- The agreement is one of queue, plans, packs and labels alone. -/
theorem PackSideOk.congr {s t : State} (h : PackSideOk s) (hk : t.tracker = s.tracker := by rfl)
    (hs : t.sorter = s.sorter := by rfl) (hp : t.packs = s.packs := by rfl) (hl : t.labels = s.labels := by rfl) :
    PackSideOk t :=
  h.move (h.table.queue.congr hk) (State.boundTo_congr hk) hp hl (hs ▸ h.table.plans)

theorem QueueOk.replaced {s t : State} {k : List Entry} (h : QueueOk s) (ht : t.tracker = { s.tracker with queue := k })
    (hk : (k.map (fun e => (e.sequence, e.capture))).Sublist (s.tracker.queue.map (fun e => (e.sequence, e.capture)))) :
    QueueOk t := (h.withQueue hk).congr ht

section Leave
variable {s t : State} {l r : List Entry} {e : Entry} (hq : s.tracker.queue = l ++ e :: r)
  (ht : t.tracker = { s.tracker with queue := l ++ r })
include hq ht

theorem QueueOk.left (h : QueueOk s) : QueueOk t :=
  h.replaced ht (hq ▸ ((List.sublist_cons_self e r).append_left l).map _)

theorem State.boundTo_left (i : Nat) : s.boundTo i = t.boundTo i + if e.packSlot = some i then 1 else 0 := by
  rw [State.boundTo_eq, hq, countP_packSlot_middle, State.boundTo_eq, ht]

/-- An entry whose board is bound to no pack leaves the queue (R106). -/
theorem PackSideOk.leave (h : PackSideOk s) (he : e.packSlot = none) (hp : t.packs = s.packs) (hl : t.labels = s.labels)
    (hs : t.sorter = s.sorter) : PackSideOk t := by
  refine h.move (h.table.queue.left hq ht) (fun j => ?_) hp hl (hs ▸ h.table.plans)
  have := State.boundTo_left hq ht j
  rw [he, if_neg nofun] at this
  exact this.symm

end Leave

section Decide
variable {s t : State} {l r : List Entry} {e e' : Entry} (hq : s.tracker.queue = l ++ e :: r)
  (ht : t.tracker = { s.tracker with queue := l ++ e' :: r })
include hq ht

theorem QueueOk.decided (h : QueueOk s) (he : e'.sequence = e.sequence ∧ e'.capture = e.capture) : QueueOk t := by
  refine h.replaced ht ?_
  rw [hq]
  simp [he]

theorem State.boundTo_decided (i : Nat) : t.boundTo i + (if e.packSlot = some i then 1 else 0) =
    s.boundTo i + if e'.packSlot = some i then 1 else 0 := by
  rw [State.boundTo_eq, ht, countP_packSlot_middle, State.boundTo_eq, hq, countP_packSlot_middle]
  omega

/-- The decision of an entry changes, but not the pack that its board is bound to. -/
theorem PackSideOk.redecide (h : PackSideOk s) (he : e'.sequence = e.sequence ∧ e'.capture = e.capture)
    (hslot : e'.packSlot = e.packSlot) (hp : t.packs = s.packs) (hl : t.labels = s.labels) (hs : t.sorter = s.sorter) :
    PackSideOk t := by
  refine h.move (h.table.queue.decided hq ht he) (fun j => ?_) hp hl (hs ▸ h.table.plans)
  have := State.boundTo_decided hq ht j
  rw [hslot] at this
  omega

end Decide

/-- The board of an entry is bound to a live pack that is OPEN or CLOSING (R132). -/
theorem PackTableOk.of_bound {s : State} (h : PackTableOk s) {i : Nat} (hb : 0 < s.boundTo i) :
    ∃ p, s.pack? i = some p ∧ p.bound = s.boundTo i ∧ (p.state = .opened ∨ p.state = .closing) ∧ p.PhaseOk ∧ p.ContentOk := by
  have hslot := h.slots i
  rcases hp : s.pack? i with _ | p
  · rw [hp] at hslot
    exact absurd hslot (Nat.ne_of_gt hb)
  · obtain ⟨hbound, hphase, hcontent⟩ := h.slot hp
    exact ⟨p, rfl, hbound, hphase.bound (by omega), hphase, hcontent⟩

/-! ## The last board of a pack (R136, R138, R149) -/

theorem State.packClosed_packs (s : State) (i : Nat) (q : Pack) : (s.packClosed i q).packs = (s.withPack i q.shut).packs := by
  rw [State.packClosed_eq_afterClosing]
  rfl

theorem State.packClosed_labels (s : State) (i : Nat) (q : Pack) : (s.packClosed i q).labels =
    { s.labels with queue := s.labels.queue ++ if q.marked then [] else [i] } := by
  rw [State.packClosed_eq_afterClosing, State.afterClosing_single]
  rfl

@[simp] theorem State.modifyChargeOf_labels (s : State) (i : Option Nat) (f : Charge → Charge) :
    (s.modifyChargeOf i f).labels = s.labels := by
  cases i <;> rfl

theorem Pack.addPiece_frame (p : Pack) (dims : Dimensions) (d : Decision) (b : Bool) :
    (p.addPiece dims d b).bound = p.bound - 1 ∧ (p.addPiece dims d b).number = p.number ∧
      (p.addPiece dims d b).bin = p.bin ∧ (p.addPiece dims d b).target = p.target := by
  unfold Pack.addPiece Pack.addMoisture
  cases d.mc <;> exact ⟨rfl, rfl, rfl, rfl⟩

section Unbind
variable {s t : State} {l r : List Entry} {e : Entry} {i : Nat} (h : PackSideOk s)
  (hq : s.tracker.queue = l ++ e :: r) (ht : t.tracker = { s.tracker with queue := l ++ r }) (hs : t.sorter = s.sorter)
  (he : e.packSlot = some i)
include h hq ht he

/-- The pack of an entry that leaves, and the boards that stay bound. -/
theorem PackSideOk.unbinding : ∃ p, s.pack? i = some p ∧ p.bound = t.boundTo i + 1 ∧
    (p.state = .opened ∨ p.state = .closing) ∧ p.PhaseOk ∧ p.ContentOk := by
  have hb := State.boundTo_left hq ht i
  rw [if_pos he] at hb
  obtain ⟨p, hp, hbound, hst⟩ := h.table.of_bound (i := i) (by omega)
  exact ⟨p, hp, hbound.trans hb, hst⟩

include hs

theorem PackSideOk.onlySlot_left {o : Option Pack} (hrecords : t.packs.records = s.packs.records.set i o)
    (hnext : t.packs.nextNumber = s.packs.nextNumber) : s.OnlySlot t i o := by
  refine ⟨hrecords, hnext, hs, h.table.queue.left hq ht, fun j hj => ?_⟩
  have hb := State.boundTo_left hq ht j
  rw [he, if_neg fun hij => hj (Option.some.inj hij).symm] at hb
  exact hb.symm

/-- A delivery, and the entry gone (R106, R136). -/
theorem PackSideOk.delivered {d : Decision} (hp : t.packs = (s.deliver i d).packs) (hl : t.labels = (s.deliver i d).labels) :
    PackSideOk t := by
  obtain ⟨p, hpack, hb, hst, hphase, hcontent⟩ := h.unbinding hq ht he
  rw [State.deliver_eq hpack] at hp hl
  have hq' := hcontent.addPiece s.tracker.dimensions d (s.flagOf d.chargeSlot)
  have hst' := p.addPiece_state s.tracker.dimensions d (s.flagOf d.chargeSlot)
  have hpieces := p.addPiece_pieces s.tracker.dimensions d (s.flagOf d.chargeSlot)
  obtain ⟨hbound, hnum, hbin, htarget⟩ := p.addPiece_frame s.tracker.dimensions d (s.flagOf d.chargeSlot)
  generalize p.addPiece s.tracker.dimensions d (s.flagOf d.chargeSlot) = q at *
  have hfull := hphase.target
  dsimp only at hp hl
  by_cases hlast : p.state = .closing ∧ p.bound ≤ 1
  · rw [if_pos hlast, State.packClosed_packs, State.withPack, State.modifyChargeOf_packs] at hp
    rw [if_pos hlast, State.packClosed_labels, State.modifyChargeOf_labels] at hl
    refine h.closed hpack (h.onlySlot_left hq ht hs he ?_ ?_) (.inl ⟨hlast.1, ?_⟩) (by omega) (by omega) hq' hnum (by omega) hl
    · rw [hp]
      exact List.set_set ..
    · rw [hp]
      rfl
    · rw [hp]
      rfl
  · rw [if_neg hlast, State.modifyChargeOf_packs] at hp
    rw [if_neg hlast, State.modifyChargeOf_labels] at hl
    refine h.alter hpack (h.onlySlot_left hq ht hs he ?_ ?_) ?_ ⟨by omega, ⟨?_, ?_, ?_, ?_⟩, hq'⟩ hnum hst' hbin hl
    · rw [hp]
      rfl
    · rw [hp]
      rfl
    · rw [hp]
      rfl
    · exact fun _ => hst' ▸ hst
    · intro hc
      rw [hst'] at hc
      have : ¬p.bound ≤ 1 := fun hle => hlast ⟨hc, hle⟩
      omega
    · intro ho
      rw [hst'] at ho
      have := hphase.opened ho
      omega
    · omega

/-- A board unbound, and its entry gone (R149). -/
theorem PackSideOk.unbound (hp : t.packs = (s.unbindPack i).packs) (hl : t.labels = (s.unbindPack i).labels) :
    PackSideOk t := by
  obtain ⟨p, hpack, hb, hst, hphase, hcontent⟩ := h.unbinding hq ht he
  have hfull := hphase.target
  have honly {o : Option Pack} := h.onlySlot_left (o := o) hq ht hs he
  rw [State.unbindPack_eq hpack hst] at hp hl
  by_cases hlast : p.bound ≤ 1
  · rw [if_pos hlast] at hp hl
    unfold State.unboundLast at hp hl
    by_cases hc : p.state = .closing
    · rw [if_pos hc] at hp hl
      by_cases hz : p.pieces = 0
      · rw [if_pos hz] at hp hl
        exact h.freed hpack (honly (by rw [hp]; rfl) (by rw [hp]; rfl)) (.inl ⟨hc, by rw [hp]; rfl⟩) (by omega) hl
      · rw [if_neg hz, State.packClosed_packs] at hp
        rw [if_neg hz, State.packClosed_labels] at hl
        exact h.closed hpack (q := { p with bound := 0 }) (honly (by rw [hp]; rfl) (by rw [hp]; rfl))
          (.inl ⟨hc, by rw [hp]; rfl⟩) (by omega) rfl hcontent.of_eq rfl (by dsimp only; omega) hl
    · rw [if_neg hc] at hp hl
      have ho := hst.resolve_right hc
      by_cases hz : p.pieces = 0
      · rw [if_pos hz] at hp hl
        exact h.freed hpack (honly (by rw [hp]; rfl) (by rw [hp]; rfl)) (.inr ⟨ho, by rw [hp]; rfl⟩) (by omega) hl
      · rw [if_neg hz] at hp hl
        have hopened := hphase.opened ho
        refine h.alter hpack (q := { p with bound := 0 }) (honly (by rw [hp]; rfl) (by rw [hp]; rfl)) (by rw [hp]; rfl)
          ⟨by dsimp only; omega, ⟨nofun, fun h => absurd h hc, fun _ => ?_, ?_⟩, hcontent.of_eq⟩ rfl rfl rfl hl
        · dsimp only
          omega
        · dsimp only
          omega
  · rw [if_neg hlast] at hp hl
    refine h.alter hpack (q := { p with bound := p.bound - 1 }) (honly (by rw [hp]; rfl) (by rw [hp]; rfl)) (by rw [hp]; rfl)
      ⟨by dsimp only; omega, ⟨fun _ => hst, fun _ => ?_, fun ho => ?_, ?_⟩, hcontent.of_eq⟩ rfl rfl rfl hl
    · dsimp only
      omega
    · have := hphase.opened ho
      dsimp only
      omega
    · dsimp only
      omega

end Unbind

/-! ## A close-request (R137) -/

/-- A close-request on an OPEN pack: CLOSING while boards are bound to it, else closed (R137, R138). -/
theorem PackSideOk.closeRequest {s : State} {i : Nat} {p : Pack} (h : PackSideOk s) (hp : s.pack? i = some p)
    (ho : p.state = .opened) (why : CloseReason) : PackSideOk (s.closeRequest i why) := by
  obtain ⟨hb, hphase, hcontent⟩ := h.table.slot hp
  have hopened := hphase.opened ho
  rcases Nat.eq_zero_or_pos p.bound with hz | hpos
  · rw [State.closeRequest_unbound hp hz (by omega)]
    have hpacks := (s.setCurrent p.bin none).packClosed_packs i (p.asked why)
    have hframe : ((s.setCurrent p.bin none).packClosed i (p.asked why)).tracker = s.tracker ∧
        ((s.setCurrent p.bin none).packClosed i (p.asked why)).sorter = s.sorter := by
      rw [State.packClosed_eq_afterClosing]
      exact ⟨rfl, rfl⟩
    obtain ⟨htracker, hsorter⟩ := hframe
    have hbound := State.boundTo_congr htracker
    exact h.closed hp (q := p.asked why) ⟨by rw [hpacks]; rfl, by rw [hpacks]; rfl, hsorter, h.table.queue.congr htracker,
      fun j _ => hbound j⟩ (.inr ⟨ho, by rw [hpacks]; rfl⟩) ((hbound i).trans (hb.symm.trans hz)) hz hcontent.of_eq rfl
      (Nat.le_trans (Nat.le_add_right _ _) hphase.target) (State.packClosed_labels _ _ _)
  · rw [State.closeRequest_bound hp hpos]
    refine h.release hp ⟨rfl, rfl, rfl, h.table.queue.congr rfl, fun _ _ => rfl⟩ (.inr ⟨ho, rfl⟩)
      ⟨hb, ⟨fun _ => .inr rfl, fun _ => hpos, nofun, hphase.target⟩, hcontent.of_eq⟩ ?_ ?_ rfl
    · rintro _ ⟨⟩
      exact ⟨rfl, nofun⟩
    · rintro _ ⟨⟩
      simp [Pack.asked]

end Sys2Proof.Machine
end

section
/-! A board bound to the current pack of its bin, or to a pack that is allocated for it. -/

namespace Sys2Proof.Machine

theorem set_none_of_join {α : Type} {l : List (Option α)} {b : Nat} (h : (l[b]?).join = none) : l.set b none = l := by
  refine List.ext_getElem? fun j => ?_
  rw [List.getElem?_set]
  by_cases hbj : b = j
  · subst hbj
    rw [if_pos rfl]
    rcases hl : l[b]? with _ | _ | a
    · rw [if_neg (Nat.not_lt_of_le (List.getElem?_eq_none_iff.mp hl))]
    · rw [if_pos (List.getElem?_eq_some_iff.mp hl).1]
    · rw [hl] at h
      cases h
  · rw [if_neg hbj]

theorem Plan.Ok.target_pos {pl : Plan} (h : pl.Ok) (bin : Nat) : 1 ≤ (pl.targets[bin]?).getD 1 := by
  obtain ⟨hheader, -⟩ := h
  simp only [Plan.headerOk, Bool.and_eq_true, List.all_eq_true] at hheader
  obtain ⟨⟨-, htargets⟩, -⟩ := hheader
  rcases ht : pl.targets[bin]? with _ | t
  · exact Nat.le_refl 1
  · exact of_decide_eq_true (htargets t (List.mem_of_getElem? ht)).1

section Bind
variable {s t : State} {l r : List Entry} {e e' : Entry} {i bin : Nat} (h : PackSideOk s)
  (hq : s.tracker.queue = l ++ e :: r) (ht : t.tracker = { s.tracker with queue := l ++ e' :: r })
  (hs : t.sorter = s.sorter) (hl : t.labels = s.labels) (hsame : e'.sequence = e.sequence ∧ e'.capture = e.capture)
  (hwait : e.packSlot = none) (he : e'.packSlot = some i)
include hq ht hwait he

theorem State.boundTo_bound : t.boundTo i = s.boundTo i + 1 := by
  have hb := State.boundTo_decided hq ht i
  rwa [hwait, if_neg nofun, if_pos he] at hb

theorem State.boundTo_bound_other {j : Nat} (hj : j ≠ i) : t.boundTo j = s.boundTo j := by
  have hb := State.boundTo_decided hq ht j
  rwa [hwait, if_neg nofun, he, if_neg fun hij => hj (Option.some.inj hij).symm] at hb

include h hs hl hsame

/-- A board bound to an OPEN pack, which becomes CLOSING at its target (R135, R137). -/
theorem PackSideOk.bindsTo {p : Pack} (hpack : s.pack? i = some p) (ho : p.state = .opened)
    (hp : t.packs = (s.bindsTo p.bin i p).packs) : PackSideOk t := by
  obtain ⟨hb, hphase, hcontent⟩ := h.table.slot hpack
  have hbound := State.boundTo_bound hq ht hwait he
  have hopened := hphase.opened ho
  have honly {o : Option Pack} (hrecords : t.packs.records = s.packs.records.set i o)
      (hnext : t.packs.nextNumber = s.packs.nextNumber) : s.OnlySlot t i o :=
    ⟨hrecords, hnext, hs, h.table.queue.decided hq ht hsame, fun _ hj => State.boundTo_bound_other hq ht hwait he hj⟩
  unfold State.bindsTo at hp
  by_cases hroom : p.pieces + p.bound + 1 < p.target
  · rw [if_pos hroom] at hp
    refine h.alter hpack (q := { p with bound := p.bound + 1 }) (honly (by rw [hp]; rfl) (by rw [hp]; rfl)) (by rw [hp]; rfl)
      ⟨by dsimp only; omega, ⟨fun _ => .inl ho, fun _ => Nat.succ_pos _, fun _ => ?_, ?_⟩, hcontent.of_eq⟩ rfl rfl rfl hl
    · dsimp only
      omega
    · dsimp only
      omega
  · rw [if_neg hroom] at hp
    refine h.release hpack (o := some { p with bound := p.bound + 1, state := .closing, closeReason := some .target })
      (honly (by rw [hp]; rfl) (by rw [hp]; rfl)) (.inr ⟨ho, by rw [hp]; rfl⟩)
      ⟨by dsimp only; omega, ⟨fun _ => .inr rfl, fun _ => Nat.succ_pos _, nofun, ?_⟩, hcontent.of_eq⟩ ?_ ?_ hl
    · dsimp only
      omega
    · rintro _ ⟨⟩
      exact ⟨rfl, nofun⟩
    · rintro _ ⟨⟩
      simp

/-- A board bound to a pack that is allocated for it, CLOSING at once at a target of 1 (R134, R135). -/
theorem PackSideOk.allocates {number target template : Nat} {b : Bool} (hfree : s.packs.records[i]? = some none)
    (hcurrent : s.currentPack bin = none) (hbin : bin < Config.bins) (hnumber : 1 ≤ number ∧ number ≤ 999999)
    (hno : s.NoPack number) (htarget : 1 ≤ target)
    (hp : t.packs = (({ s with packs := ⟨s.packs.records, s.packs.current.set bin (some i), number % 999999 + 1⟩ } :
      State).bindsTo bin i (.allocated number bin target template b)).packs) : PackSideOk t := by
  have hi : i < s.packs.records.length := (List.getElem?_eq_some_iff.mp hfree).1
  have hnone : s.pack? i = none := by rw [State.pack?, hfree]; rfl
  have hzero : s.boundTo i = 0 := by
    have := h.table.slots i
    rwa [hnone] at this
  have hbound := State.boundTo_bound hq ht hwait he
  have hcontent : (Pack.allocated number bin target template b).ContentOk :=
    ⟨rfl, List.Pairwise.nil, nofun, List.Pairwise.nil, hnumber⟩
  have hnext : 1 ≤ number % 999999 + 1 ∧ number % 999999 + 1 ≤ 999999 := by omega
  have hkeep {q : Pack} {c : List (Option Nat)} (hpacks : t.packs = ⟨s.packs.records.set i (some q), c, number % 999999 + 1⟩)
      (hqb : q.bound = 1) (hphase : q.PhaseOk) (hq' : q.ContentOk) (hqn : q.number = number)
      (hst : q.state = .opened ∨ q.state = .closing) (hcur : t.CurrentOk) (hc : c.length = s.packs.current.length) :
      PackSideOk t := by
    refine ⟨h.table.replace hi hpacks hs (h.table.queue.decided hq ht hsame)
      (fun _ hj => State.boundTo_bound_other hq ht hwait he hj) ⟨by omega, hphase, hq'⟩ ?_ hcur hc hnext,
      h.labels.off hi (by rw [hpacks]) hl (by rw [hnone]; exact nofun) ?_⟩
    · rintro _ ⟨⟩ j p hj hpq
      exact absurd (hpq.trans hqn) (hno j p hj)
    · rintro _ ⟨⟩
      rcases hst with hst | hst <;> simp [hst]
  unfold State.bindsTo at hp
  by_cases hroom : 1 < target
  · have hp := hp.trans (congrArg State.packs (if_pos (show 0 + 0 + 1 < target from hroom)))
    refine hkeep hp rfl ⟨fun _ => .inl rfl, nofun, fun _ => ?_, htarget⟩ hcontent.of_eq rfl (.inl rfl) ?_ List.length_set
    · exact ⟨Nat.le_refl 1, hroom⟩
    · refine h.table.current.begun (State.pack?_set hi (by rw [hp]; rfl)) hcurrent hnone
        (h.table.currents ▸ hbin) (by rw [hp]; rfl) fun c => ?_
      rw [openFor_some]
      exact and_iff_right rfl
  · have hp := hp.trans (congrArg State.packs (if_neg (show ¬0 + 0 + 1 < target from hroom)))
    have hset : (s.packs.current.set bin (some i)).set bin none = s.packs.current := by
      rw [List.set_set, set_none_of_join hcurrent]
    refine hkeep hp rfl ⟨fun _ => .inr rfl, fun _ => Nat.one_pos, nofun, htarget⟩ hcontent.of_eq rfl (.inr rfl) ?_ ?_
    · refine h.table.current.same (State.pack?_set hi (by rw [hp]; rfl)) (by rw [hp]; exact hset) fun c => ?_
      rw [hnone]
      exact iff_of_false (not_openFor (by simp) c) (not_openFor_none c)
    · exact congrArg List.length hset

end Bind

/-! ## Stage 5 and the decision (R103 to R105, R134, R135) -/

/-- A waiting entry is decided with the pack slot that stage 5 gives. -/
theorem PackSideOk.decided {s t u : State} {l r : List Entry} {e e' : Entry} {q bin b : Nat} {why w : Reason} {pl : Plan}
    {k : Option Nat} (h : PackSideOk s) (hq : s.tracker.queue = l ++ e :: r)
    (ht : t.tracker = { s.tracker with queue := l ++ e' :: r }) (hs : t.sorter = s.sorter)
    (hsame : e'.sequence = e.sequence ∧ e'.capture = e.capture) (hwait : e.packSlot = none) (hpl : pl.Ok)
    (hfive : s.stageFive q bin why pl = (u, b, w, k)) (hk : e'.packSlot = k) (hp : t.packs = u.packs)
    (hl : t.labels = u.labels) : PackSideOk t := by
  by_cases hb : bin ∈ pl.building
  · have htarget := hpl.target_pos bin
    obtain ⟨-, -, -, hbuilding, -⟩ := hpl
    have hbin := hbuilding bin hb
    rcases hcurrent : s.currentPack bin with _ | i
    · rcases hfree : freeSlot 0 s.packs.records with _ | i
      · rw [State.stageFive_full hb hcurrent (freeSlot_none.mp hfree)] at hfive
        cases hfive
        exact h.redecide hq ht hsame (hk.trans hwait.symm) hp hl hs
      · have hlow : LowestFree s.packs.records i := by
          obtain ⟨-, hlow⟩ := freeSlot_some hfree
          rwa [Nat.sub_zero] at hlow
        obtain ⟨hnext1, hnext2⟩ := h.table.next
        obtain ⟨j, hj, hused, hno⟩ := State.exists_first_noPack hlow.1 h.table.records s.packs.nextNumber
        obtain ⟨h1, h2⟩ := numberAfter_bounds s.packs.nextNumber j
        rw [State.stageFive_allocated hb hcurrent hlow
          (State.unusedNumber_eq s hnext1 hnext2 (Nat.le_succ_of_le hj) hused hno) h1 h2] at hfive
        cases hfive
        rw [State.bindsTo_frame] at hl
        exact h.allocates hq ht hs hl hsame hwait hk hlow.1 hcurrent hbin ⟨h1, h2⟩ hno htarget hp
    · obtain ⟨p, hpack, ho, rfl⟩ := (h.table.current bin i).mp hcurrent
      rw [State.stageFive_current hb hcurrent hpack rfl] at hfive
      cases hfive
      rw [State.bindsTo_frame] at hl
      exact h.bindsTo hq ht hs hl hsame hwait hk hpack ho hp
  · rw [State.stageFive, if_neg (by simpa using hb)] at hfive
    cases hfive
    exact h.redecide hq ht hsame (hk.trans hwait.symm) hp hl hs

end Sys2Proof.Machine
end

section
/-! The label work of a pack, its entry into quarantine, and the pack requests. -/

namespace Sys2Proof.Machine

/-! ## Packs on their shelves (R145 to R148, R164) -/

section Shelved
variable {s : State} {i : Nat} {p : Pack} (h : PackSideOk s) (hp : s.pack? i = some p)
include h hp

/-- A HELD or LABELLED pack joins the label queue (R145, R164). -/
theorem PackSideOk.queueTail (hst : p.state = .held ∨ p.state = .labelled) : PackSideOk (s.queueTail i) := by
  have hs : p.Shelved := by rcases hst with hst | hst <;> simp [Pack.Shelved, hst]
  have hoff : OffLabels (s.pack? i) := by
    rw [hp]
    rintro _ ⟨⟩
    rcases hst with hst | hst <;> simp [hst]
  rw [State.queueTail_eq hp]
  exact ⟨h.table.shelve hp hs rfl rfl (x := .labelQueued) (b := p.truncated) (m := p.quarantineMix) nofun nofun rfl,
    h.labels.join (State.lt_of_pack? hp) rfl rfl hoff rfl (List.perm_append_singleton i s.labels.queue) rfl⟩

/-- A HELD pack is rejected (R146). -/
theorem PackSideOk.reject (hst : p.state = .held) : PackSideOk (s.withPack i { p with state := .rejected }) := by
  refine ⟨h.table.shelve hp (by simp [Pack.Shelved, hst]) rfl rfl (x := .rejected) (b := p.truncated) (m := p.quarantineMix) nofun nofun
    rfl, h.labels.off (State.lt_of_pack? hp) rfl rfl ?_ ?_⟩
  · rw [hp]
    rintro _ ⟨⟩
    simp [hst]
  · rintro _ ⟨⟩
    simp

/-- The record of a LABELLED or REJECTED pack is freed (R147). -/
theorem PackSideOk.retire (hst : p.state = .labelled ∨ p.state = .rejected) : PackSideOk (s.freePack i) := by
  have hs : p.Shelved := by rcases hst with hst | hst <;> simp [Pack.Shelved, hst]
  refine ⟨h.table.retire hp hs rfl rfl rfl, h.labels.off (State.lt_of_pack? hp) rfl rfl ?_ nofun⟩
  rw [hp]
  rintro _ ⟨⟩
  rcases hst with hst | hst <;> simp [hst]

end Shelved

/-- Another next pack number (R148). -/
theorem PackSideOk.renumber {s : State} (h : PackSideOk s) {n : Nat} (hn : 1 ≤ n ∧ n ≤ 999999) :
    PackSideOk { s with packs := { s.packs with nextNumber := n } } := by
  obtain ⟨⟨hqueue, hplans, hrecords, hcurrents, hslots, hcurrent, hnumbers, -⟩, hlabels⟩ := h
  exact ⟨⟨hqueue, hplans, hrecords, hcurrents, hslots, hcurrent, hnumbers, hn⟩,
    hlabels.requeue rfl hlabels.distinct hlabels.queue fun _ _ _ => rfl⟩

/-! ## Composition and the label port (R156 to R163) -/

theorem PackSideOk.composition {s : State} (h : PackSideOk s) : PackSideOk s.composition := by
  unfold State.composition
  split
  · rename_i f i rest hfree hqueue
    split
    · rename_i p hp
      obtain ⟨hf, hstate⟩ := Labels.freeFrame_some hfree
      have hqueued : p.state = .labelQueued :=
        (State.packIs_of_pack? hp _).mp ((h.labels.queue i).mp (hqueue ▸ List.mem_cons_self))
      rw [State.compose, State.modifyPack_eq_withPack hp]
      refine ⟨h.table.shelve hp (by simp [Pack.Shelved, hqueued]) rfl rfl (x := .labelReady) (m := p.quarantineMix) nofun nofun rfl,
        h.labels.composed (cells := (s.layout p (s.labels.templateOf p.template)).1) (State.lt_of_pack? hp) rfl hf hstate hqueue
          (cardShape_layout s p _) rfl ?_⟩
      simp only [Labels.setFrame_eq, State.withPack, hqueue, List.drop_succ_cons, List.drop_zero]
    · exact h
  · exact h

/-- The READY frame that a pass begins with, and its pack. -/
theorem LabelSideOk.ready_frame {s : State} (h : LabelSideOk s) {f : Nat} {rest : List Nat} (hready : s.labels.ready = f :: rest) :
    f < 2 ∧ ∃ i p, (s.labels.frame f).pack = some i ∧ s.pack? i = some p ∧ p.state = .labelReady := by
  obtain ⟨hf, hstate⟩ := (h.ready f).mp (hready ▸ List.mem_cons_self)
  obtain ⟨-, hpack, -⟩ := h.frames.frames f hf
  obtain ⟨i, hi, his⟩ := (Option.any_eq_true _ _).mp (hpack hstate)
  obtain ⟨p, hp, hst⟩ := State.packIs_iff.mp his
  exact ⟨hf, i, p, hi, hp, hst⟩

/-- The PRINTING frame while the port prints, and its pack. -/
theorem LabelSideOk.printing_frame {s : State} (h : LabelSideOk s) (hport : s.labels.port = .printing) :
    ∃ f < 2, ∃ i p, s.labels.printingFrame = some f ∧ (s.labels.frame f).state = .printing ∧
      (s.labels.frame f).pack = some i ∧ s.pack? i = some p ∧ p.state = .printing := by
  obtain ⟨f, hf, hstate⟩ := h.port.printing.mp hport
  obtain ⟨-, -, hpack, -⟩ := h.frames.frames f hf
  obtain ⟨i, hi, his⟩ := (Option.any_eq_true _ _).mp (hpack hstate)
  obtain ⟨p, hp, hst⟩ := State.packIs_iff.mp his
  refine ⟨f, hf, i, p, ?_, hstate, hi, hp, hst⟩
  unfold Labels.printingFrame
  split
  · exact congrArg some (h.port.single 0 (by decide) f hf ‹_› hstate)
  · interval_cases f
    · exact absurd hstate ‹_›
    · exact if_pos hstate

theorem PackSideOk.startPass {s : State} (h : PackSideOk s) : PackSideOk s.startPass := by
  have key {f : Nat} {rest : List Nat} (hport : s.labels.port ≠ .printing) (hready : s.labels.ready = f :: rest) : PackSideOk (
      let fr := s.labels.frame f
      let s := match fr.pack with
        | some slot => s.modifyPack slot (fun p => { p with state := .printing })
        | none => s
      let l := s.labels.setFrame f { fr with state := .printing }
      { s with labels := { l with ready := rest, port := .printing, cursor := 0, bitCount := 0,
                                  passTimeout := some l.timeout } }) := by
    obtain ⟨hf, i, p, hi, hp, hst⟩ := h.labels.ready_frame hready
    simp only [hi, State.modifyPack_eq_withPack hp]
    refine ⟨h.table.shelve hp (by simp [Pack.Shelved, hst]) rfl rfl (x := .printing) (b := p.truncated) (m := p.quarantineMix) nofun
      nofun rfl, h.labels.started (State.lt_of_pack? hp) rfl hf hready hi hport rfl ?_⟩
    simp only [Labels.setFrame_eq, State.withPack, hi]
  unfold State.startPass
  split
  · exact key (by simp [*]) ‹_›
  · exact key (by simp [*]) ‹_›
  · exact h

/-- The end of a pass on the frame that prints (R162). -/
theorem Labels.endPass_eq {l : Labels} {f : Nat} (hf : l.printingFrame = some f) (x : LabelPortState) :
    l.endPass x = { l.setFrame f (l.frame f).freed with port := x, passTimeout := none, bitCount := 0 } := by
  rw [Labels.endPass, hf]

theorem PackSideOk.endPass {s : State} (h : PackSideOk s) : PackSideOk s.endPass := by
  unfold State.endPass
  split
  · rename_i hport
    obtain ⟨f, hf, i, p, hpf, hstate, hi, hp, hst⟩ := h.labels.printing_frame hport
    have hpack : ({ s with labels := s.labels.endPass .done } : State).pack? i = some p := hp
    simp only [Labels.printingPack, hpf, Option.bind_some, hi, State.modifyPack_eq_withPack hpack]
    refine ⟨h.table.shelve hp (by simp [Pack.Shelved, hst]) rfl rfl (x := .labelled) (b := p.truncated) (m := p.quarantineMix) nofun nofun
      rfl, h.labels.ended (State.lt_of_pack? hp) (q := { p with state := .labelled }) rfl hf hi hstate (x := .done) nofun (by simp)
        ?_ h.labels.distinct ?_⟩
    · simp only [Labels.endPass_eq hpf, Labels.setFrame_eq, State.withPack]
    · exact h.labels.mem_queue_same (State.lt_of_pack? hp) rfl (by simp [State.packIs, hp, hst])
  · exact h

theorem PackSideOk.expirePass {s : State} (h : PackSideOk s) : PackSideOk s.expirePass := by
  unfold State.expirePass
  split
  · rename_i hport
    obtain ⟨f, hf, i, p, hpf, hstate, hi, hp, hst⟩ := h.labels.printing_frame hport
    have hpack : ({ s with labels := s.labels.endPass .fault } : State).pack? i = some p := hp
    have hout : i ∉ s.labels.queue := fun hmem => by
      have := (State.packIs_of_pack? hp _).mp ((h.labels.queue i).mp hmem)
      rw [hst] at this
      cases this
    simp only [Labels.printingPack, hpf, Option.bind_some, hi, hpack, State.queueHead, State.modifyPack_eq_withPack hpack]
    refine ⟨h.table.shelve hp (by simp [Pack.Shelved, hst]) rfl rfl (x := .labelQueued) (b := p.truncated) (m := p.quarantineMix) nofun
      nofun rfl, h.labels.ended (l := i :: s.labels.queue) (State.lt_of_pack? hp) (q := { p with state := .labelQueued }) rfl hf hi
        hstate (x := .fault) nofun (by simp) ?_ (List.nodup_cons.mpr ⟨hout, h.labels.distinct⟩) ?_⟩
    · simp only [State.raise, Labels.endPass_eq hpf, Labels.setFrame_eq, State.withPack]
    · exact h.labels.mem_queue_join (State.lt_of_pack? hp) rfl (by simp)
  · exact h

/-- Cursor, bit count, port and timeout change, the frames and lists being the same ones (R161, R163). -/
theorem PackSideOk.port {s : State} (h : PackSideOk s) {l : Labels} (hl : LabelPortOk l) (hq : l.queue = s.labels.queue := by rfl)
    (hr : l.ready = s.labels.ready := by rfl) (h0 : l.frame0 = s.labels.frame0 := by rfl)
    (h1 : l.frame1 = s.labels.frame1 := by rfl) : PackSideOk { s with labels := l } := by
  obtain ⟨htable, hd, hqueue, hrd, hready, ⟨hframes, hapart, hplaced⟩, -⟩ := h
  have hframe (n : Nat) : l.frame n = s.labels.frame n := by rw [Labels.frame, Labels.frame, h0, h1]
  refine ⟨htable.move htable.queue (fun _ => rfl) rfl htable.plans, hq ▸ hd, fun i => ?_, hr ▸ hrd, fun n => ?_,
    ⟨fun n hn => ?_, ?_, ?_⟩, hl⟩
  · dsimp only
    rw [hq]
    exact hqueue i
  · dsimp only
    rw [hr, hframe]
    exact hready n
  · dsimp only
    rw [hframe]
    exact hframes n hn
  · simp only [hframe]
    exact hapart
  · simp only [hframe]
    exact hplaced

theorem PackSideOk.clockRows {s : State} (h : PackSideOk s) (n : Nat) : PackSideOk (s.clockRows n) := by
  obtain ⟨-, -, -, hcursor, -, htemplates, htimeout⟩ := h.labels.port
  refine h.port (h.labels.port.same (fun _ _ => Iff.rfl) rfl rfl ⟨?_, Nat.mod_lt _ (by decide)⟩ htemplates htimeout)
  dsimp only
  split
  · exact Nat.min_le_left _ _
  · exact hcursor

theorem PackSideOk.portSet {s : State} (h : PackSideOk s) {t : Nat} (ht : 1 ≤ t ∧ t ≤ 60) :
    PackSideOk { s with labels := { s.labels with timeout := t } } := by
  obtain ⟨-, -, -, hcursor, hbits, htemplates, -⟩ := h.labels.port
  exact h.port (h.labels.port.same (fun _ _ => Iff.rfl) rfl rfl ⟨hcursor, hbits⟩ htemplates ht)

theorem PackSideOk.portClear {s : State} (h : PackSideOk s) (hport : s.labels.port ≠ .printing) :
    PackSideOk { s with labels := { s.labels with port := .idle, bitCount := 0 } } := by
  obtain ⟨hprinting, hsingle, hpass, hcursor, -, htemplates, htimeout⟩ := h.labels.port
  exact h.port ⟨iff_of_false nofun fun hf => hport (hprinting.mpr hf), hsingle,
    iff_of_false (fun hs => hport (hpass.mp hs)) nofun, hcursor, Nat.zero_lt_succ _, htemplates, htimeout⟩

/-! ## The entry of a charge into quarantine (R18, R140) -/

theorem LabelSideOk.withdrawFrame_eq {s u : State} (h : LabelSideOk s) {i f : Nat} (hf : f < 2)
    (hpack : (s.labels.frame f).pack = some i) (hready : (s.labels.frame f).state = .ready) (hu : u.labels = s.labels) :
    u.withdrawFrame i = { u with labels := { s.labels.setFrame f (s.labels.frame f).freed with
      ready := s.labels.ready.filter (· ≠ f) } } := by
  rw [State.withdrawFrame, hu]
  interval_cases f
  · exact if_pos ⟨hready, hpack⟩
  · refine (if_neg fun h0 => ?_).trans (if_pos ⟨hready, hpack⟩)
    exact absurd (h.frames.apart 0 (by decide) 1 (by decide) i h0.2 hpack) (by decide)

/-- A live pack gets the quarantine mark (R140). -/
theorem PackSideOk.mark {s : State} (h : PackSideOk s) {i : Nat} {p : Pack} (hp : s.pack? i = some p) :
    PackSideOk (s.withPack i { p with quarantineMix := true }) := by
  obtain ⟨hb, hphase, hcontent⟩ := h.table.slot hp
  obtain ⟨h1, h2, h3, h4⟩ := hphase
  exact h.alter hp ⟨rfl, rfl, rfl, h.table.queue.congr rfl, fun _ _ => rfl⟩ rfl ⟨hb, ⟨h1, h2, h3, h4⟩, hcontent.of_eq⟩ rfl rfl rfl rfl

section Withdraw
variable {s : State} {i : Nat} {p : Pack} (h : PackSideOk s) (hp : s.pack? i = some p)
include hp

/-- A pack with the quarantine mark is HELD, wherever its label was (R140). -/
theorem State.holdPack_marked {u : State} (hu : u.packs = (s.withPack i { p with quarantineMix := true }).packs) (n : Nat) :
    u.holdPack i n = { u with
      packs := (s.withPack i { p with state := .held, quarantineMix := true }).packs
      attention := (u.raise .packHeld (.pack n)).attention } := by
  have hpack : u.pack? i = some { p with quarantineMix := true } := by
    rw [State.pack?, hu]
    exact (State.pack?_withPack s i i _ (State.lt_of_pack? hp)).trans (if_pos rfl)
  rw [State.holdPack_eq hpack, State.withPack, hu]
  simp only [State.withPack, List.set_set]
  rfl

include h

/-- The Pack Table with a pack that is withdrawn from its label work. -/
theorem PackSideOk.withdrawn_table (hs : p.Shelved) {u : State} (hk : u.tracker = s.tracker) (hsorter : u.sorter = s.sorter)
    (hu : u.packs = (s.withPack i { p with state := .held, quarantineMix := true }).packs) : PackTableOk u :=
  h.table.shelve hp hs hk hsorter (x := .held) (b := p.truncated) (m := true) nofun nofun hu

/-- A queued pack leaves the label queue and is HELD (R140, R157). -/
theorem PackSideOk.withdrawQueued (hst : p.state = .labelQueued) (n : Nat) :
    PackSideOk (((s.withPack i { p with quarantineMix := true }).unqueue i).holdPack i n) := by
  rw [State.holdPack_marked (u := (s.withPack i { p with quarantineMix := true }).unqueue i) hp rfl]
  refine ⟨h.withdrawn_table hp (by simp [Pack.Shelved, hst]) rfl rfl rfl,
    h.labels.depart (State.lt_of_pack? hp) rfl rfl ((State.packIs_of_pack? hp _).mpr hst) ?_ rfl⟩
  rintro _ ⟨⟩
  simp

/-- A pack in a READY frame leaves it and is HELD (R140, R159). -/
theorem PackSideOk.withdrawReady (hst : p.state = .labelReady) (n : Nat) :
    PackSideOk (((s.withPack i { p with quarantineMix := true }).withdrawFrame i).holdPack i n) := by
  obtain ⟨f, hf, hpack⟩ := h.labels.frames.placed i (.inl ((State.packIs_of_pack? hp _).mpr hst))
  have hready : (s.labels.frame f).state = .ready := by
    rcases (h.labels.frames.frames f hf).of_pack hpack with ⟨hready, -⟩ | ⟨-, his⟩
    · exact hready
    · rw [State.packIs_of_pack? hp, hst] at his
      cases his
  rw [h.labels.withdrawFrame_eq (u := s.withPack i { p with quarantineMix := true }) hf hpack hready rfl,
    State.holdPack_marked (u := { s.withPack i { p with quarantineMix := true } with
      labels := { s.labels.setFrame f (s.labels.frame f).freed with ready := s.labels.ready.filter (· ≠ f) } }) hp rfl]
  refine ⟨h.withdrawn_table hp (by simp [Pack.Shelved, hst]) rfl rfl rfl,
    h.labels.withdrawn (State.lt_of_pack? hp) rfl hf hpack hready ?_ rfl⟩
  rintro _ ⟨⟩
  simp

end Withdraw

theorem PackSideOk.withdrawPack {s : State} (h : PackSideOk s) (charge i : Nat) : PackSideOk (s.withdrawPack charge i) := by
  unfold State.withdrawPack
  split
  · exact h
  · rename_i p hp
    split
    · rw [State.modifyPack_eq_withPack hp]
      dsimp only
      split
      · exact h.withdrawQueued hp ‹_› p.number
      · exact h.withdrawReady hp ‹_› p.number
      · exact h.mark hp
    · exact h

theorem PackSideOk.withdrawPacks {s : State} (h : PackSideOk s) (charge : Nat) : PackSideOk (s.withdrawPacks charge) :=
  List.foldlRecOn (motive := PackSideOk) _ _ h fun _ ht i _ => ht.withdrawPack charge i

theorem PackSideOk.enterQuarantine {s : State} (h : PackSideOk s) (i n : Nat) : PackSideOk (s.enterQuarantine i n) :=
  PackSideOk.withdrawPacks (h.congr) i

end Sys2Proof.Machine
end

section
/-! What the kiln side, the charges and the reports leave of queue, plans, packs and labels: all of it. -/

namespace Sys2Proof.Machine

/-- The records that the agreement of packs and labels speaks of. -/
def State.packSide (s : State) : Tracker × Sorter × PackTable × Labels := (s.tracker, s.sorter, s.packs, s.labels)

section Operations
variable (s : State)

@[simp] theorem State.raise_packSide (k : AttnClass) (o : AttnObject) : (s.raise k o).packSide = s.packSide := rfl

@[simp] theorem State.setChamber_packSide (n : Nat) (c : Chamber) : (s.setChamber n c).packSide = s.packSide := rfl

@[simp] theorem State.setSchedule_packSide (n : Nat) (sc : Option Schedule) : (s.setSchedule n sc).packSide = s.packSide := rfl

@[simp] theorem State.modifyCharge_packSide (i : Nat) (f : Charge → Charge) : (s.modifyCharge i f).packSide = s.packSide := rfl

@[simp] theorem State.modifyChargeOf_packSide (i : Option Nat) (f : Charge → Charge) :
    (s.modifyChargeOf i f).packSide = s.packSide := by cases i <;> rfl

@[simp] theorem State.modifyRefCount_packSide (n : Nat) (f : Nat → Nat) : (s.modifyRefCount n f).packSide = s.packSide := by
  unfold State.modifyRefCount
  split <;> rfl

@[simp] theorem State.raiseFault_packSide (b : Bool) (n : Nat) : (s.raiseFault b n).packSide = s.packSide := by
  unfold State.raiseFault
  split <;> rfl

/-! ## The kiln side -/

@[simp] theorem State.advanceStep_packSide (n : Nat) (c : Chamber) (how : LastAdvance) :
    (s.advanceStep n c how).packSide = s.packSide := by
  unfold State.advanceStep
  split
  · rfl
  · dsimp only
    split
    · rfl
    · simp [State.completeChamber]

theorem State.limitAction_packSide (n : Nat) : (s.limitAction n).packSide = s.packSide := by
  unfold State.limitAction
  split
  · rfl
  · split
    · dsimp only
      split
      · split <;> simp
      · simp
    · rfl

theorem State.settleTicks_packSide : s.settleTicks.packSide = s.packSide :=
  List.foldlRecOn (motive := fun t => State.packSide t = s.packSide) (List.range Config.chambers)
    (fun s k => s.limitAction (k + 1)) rfl fun t ht k _ => (t.limitAction_packSide (k + 1)).trans ht

theorem State.startDeferred_packSide : s.startDeferred.packSide = s.packSide := by
  unfold State.startDeferred
  split <;> rfl

theorem State.fieldEvent_packSide {f : State → State} (hf : ∀ s, (f s).packSide = s.packSide) :
    (s.fieldEvent f).packSide = s.packSide := by
  unfold State.fieldEvent
  split
  · rfl
  · exact hf s

@[simp] theorem State.settle_packSide : s.settle.packSide = s.packSide :=
  s.fieldEvent_packSide fun s => (s.settleTicks.startDeferred_packSide).trans s.settleTicks_packSide

@[simp] theorem State.timerExpiry_packSide : s.timerExpiry.packSide = s.packSide := by
  unfold State.timerExpiry
  split
  · rfl
  · dsimp only
    split <;> rfl

@[simp] theorem State.beginTransaction_packSide : s.beginTransaction.packSide = s.packSide := by
  unfold State.beginTransaction
  split
  · split
    · rfl
    · split
      · rfl
      · split <;> rfl
  · rfl

theorem State.openWindow_packSide : s.openWindow.packSide = s.packSide := by
  unfold State.openWindow
  split
  · split <;> rfl
  · rfl

theorem State.testMoisture_packSide (n : Nat) (c : Chamber) : (s.testMoisture n c).packSide = s.packSide := by
  unfold State.testMoisture
  split
  · split
    · exact s.advanceStep_packSide n c .moisture
    · rfl
  · rfl

theorem State.acceptScan_packSide (n : Nat) (sc : ScanReadings) : (s.acceptScan n sc).packSide = s.packSide := by
  unfold State.acceptScan
  split
  · rfl
  · split
    · rfl
    · exact (State.testMoisture_packSide _ n _).trans (by simp)

theorem State.takeMiss_packSide (n count limit : Nat) : (s.takeMiss n count limit).packSide = s.packSide := by
  unfold State.takeMiss
  split
  · rfl
  · split
    · rfl
    · split
      · simp
      · rfl

theorem State.endTransaction_packSide (t : Transaction) (o : ReplyOutcome) (chars : List RxChar) :
    (s.endTransaction t o chars).packSide = s.packSide := by
  have turn (u : State) : (match u.port.turn with
      | some k => { u with port := u.port.nextTurn k }
      | none => u).packSide = u.packSide := by split <;> rfl
  unfold State.endTransaction
  refine (turn _).trans ?_
  split
  · exact State.acceptScan_packSide _ _ _
  · exact State.takeMiss_packSide _ _ _ _

@[simp] theorem State.receiveReply_packSide (chars : List RxChar) : (s.receiveReply chars).packSide = s.packSide := by
  unfold State.receiveReply
  split
  · split
    · dsimp only
      split
      · exact s.endTransaction_packSide _ _ _
      · rfl
    · rfl
  · rfl

@[simp] theorem State.closeWindow_packSide (chars : List RxChar) : (s.closeWindow chars).packSide = s.packSide := by
  unfold State.closeWindow
  split
  · split
    · exact s.endTransaction_packSide _ _ _
    · rfl
  · rfl

end Operations

/-! ## Requests -/

/-- Whatever the owner of a request answers OK, queue, plans, packs and labels are as they were. -/
def Aside (owner : List Byte → State → Reply) : Prop := ∀ p s a t, owner p s = .ok a t → t.packSide = s.packSide

/-! ### Reports -/

theorem aside_partIdent : Aside partIdent := by intro p s a t h; grind [partIdent]

theorem aside_chargeRead : Aside chargeRead := by intro p s a t h; grind [chargeRead, onCharge]

theorem aside_chargeList : Aside chargeList := by intro p s a t h; grind [chargeList]

theorem aside_speciesRead : Aside speciesRead := by intro p s a t h; grind [speciesRead]

theorem aside_mcTest : Aside mcTest := by intro p s a t h; grind [mcTest]

theorem aside_schedRead : Aside schedRead := by intro p s a t h; grind [schedRead, onSchedule]

theorem aside_chamberRead : Aside chamberRead := by intro p s a t h; grind [chamberRead, onChamber]

theorem aside_kilnPortRead : Aside kilnPortRead := by intro p s a t h; grind [kilnPortRead]

theorem aside_transitRead : Aside transitRead := by intro p s a t h; grind [transitRead]

theorem aside_planRead : Aside planRead := by intro p s a t h; grind [planRead]

theorem aside_packRead : Aside packRead := by intro p s a t h; grind [packRead, onPack]

theorem aside_packList : Aside packList := by intro p s a t h; grind [packList]

theorem aside_templateRead : Aside templateRead := by intro p s a t h; grind [templateRead]

theorem aside_labelRead : Aside labelRead := by intro p s a t h; grind [labelRead]

theorem aside_attnRead : Aside attnRead := by intro p s a t h; grind [attnRead]

/-! ### Charges, species, schedules, chambers, kiln port and attention -/

theorem aside_chargeCreate : Aside chargeCreate := by intro p s a t h; grind [chargeCreate, State.packSide]

theorem aside_chargeLimits : Aside chargeLimits := by intro p s a t h; grind [chargeLimits, State.modifyCharge_packSide]

theorem aside_chargeRelease : Aside chargeRelease := by intro p s a t h; grind [chargeRelease, State.modifyCharge_packSide]

theorem aside_chargeFeedEnd : Aside chargeFeedEnd := by
  intro p s a t h; grind [chargeFeedEnd, onCharge, State.modifyCharge_packSide]

theorem aside_chargeRetire : Aside chargeRetire := by intro p s a t h; grind [chargeRetire, onCharge, State.packSide]

theorem aside_speciesSet : Aside speciesSet := by intro p s a t h; grind [speciesSet, State.packSide]

theorem aside_schedDefine : Aside schedDefine := by intro p s a t h; grind [schedDefine, State.setSchedule_packSide]

theorem aside_schedAmend : Aside schedAmend := by intro p s a t h; grind [schedAmend, State.setSchedule_packSide]

theorem aside_schedDelete : Aside schedDelete := by intro p s a t h; grind [schedDelete, onSchedule, State.setSchedule_packSide]

theorem aside_chamberLoad : Aside chamberLoad := by
  intro p s a t h
  grind [chamberLoad, State.setChamber_packSide, State.modifyRefCount_packSide, State.modifyCharge_packSide]

theorem aside_chamberStart : Aside chamberStart := by
  intro p s a t h; grind [chamberStart, onChamber, State.setChamber_packSide]

theorem aside_chamberHold : Aside chamberHold := by intro p s a t h; grind [chamberHold, onChamber, State.setChamber_packSide]

theorem aside_chamberResume : Aside chamberResume := by
  intro p s a t h; grind [chamberResume, onChamber, State.setChamber_packSide]

theorem aside_chamberSkip : Aside chamberSkip := by
  intro p s a t h; grind [chamberSkip, onChamber, State.setChamber_packSide, State.advanceStep_packSide]

theorem aside_chamberReload : Aside chamberReload := by
  intro p s a t h; grind [chamberReload, onChamber, State.setChamber_packSide]

theorem aside_chamberAbort : Aside chamberAbort := by
  intro p s a t h; grind [chamberAbort, onChamber, State.setChamber_packSide]

theorem aside_chamberUnload : Aside chamberUnload := by
  intro p s a t h
  grind [chamberUnload, onChamber, State.setChamber_packSide, State.modifyRefCount_packSide, State.modifyChargeOf_packSide]

theorem aside_kilnPortSet : Aside kilnPortSet := by intro p s a t h; grind [kilnPortSet, State.packSide]

theorem aside_attnAck : Aside attnAck := by intro p s a t h; grind [attnAck, State.packSide]

theorem aside_attnMask : Aside attnMask := by intro p s a t h; grind [attnMask, State.packSide]

end Sys2Proof.Machine
end

section
/-! The plans that PLAN_LOAD builds and the placements that TEMPLATE_LOAD takes are in order. -/

namespace Sys2Proof.Machine

/-! ## PLAN_LOAD (R120, R121) -/

theorem length_readBins (p : List Byte) (n : Nat) : (readBins p n).length = n := by
  induction n generalizing p with
  | zero => rfl
  | succ n ih => simp [readBins, ih]

theorem length_readRules (p : List Byte) (m : Nat) : (readRules p m).length = m := by
  induction m generalizing p with
  | zero => rfl
  | succ m ih => simp [readRules, ih]

/-- A header part that keeps the conditions of R120 starts a plan in order. -/
theorem readHeader_ok {p : List Byte} (h : (readHeader p).headerOk = true) : (readHeader p).Ok := by
  refine ⟨h, ?_, ?_, fun b hb => ?_, Nat.zero_le _, nofun⟩
  · simp [readHeader, length_readBins, Config.bins]
  · simp [readHeader, length_readBins, Config.bins]
  · exact ((mem_members _ _ _).mp hb).1

theorem mem_readRules {pl : Plan} {p : List Byte} {m : Nat} (h : rulesOk pl p m = true) :
    ∀ r ∈ readRules p m, r.bin < Config.bins ∧ (pl.quarantine ≠ pl.reject → r.bin ≠ pl.quarantine) := by
  induction m generalizing p with
  | zero => nofun
  | succ m ih =>
    obtain ⟨hrule, hrest⟩ := (Bool.and_eq_true _ _).mp h
    refine List.forall_mem_cons.mpr ⟨?_, ih hrest⟩
    simp only [ruleOk, Bool.and_eq_true, Bool.not_eq_true', decide_eq_true_eq] at hrule
    obtain ⟨⟨-, hbin⟩, hquarantine⟩ := hrule
    exact ⟨Nat.lt_succ_of_le hbin, fun hne hq => by simp [hq, hne] at hquarantine⟩

/-- A rule part that fits the plan's rule count leaves a plan in order. -/
theorem Plan.Ok.addRules {pl : Plan} (h : pl.Ok) {p : List Byte} {m : Nat} (hm : pl.rules.length + m ≤ pl.ruleCount)
    (hp : rulesOk pl p m = true) : ({ pl with rules := pl.rules ++ readRules p m } : Plan).Ok := by
  obtain ⟨hheader, htemplates, htargets, hbuilding, -, hrules⟩ := h
  refine ⟨hheader, htemplates, htargets, hbuilding, ?_, fun r hr => ?_⟩
  · simpa [length_readRules] using hm
  · exact (List.mem_append.mp hr).elim (hrules r) (mem_readRules hp r)

/-! ## TEMPLATE_LOAD (R152, R153) -/

theorem readPlacement_ok {p : List Byte} {pl : Placement} (hlen : p.length ≤ 49) (h : readPlacement p = some pl) : pl.Ok := by
  unfold readPlacement at h
  split at h
  · cases h
  · dsimp only at h
    split at h
    · cases h
    · rename_i hrange
      cases h
      simp only [not_or, not_and_or, Nat.not_lt, Bool.not_eq_true, Bool.not_eq_false', not_not] at hrange
      obtain ⟨hcol, hrow, hcols, hrows, hprint, hkind⟩ := hrange
      refine ⟨⟨hcols, hcol, hrows, hrow⟩, by rw [List.length_drop]; omega, fun b hb => ?_, fun hk => hkind.resolve_left hk⟩
      simpa [printable] using List.all_eq_true.mp hprint b hb

/-- A load takes a placement in order, and replaces its template when it is complete (R153). -/
theorem TemplatesOk.append {s : State} (h : TemplatesOk s) {t : TemplateLoad} (ht : s.labels.load = some t) {pl : Placement}
    (hpl : pl.Ok) : TemplatesOk { s with labels := s.labels.appendPlacement t pl } := by
  obtain ⟨hlen, htemplates, hload⟩ := h
  obtain ⟨hindex, hroom, hcount, hreceived⟩ := hload t (Option.mem_toList.mpr ht)
  have hgot : ∀ x ∈ t.received ++ [pl], x.Ok := fun x hx =>
    (List.mem_append.mp hx).elim (hreceived x) fun hx => List.mem_singleton.mp hx ▸ hpl
  unfold Labels.appendPlacement
  dsimp only
  split
  · refine ⟨hlen, htemplates, fun u hu => ?_⟩
    obtain rfl := Option.mem_some.mp (Option.mem_toList.mp hu)
    exact ⟨hindex, ‹_›, hcount, hgot⟩
  · refine ⟨List.length_set.trans hlen, fun l hl => ?_, nofun⟩
    rcases List.mem_or_eq_of_mem_set hl with hl | rfl
    · exact htemplates l hl
    · refine ⟨?_, hgot⟩
      rw [List.length_append, List.length_singleton]
      omega

theorem TemplatesOk.begin {s : State} (h : TemplatesOk s) {index count : Nat} (hi : index ≤ 3) (h1 : count ≠ 0)
    (h16 : count ≤ 16) : TemplatesOk { s with labels := { s.labels with load := some ⟨index, count, []⟩ } } := by
  obtain ⟨hlen, htemplates, -⟩ := h
  refine ⟨hlen, htemplates, fun u hu => ?_⟩
  obtain rfl := Option.mem_some.mp (Option.mem_toList.mp hu)
  exact ⟨Nat.lt_succ_of_le hi, Nat.pos_of_ne_zero h1, h16, nofun⟩

theorem Labels.length_appendPlacement (l : Labels) (t : TemplateLoad) (pl : Placement) :
    (l.appendPlacement t pl).templates.length = l.templates.length := by
  unfold Labels.appendPlacement
  dsimp only
  split
  · rfl
  · exact List.length_set

/-- What TEMPLATE_LOAD leaves of the label side but for the templates: all of it. -/
theorem PackSideOk.template {s : State} (h : PackSideOk s) {l : Labels}
    (hl : l = { s.labels with templates := l.templates, load := l.load })
    (hlen : l.templates.length = s.labels.templates.length) : PackSideOk { s with labels := l } := by
  obtain ⟨-, -, -, hcursor, hbits, htemplates, htimeout⟩ := h.labels.port
  refine h.port (h.labels.port.same (fun n _ => ?_) ?_ ?_ ?_ (hlen.trans htemplates) ?_) ?_ ?_ ?_ ?_
  all_goals rw [hl]
  · rfl
  · exact ⟨hcursor, hbits⟩
  · exact htimeout

/-! ## Templates that no other operation changes (R151) -/

/-- The templates and the template load in progress. -/
def Labels.card (l : Labels) : List (List Placement) × Option TemplateLoad := (l.templates, l.load)

theorem TemplatesOk.congr {s t : State} (h : TemplatesOk s) (ht : t.labels.card = s.labels.card) : TemplatesOk t := by
  obtain ⟨htemplates, hload⟩ := Prod.mk.inj ht
  unfold TemplatesOk
  rw [htemplates, hload]
  exact h

section Card
variable (s : State)

@[simp] theorem Labels.setFrame_card (l : Labels) (n : Nat) (f : Frame) : (l.setFrame n f).card = l.card := by
  rw [Labels.setFrame_eq]
  rfl

theorem State.closePack_card (i : Nat) : (s.closePack i).labels.card = s.labels.card := by
  unfold State.closePack
  split
  · rfl
  · split
    · rfl
    · split <;> rfl

theorem State.closeRequest_card (i : Nat) (why : CloseReason) : (s.closeRequest i why).labels.card = s.labels.card := by
  unfold State.closeRequest
  split
  · rfl
  · dsimp only
    split
    · exact State.closePack_card _ i
    · rfl

theorem State.bindPack_card (i : Nat) : (s.bindPack i).labels.card = s.labels.card := by
  unfold State.bindPack
  dsimp only
  split
  · rfl
  · split
    · exact State.closeRequest_card _ i .target
    · rfl

theorem State.stageFive_card (q bin : Nat) (why : Reason) (pl : Plan) :
    (s.stageFive q bin why pl).1.labels.card = s.labels.card := by
  have hbind : (s.bindBoard bin pl).1.labels.card = s.labels.card := by
    unfold State.bindBoard
    split
    · exact s.bindPack_card _
    · split
      · exact State.bindPack_card _ _
      · rfl
  unfold State.stageFive
  split
  · split
    · rename_i h
      rw [h] at hbind
      exact hbind
    · rename_i h
      rw [h] at hbind
      exact hbind
  · rfl

theorem State.deliver_card (i : Nat) (d : Decision) : (s.deliver i d).labels.card = s.labels.card := by
  unfold State.deliver
  split
  · rfl
  · dsimp only
    split
    · exact (State.closePack_card _ i).trans (by simp)
    · simp

theorem State.unbindPack_card (i : Nat) : (s.unbindPack i).labels.card = s.labels.card := by
  unfold State.unbindPack
  split
  · rfl
  · dsimp only
    split
    · split
      · exact State.closePack_card _ i
      · split <;> rfl
    · rfl

theorem State.withdrawFrame_card (i : Nat) : (s.withdrawFrame i).labels.card = s.labels.card := by
  unfold State.withdrawFrame
  dsimp only
  split
  · rfl
  · split <;> rfl

theorem State.withdrawPack_card (charge i : Nat) : (s.withdrawPack charge i).labels.card = s.labels.card := by
  unfold State.withdrawPack
  split
  · rfl
  · split
    · dsimp only
      split
      · rfl
      · exact State.withdrawFrame_card _ i
      · rfl
    · rfl

theorem State.enterQuarantine_card (i n : Nat) : (s.enterQuarantine i n).labels.card = s.labels.card :=
  List.foldlRecOn (motive := fun t : State => t.labels.card = s.labels.card) _ _ rfl fun t ht k _ =>
    (t.withdrawPack_card i k).trans ht

theorem State.composition_card : s.composition.labels.card = s.labels.card := by
  unfold State.composition
  split
  · split
    · exact Labels.setFrame_card _ _ _
    · rfl
  · rfl

theorem State.startPass_card : s.startPass.labels.card = s.labels.card := by
  unfold State.startPass
  split
  · dsimp only
    split <;> exact Labels.setFrame_card _ _ _
  · dsimp only
    split <;> exact Labels.setFrame_card _ _ _
  · rfl

theorem Labels.endPass_card (l : Labels) (x : LabelPortState) : (l.endPass x).card = l.card := by
  unfold Labels.endPass
  split
  · exact Labels.setFrame_card _ _ _
  · rfl

theorem State.endPass_card : s.endPass.labels.card = s.labels.card := by
  unfold State.endPass
  split
  · dsimp only
    split <;> exact s.labels.endPass_card .done
  · rfl

theorem State.expirePass_card : s.expirePass.labels.card = s.labels.card := by
  unfold State.expirePass
  split
  · dsimp only
    split
    · split <;> exact s.labels.endPass_card .fault
    · exact s.labels.endPass_card .fault
  · rfl

end Card

end Sys2Proof.Machine
end

section
/-! The agreement of packs and labels through every operation of the outfeed, the packs and the labels. -/

namespace Sys2Proof.Machine

/-- From `b` to `s` the agreement of queue, plans, packs and labels is kept, and the templates stay in order. -/
structure PackSideKept (b s : State) : Prop where
  side : PackSideOk b → PackSideOk s
  templates : TemplatesOk b → TemplatesOk s

/-- The plan that a decision reads is in order (R114). -/
theorem PackSideOk.planOf {s : State} (h : PackSideOk s) (n : Nat) : (s.sorter.planOf n).Ok := by
  rw [Sorter.planOf]
  rcases hp : (s.sorter.slot n).plan with _ | pl
  · exact Plan.default_ok
  · exact h.table.plans n pl hp

theorem Entry.packSlot_of_waits {e : Entry} (h : e.decision = none) : e.packSlot = none := by
  rw [Entry.packSlot, h]
  rfl

theorem Entry.packSlot_of_decided {e : Entry} {d : Decision} (h : e.decision = some d) : e.packSlot = d.packSlot := by
  rw [Entry.packSlot, h]
  rfl

theorem State.closePack_sorter (s : State) (i : Nat) : (s.closePack i).sorter = s.sorter := by
  rw [State.eq_of_apart (s.closePack_apart i)]

theorem State.modifyChargeOf_sorter (s : State) (o : Option Nat) (f : Charge → Charge) :
    (s.modifyChargeOf o f).sorter = s.sorter := by
  cases o <;> rfl

theorem State.deliver_sorter (s : State) (i : Nat) (d : Decision) : (s.deliver i d).sorter = s.sorter := by
  unfold State.deliver
  split
  · rfl
  · dsimp only
    split
    · rw [State.closePack_sorter, State.modifyChargeOf_sorter]
      rfl
    · rw [State.modifyChargeOf_sorter]
      rfl

/-- The board of a decided entry is delivered into its pack, if it has one, and the entry is gone (R106). -/
theorem PackSideOk.closeEntry {s u : State} (h : PackSideOk s) {e : Entry} {d : Decision} (he : e ∈ s.tracker.queue)
    (hd : e.decision = some d) {o : Option Nat} (hu : u = match d.packSlot with
      | some i => s.deliver i d
      | none => s) (f : Charge → Charge) : PackSideOk ((u.modifyChargeOf o f).removeEntry e.sequence) := by
  have hslot := Entry.packSlot_of_decided hd
  obtain ⟨l, r, hq⟩ := h.table.queue.queueAt he
  have hleft (ht : u.tracker = s.tracker) : (u.modifyChargeOf o f).removeEntry e.sequence = (u.modifyChargeOf o f).withQueue (l ++ r) :=
    State.removeEntry_of_queueAt (by rwa [State.QueueAt, State.modifyChargeOf_tracker, ht])
  have htracker (ht : u.tracker = s.tracker) :
      ((u.modifyChargeOf o f).withQueue (l ++ r)).tracker = { s.tracker with queue := l ++ r } := by
    rw [State.withQueue, State.modifyChargeOf_tracker, ht]
  rcases hp : d.packSlot with _ | i
  · obtain rfl : u = s := by rw [hu, hp]
    rw [hleft rfl]
    exact h.leave hq.1 (htracker rfl) (hslot.trans hp) (State.modifyChargeOf_packs _ _ _) (State.modifyChargeOf_labels _ _ _)
      (State.modifyChargeOf_sorter _ _ _)
  · obtain rfl : u = s.deliver i d := by rw [hu, hp]
    rw [hleft (s.deliver_tracker i d)]
    exact h.delivered hq.1 (htracker (s.deliver_tracker i d))
      ((State.modifyChargeOf_sorter _ _ _).trans (s.deliver_sorter i d)) (hslot.trans hp)
      (State.modifyChargeOf_packs _ _ _) (State.modifyChargeOf_labels _ _ _)

/-- A queue that a new edge enters at the tail is in order (R97). -/
theorem QueueOk.enter {s : State} (h : QueueOk s) {q : Nat} (hl : s.tracker.queue.length < Config.transitPlaces) (hq : q < 256)
    (hne : ∀ e ∈ s.tracker.queue, e.sequence ≠ q) :
    QueueOk (s.withQueue (s.tracker.queue ++ [⟨q, s.tracker.position, none⟩])) := by
  obtain ⟨h1, h2, h3, h4, h5⟩ := h
  refine ⟨?_, ?_, fun e he => ?_, h4, h5⟩
  · simpa [State.withQueue] using hl
  · simp only [State.withQueue, List.map_append, List.map_cons, List.map_nil, List.nodup_append, List.mem_singleton]
    refine ⟨h2, List.nodup_singleton _, ?_⟩
    rintro _ ha _ rfl
    obtain ⟨e, he, rfl⟩ := List.mem_map.mp ha
    exact hne e he
  · simp only [State.withQueue, List.mem_append, List.mem_singleton] at he
    rcases he with he | rfl
    · exact h3 e he
    · exact ⟨hq, h4⟩

namespace PackSideKept
variable {b s t : State}

theorem refl (s : State) : PackSideKept s s := ⟨id, id⟩

/-- An operation that keeps the agreement and leaves the templates. -/
theorem next (h : PackSideKept b s) (hs : PackSideOk s → PackSideOk t) (hc : t.labels.card = s.labels.card) :
    PackSideKept b t :=
  ⟨fun hb => hs (h.side hb), fun hb => (h.templates hb).congr hc⟩

theorem congr (h : PackSideKept b s) (ht : t.packSide = s.packSide) : PackSideKept b t := by
  simp only [State.packSide, Prod.mk.injEq] at ht
  obtain ⟨hk, hs, hp, hl⟩ := ht
  exact h.next (fun h => h.congr hk hs hp hl) (by rw [hl])

/-! ## The plan slots (R114, R124) -/

theorem plans (h : PackSideKept b s) {x : Sorter} (hx : PackSideOk b → ∀ n pl, (x.slot n).plan = some pl → pl.Ok) :
    PackSideKept b { s with sorter := x } :=
  ⟨fun hb => (h.side hb).move ((h.side hb).table.queue.congr rfl) (fun _ => rfl) rfl rfl (hx hb),
    fun hb => (h.templates hb).congr rfl⟩

theorem setPlanSlot (h : PackSideKept b s) {n : Nat} {p : PlanSlot} (hp : PackSideOk b → ∀ pl, p.plan = some pl → pl.Ok) :
    PackSideKept b (s.setPlanSlot n p) := by
  refine h.plans fun hb m pl hm => ?_
  rw [Sorter.slot_setSlot] at hm
  split at hm
  · exact hp hb pl hm
  · exact (h.side hb).table.plans m pl hm

/-- A plan slot with the plan of another one as it was. -/
theorem samePlan (h : PackSideKept b s) {n m : Nat} {p : PlanSlot} (hp : p.plan = (s.sorter.slot m).plan) :
    PackSideKept b (s.setPlanSlot n p) :=
  h.setPlanSlot fun hb pl hpl => (h.side hb).table.plans m pl (hp ▸ hpl)

theorem countDecision (h : PackSideKept b s) (n : Nat) : PackSideKept b (s.countDecision n) := h.samePlan rfl

theorem drainCheck (h : PackSideKept b s) (n : Nat) : PackSideKept b (s.drainCheck n) := by
  unfold State.drainCheck
  dsimp only
  split
  · exact congr (h.setPlanSlot fun _ _ hp => by cases hp) rfl
  · exact h.samePlan rfl

theorem modifyGate (h : PackSideKept b s) (bin : Nat) (f : Nat → Nat) : PackSideKept b (s.modifyGate bin f) :=
  h.plans fun hb => (h.side hb).table.plans

/-! ## The events of an entry (R101, R106) -/

/-- A decision written on an entry that leaves the pack its board is bound to. -/
theorem setDecision (h : PackSideKept b s) {e : Entry} {d : Decision}
    (he : PackSideOk b → e ∈ s.tracker.queue ∧ e.packSlot = d.packSlot) : PackSideKept b (s.setDecision e.sequence d) := by
  refine ⟨fun hb => ?_, fun hb => (h.templates hb).congr rfl⟩
  obtain ⟨hmem, hslot⟩ := he hb
  obtain ⟨l, r, hq⟩ := (h.side hb).table.queue.queueAt hmem
  rw [State.setDecision_of_queueAt hq]
  exact (h.side hb).redecide hq.1 rfl ⟨rfl, rfl⟩ hslot.symm rfl rfl rfl

/-- A decision without a pack, written on an entry that waits. -/
theorem decideUnbound (h : PackSideKept b s) {e : Entry} {d : Decision} (hw : PackSideOk b → s.Waits e)
    (hd : d.packSlot = none) : PackSideKept b (s.setDecision e.sequence d) :=
  h.setDecision fun hs => ⟨(hw hs).1, (Entry.packSlot_of_waits (hw hs).2).trans hd.symm⟩

theorem decideNoData (h : PackSideKept b s) {e : Entry} (hw : PackSideOk b → s.Waits e) : PackSideKept b (s.decideNoData e) :=
  congr (countDecision (h.decideUnbound hw rfl) s.sorter.activeSlot) rfl

theorem openEntry (h : PackSideKept b s) {e : Entry} {d : Decision} (he : e ∈ s.tracker.queue) (hd : e.decision = some d) :
    PackSideKept b (s.openEntry e.sequence d) :=
  (h.setDecision (d := { d with gateOpen := true }) fun _ => ⟨he, (Entry.packSlot_of_decided hd).trans rfl⟩).modifyGate d.bin (· + 1)

theorem closeEntry (h : PackSideKept b s) {e : Entry} {d : Decision} (he : e ∈ s.tracker.queue) (hd : e.decision = some d) :
    PackSideKept b (s.closeEntry e.sequence d) := by
  unfold State.closeEntry
  dsimp only
  refine drainCheck (next (h.modifyGate d.bin (· - 1)) (fun hs => hs.closeEntry he hd rfl _) ?_) d.planSlot
  split
  · exact (congrArg Labels.card (State.modifyChargeOf_labels _ _ _)).trans (State.deliver_card _ _ d)
  · exact congrArg Labels.card (State.modifyChargeOf_labels _ _ _)

/-- The event that an entry is due (R101, R106). -/
theorem takeDue (h : PackSideKept b s) (q : Nat) : PackSideKept b (s.takeDue q) := by
  unfold State.takeDue
  split
  · rename_i due e hdue he
    have hw := State.dueEvent_some hdue he
    obtain ⟨hmem, rfl⟩ := State.mem_of_entry? he
    split
    · refine h.decideNoData fun _ => ⟨hmem, ?_⟩
      cases hd : e.decision with
      | none => rfl
      | some d => simp only [State.targetOf, hd] at hw; split at hw <;> cases hw
    · exact h.openEntry hmem ‹_›
    · exact h.closeEntry hmem ‹_›
    · exact h
  · exact h

theorem takeReached (h : PackSideKept b s) (k q : Nat) : PackSideKept b (s.takeReached k q) := by
  induction k generalizing s with
  | zero => exact h
  | succ k ih =>
    unfold State.takeReached
    split
    · exact ih (h.takeDue q)
    · exact h

theorem chainEvent (h : PackSideKept b s) (due : Due) (q : Nat) : PackSideKept b (s.chainEvent due q) := by
  unfold State.chainEvent
  split
  · exact h.takeReached 3 q
  · exact h

theorem settleChain (h : PackSideKept b s) : PackSideKept b s.settleChain :=
  List.foldlRecOn (motive := PackSideKept b) _ _ h fun _ ht q _ => ht.takeReached 3 q

theorem expiry (h : PackSideKept b s) : PackSideKept b (match s.oldestAwaiting with
    | some e => s.chainEvent .expiry e.sequence
    | none => s) := by
  split
  · exact h.chainEvent .expiry _
  · exact h

/-! ## Edges and pulses (R94, R96) -/

/-- Position, edge sequence, receiver and counts of the tracker change, but not its queue. -/
theorem tracker (h : PackSideKept b s) {k : Tracker} (hq : k.queue = s.tracker.queue := by rfl)
    (hp : s.tracker.position < Config.chainModulus → k.position < Config.chainModulus := by exact id)
    (he : s.tracker.edgeSequence < 256 → k.edgeSequence < 256 := by exact id) : PackSideKept b { s with tracker := k } := by
  refine h.next (fun hs => ?_) rfl
  have hb (j : Nat) : ({ s with tracker := k } : State).boundTo j = s.boundTo j := by
    rw [State.boundTo_eq, State.boundTo_eq]
    exact congrArg _ hq
  obtain ⟨h1, h2, h3, h4, h5⟩ := hs.table.queue
  refine hs.move ⟨?_, ?_, ?_, hp h4, he h5⟩ hb rfl rfl hs.table.plans
  · exact hq ▸ h1
  · exact hq ▸ h2
  · exact hq ▸ h3

/-- An edge that enters the queue at its tail (R97). -/
theorem enter (h : PackSideKept b s) {q : Nat} (hl : s.tracker.queue.length < Config.transitPlaces) (hq : q < 256)
    (hne : ∀ e ∈ s.tracker.queue, e.sequence ≠ q) :
    PackSideKept b (s.withQueue (s.tracker.queue ++ [⟨q, s.tracker.position, none⟩])) := by
  refine h.next (fun hs => ?_) rfl
  refine hs.move (hs.table.queue.enter hl hq hne) (fun j => ?_) rfl rfl hs.table.plans
  rw [State.boundTo_withQueue, State.boundTo_eq, List.countP_append]
  simp [Entry.packSlot]

theorem takeEdge (h : PackSideKept b s) : PackSideKept b s.takeEdge := by
  have hs : PackSideKept b { s with tracker := { s.tracker with edgeSequence := (s.tracker.edgeSequence + 1) % 256 } } :=
    h.tracker rfl id fun _ => Nat.mod_lt _ (by decide)
  unfold State.takeEdge
  dsimp only
  split
  · exact congr hs.tracker rfl
  · rename_i hl
    split
    · exact congr hs.tracker rfl
    · rename_i hq
      refine takeReached (hs.enter (Nat.lt_of_not_le hl) (Nat.mod_lt _ (by decide)) fun e he hne => hq ?_) 3 _
      exact List.any_eq_true.mpr ⟨e, he, by simpa using hne⟩

theorem encPulse (h : PackSideKept b s) : PackSideKept b { s.settleChain with tracker := { s.settleChain.tracker with
    position := (s.settleChain.tracker.position + 1) % Config.chainModulus } } :=
  h.settleChain.tracker rfl fun _ => Nat.mod_lt _ (by decide)

/-! ## A board arrives (R103, R104) -/

theorem enterQuarantine (h : PackSideKept b s) (i n : Nat) : PackSideKept b (s.enterQuarantine i n) :=
  h.next (fun hs => hs.enterQuarantine i n) (s.enterQuarantine_card i n)

theorem measureBoard (h : PackSideKept b s) (m : BoardMessage) (i : Nat) (c : Charge) :
    PackSideKept b (s.measureBoard m i c).1 := by
  have hcounted (f : Charge → Charge) : PackSideKept b (s.modifyCharge i f) := h.congr rfl
  unfold State.measureBoard
  dsimp only
  generalize c.addBoard _ _ = c'
  split
  · dsimp only
    exact (hcounted fun _ => c').enterQuarantine i c'.number
  · exact hcounted fun _ => c'

theorem arriveUnknown (h : PackSideKept b s) {e : Entry} (m : BoardMessage) (hw : s.Waits e) :
    PackSideKept b (s.arriveUnknown e m) :=
  decideUnbound (s := (s.countDecision s.sorter.activeSlot).raiseTransit e.sequence .unknownCharge)
    (congr (h.countDecision s.sorter.activeSlot) rfl) (fun _ => hw) rfl

theorem arriveFound (h : PackSideKept b s) {e : Entry} (m : BoardMessage) (i : Nat) (c : Charge)
    (hw : s.Waits e) : PackSideKept b (s.arriveFound e m i c) := by
  unfold State.arriveFound
  dsimp only
  have htracker := s.measureBoard_tracker m i c
  have hmeasured := h.measureBoard m i c
  generalize s.measureBoard m i c = x at *
  obtain ⟨u, g⟩ := x
  dsimp only at htracker hmeasured ⊢
  have hcounted := hmeasured.countDecision u.sorter.activeSlot
  have hpl : PackSideOk (u.countDecision u.sorter.activeSlot) → (u.sorter.planOf u.sorter.activeSlot).Ok := fun hs => by
    have := hs.planOf u.sorter.activeSlot
    rwa [Sorter.planOf, State.countDecision, State.setPlanSlot, Sorter.slot_setSlot, if_pos Iff.rfl] at this
  have hv : (u.countDecision u.sorter.activeSlot).tracker = s.tracker := htracker
  generalize u.sorter.planOf u.sorter.activeSlot = pl at *
  generalize u.countDecision u.sorter.activeSlot = v at *
  generalize pl.decide _ _ = x
  obtain ⟨bin, why⟩ := x
  have hcard := v.stageFive_card e.sequence bin why pl
  have hline := v.stageFive_tracker e.sequence bin why pl
  have hsorter : (v.stageFive e.sequence bin why pl).1.sorter = v.sorter := by
    rw [State.eq_of_apart (v.stageFive_apart e.sequence bin why pl)]
  generalize hfive : v.stageFive e.sequence bin why pl = y at *
  obtain ⟨w, where_, why', k⟩ := y
  dsimp only at hcard hline hsorter ⊢
  refine hcounted.next (fun hs => ?_) hcard
  obtain ⟨hmem, hwait⟩ := hw
  obtain ⟨l, r, hq⟩ := hs.table.queue.queueAt (e := e) (by rwa [hv])
  have hat : (w.modifyCharge i (fun c => { c with transitRef := c.transitRef + 1 })).QueueAt l e r := by
    rwa [State.QueueAt, State.modifyCharge_tracker, hline]
  have hqueue (e' : Entry) : ((w.modifyCharge i (fun c => { c with transitRef := c.transitRef + 1 })).withQueue
      (l ++ e' :: r)).tracker = { v.tracker with queue := l ++ e' :: r } := by
    rw [State.withQueue, State.modifyCharge_tracker, hline]
  unfold State.decideEntry
  dsimp only
  rw [State.setDecision_of_queueAt hat]
  exact hs.decided hq.1 (hqueue _) hsorter ⟨rfl, rfl⟩ (Entry.packSlot_of_waits hwait) (hpl hs) hfive rfl rfl rfl

theorem arrive (h : PackSideKept b s) {e : Entry} (m : BoardMessage) (hw : s.Waits e) : PackSideKept b (s.arrive e m) := by
  unfold State.arrive
  refine takeReached ?_ 3 e.sequence
  split
  · exact h.arriveUnknown m hw
  · exact h.arriveFound m _ _ hw

/-! ## Pairing (R99, R100) -/

theorem orphan (h : PackSideKept b s) (q : Nat) : PackSideKept b (s.orphan q) := congr h.tracker rfl

/-- Skipped entries that wait, of different sequences, are decided one after the other (R99). -/
theorem skipEntries (h : PackSideKept b s) {l : List Entry}
    (hw : PackSideOk b → (l.map (·.sequence)).Nodup ∧ ∀ e ∈ l, s.Waits e) : PackSideKept b (s.skipEntries l) := by
  unfold State.skipEntries
  induction l generalizing s with
  | nil => exact h
  | cons e l ih =>
    refine ih (takeReached (h.decideNoData fun hb => (hw hb).2 e List.mem_cons_self) 3 e.sequence) fun hb => ?_
    obtain ⟨hn, hwait⟩ := hw hb
    obtain ⟨hne, hn⟩ := List.nodup_cons.mp hn
    refine ⟨hn, fun x hx => ?_⟩
    obtain ⟨hmem, hx'⟩ := hwait x (List.mem_cons_of_mem e hx)
    have hne : x.sequence ≠ e.sequence := fun he => hne (List.mem_map.mpr ⟨x, hx, he⟩)
    exact ⟨State.mem_takeReached (State.mem_decideNoData hmem hne) hne, hx'⟩

theorem pairOrOrphan (h : PackSideKept b s) (m : BoardMessage) : PackSideKept b (s.pairOrOrphan m) := by
  unfold State.pairOrOrphan
  split
  · rename_i e he
    have hq := List.find?_some he
    rw [Bool.and_eq_true] at hq
    exact h.arrive m ⟨List.mem_of_find?_eq_some he, by simpa [Entry.awaiting] using hq.1⟩
  · exact h.orphan m.sequence

theorem pair (h : PackSideKept b s) (m : BoardMessage) : PackSideKept b (s.pair m) := by
  unfold State.pair
  split
  · exact h.orphan m.sequence
  · rename_i e he
    dsimp only
    split
    · exact h.arrive m ⟨List.mem_of_find?_eq_some he, by simpa [Entry.awaiting] using List.find?_some he⟩
    · split
      · refine pairOrOrphan (h.skipEntries fun hb => ?_) m
        obtain ⟨-, hn, -⟩ := (h.side hb).table.queue
        refine ⟨hn.sublist (List.filter_sublist.map _), fun x hx => ?_⟩
        obtain ⟨hx, hq⟩ := List.mem_filter.mp hx
        rw [Bool.and_eq_true] at hq
        exact ⟨hx, by simpa [Entry.awaiting] using hq.1⟩
      · exact h.orphan m.sequence

/-! ## Characters (R98, R184) -/

theorem setReceiver (h : PackSideKept b s) (r : Option (List RxChar)) : PackSideKept b (s.setReceiver r) := h.tracker

theorem discardMessage (h : PackSideKept b s) : PackSideKept b s.discardMessage := h.tracker

theorem finishMessage (h : PackSideKept b s) (l : List RxChar) : PackSideKept b (s.finishMessage l) := by
  unfold State.finishMessage
  split
  · exact h.discardMessage
  · split
    · exact h.pair _
    · exact h.discardMessage

theorem boardChar (h : PackSideKept b s) (c : RxChar) : PackSideKept b (s.boardChar c) := by
  unfold State.boardChar
  split
  · split
    · exact h.setReceiver _
    · exact h
  · split
    · exact h.discardMessage.setReceiver _
    · split
      · exact h.setReceiver _
      · exact (h.setReceiver none).finishMessage _

theorem boardChars (h : PackSideKept b s) (l : List RxChar) : PackSideKept b (l.foldl State.boardChar s) :=
  List.foldlRecOn (motive := PackSideKept b) _ _ h fun _ ht c _ => ht.boardChar c

end PackSideKept

end Sys2Proof.Machine
end

section
/-! The agreement of packs and labels through every request, and through every command. -/

namespace Sys2Proof.Machine

theorem State.unbindPack_line (s : State) (i : Nat) :
    (s.unbindPack i).tracker = s.tracker ∧ (s.unbindPack i).sorter = s.sorter := by
  unfold State.unbindPack
  split
  · exact ⟨rfl, rfl⟩
  · dsimp only
    split
    · split
      · exact ⟨State.closePack_tracker _ i, State.closePack_sorter _ i⟩
      · split <;> exact ⟨rfl, rfl⟩
    · exact ⟨rfl, rfl⟩

/-- The board of a removed entry is unbound from its pack, if it has one (R149, R15). -/
theorem State.unbindEntry_packSlot (s : State) (e : Entry) : s.unbindEntry e =
    (match e.packSlot with
      | some i => s.unbindPack i
      | none => s).modifyChargeOf (e.decision.bind (·.chargeSlot)) (fun c => { c with transitRef := c.transitRef - 1 }) := by
  unfold State.unbindEntry Entry.packSlot
  cases e.decision <;> rfl

namespace PackSideKept
variable {b s : State}

/-! ## LINE_SET, DIMENSION_SET and LINE_RESTART (R109 to R112) -/

theorem dimensionSet : OwnerKeeps (PackSideKept b) dimensionSet := by
  intro p s a t h ho
  unfold Machine.dimensionSet at ho
  split at ho
  · cases ho
  · split at ho
    · cases ho
    · split at ho
      · cases ho
      · cases ho
        exact h.tracker

theorem lineSet : OwnerKeeps (PackSideKept b) lineSet := by
  intro p s a t h ho
  unfold Machine.lineSet at ho
  split at ho
  · cases ho
  · split at ho
    · cases ho
    · split at ho
      · cases ho
      · cases ho
        exact h.tracker

/-- The oldest entry leaves the queue, and its board the pack it is bound to (R112, R149). -/
theorem unbindEntry {e : Entry} {l : List Entry} (h : PackSideKept b (s.withQueue (e :: l))) :
    PackSideKept b ((s.unbindEntry e).withQueue l) := by
  rw [State.unbindEntry_packSlot]
  rcases he : e.packSlot with _ | i
  · refine h.next (fun hs => ?_) (congrArg Labels.card (State.modifyChargeOf_labels _ _ _))
    exact hs.leave (l := []) (r := l) (e := e) rfl
      (by dsimp only [State.withQueue, List.nil_append]; rw [State.modifyChargeOf_tracker]) he
      (State.modifyChargeOf_packs _ _ _) (State.modifyChargeOf_labels _ _ _) (State.modifyChargeOf_sorter _ _ _)
  · obtain ⟨hline, hsorter⟩ := s.unbindPack_line i
    have hunbind := s.withQueue_unbindPack (e :: l) i
    refine h.next (fun hs => ?_) ((congrArg Labels.card (State.modifyChargeOf_labels _ _ _)).trans (s.unbindPack_card i))
    refine hs.unbound (l := []) (r := l) (e := e) rfl ?_ ((State.modifyChargeOf_sorter _ _ _).trans hsorter) he ?_ ?_
    · dsimp only [State.withQueue, List.nil_append]
      rw [State.modifyChargeOf_tracker, hline]
    · rw [hunbind]
      exact State.modifyChargeOf_packs _ _ _
    · rw [hunbind]
      exact State.modifyChargeOf_labels _ _ _

theorem unbindEntries {l : List Entry} (h : PackSideKept b (s.withQueue l)) :
    PackSideKept b ((l.foldl State.unbindEntry s).withQueue []) := by
  induction l generalizing s with
  | nil => exact h
  | cons e l ih => exact ih h.unbindEntry

theorem restart (h : PackSideKept b s) : PackSideKept b { s with sorter := s.sorter.restart } := by
  refine h.plans fun hb n pl hp => (h.side hb).table.plans n pl ?_
  have hslot : s.sorter.restart.slot n = (s.sorter.slot n).restart := by
    unfold Sorter.slot
    split <;> rfl
  rw [hslot, PlanSlot.restart] at hp
  split at hp
  · cases hp
  · exact hp

theorem lineRestart : OwnerKeeps (PackSideKept b) lineRestart := by
  intro p s a t h ho
  unfold Machine.lineRestart at ho
  split at ho
  · cases ho
  · cases ho
    have hu := unbindEntries (l := s.tracker.queue) h
    exact (hu.tracker (k := { (s.tracker.queue.foldl State.unbindEntry s).tracker with
      queue := [], edgeSequence := 0, receiver := none }) rfl id fun _ => Nat.zero_lt_succ 255).restart

/-! ## Plans (R119 to R123) -/

theorem planLoad : OwnerKeeps (PackSideKept b) planLoad := by
  intro p s a t h ho
  unfold Machine.planLoad at ho
  split at ho
  · cases ho
  · split at ho
    · unfold planHeader at ho
      split at ho
      · cases ho
      · split at ho
        · cases ho
        · dsimp only at ho
          split at ho
          · cases ho
          · rename_i hok
            cases ho
            refine h.setPlanSlot fun _ pl hpl => ?_
            obtain rfl := Option.some.inj hpl
            exact readHeader_ok (by simpa using hok)
    · split at ho
      · unfold planRules at ho
        split at ho
        · cases ho
        · split at ho
          · cases ho
          · dsimp only at ho
            split at ho
            · cases ho
            · rename_i plan hplan
              split at ho
              · cases ho
              · rename_i hfit
                split at ho
                · cases ho
                · rename_i hok
                  cases ho
                  refine h.setPlanSlot fun hb pl hpl => ?_
                  obtain rfl := Option.some.inj hpl
                  simp only [not_or, not_not, Nat.not_lt] at hfit
                  obtain ⟨-, hstart, hcount⟩ := hfit
                  exact ((h.side hb).table.plans _ plan hplan).addRules (hstart ▸ hcount) (by simpa using hok)
      · cases ho

theorem closeForPlan {acc : State × Nat} (h : PackSideKept b acc.1) (bin : Nat) : PackSideKept b (closeForPlan acc bin).1 := by
  unfold Machine.closeForPlan
  split
  · exact h
  · rename_i i hi
    refine h.next (fun hs => ?_) (State.closeRequest_card _ i .plan)
    obtain ⟨p, hp, hopen, -⟩ := (hs.table.current bin i).mp hi
    exact hs.closeRequest hp hopen .plan

theorem planSwitch : OwnerKeeps (PackSideKept b) planSwitch := by
  intro p s a t h ho
  unfold Machine.planSwitch at ho
  split at ho
  · cases ho
  · split at ho
    · cases ho
    · dsimp only at ho
      split at ho
      · cases ho
      · cases ho
      · cases ho
        have hactive : PackSideKept b (s.setPlanSlot s.sorter.otherSlot
            { s.sorter.slot s.sorter.otherSlot with role := .active }) := h.samePlan (m := s.sorter.otherSlot) rfl
        refine List.foldlRecOn (motive := fun acc : State × Nat => PackSideKept b acc.1) _ _
          (hactive.setPlanSlot fun hb pl hpl => ?_) fun _ ht bin _ => ht.closeForPlan bin
        refine (h.side hb).table.plans s.sorter.activeSlot pl ?_
        split at hpl
        · exact hpl
        · cases hpl

/-! ## Packs (R144 to R148, R164) -/

theorem queueTail (h : PackSideKept b s) {i : Nat} {p : Pack} (hp : s.pack? i = some p)
    (hst : p.state = .held ∨ p.state = .labelled) : PackSideKept b (s.queueTail i) :=
  h.next (fun hs => hs.queueTail hp hst) rfl

theorem packClose : OwnerKeeps (PackSideKept b) packClose := by
  intro p s a t h ho
  obtain ⟨i, k, hk, ho⟩ := onPack_ok ho
  split at ho
  · cases ho
  · rename_i hst
    cases ho
    exact h.next (fun hs => hs.closeRequest hk (not_not.mp hst) .request) (s.closeRequest_card i .request)

theorem packRelease : OwnerKeeps (PackSideKept b) packRelease := by
  intro p s a t h ho
  obtain ⟨i, k, hk, ho⟩ := onPack_ok ho
  split at ho
  · cases ho
  · rename_i hst
    cases ho
    exact h.queueTail hk (.inl (not_not.mp hst))

theorem packReject : OwnerKeeps (PackSideKept b) packReject := by
  intro p s a t h ho
  obtain ⟨i, k, hk, ho⟩ := onPack_ok ho
  split at ho
  · cases ho
  · rename_i hst
    cases ho
    rw [State.modifyPack_eq_withPack hk]
    exact h.next (fun hs => hs.reject hk (not_not.mp hst)) rfl

theorem packRetire : OwnerKeeps (PackSideKept b) packRetire := by
  intro p s a t h ho
  obtain ⟨i, k, hk, ho⟩ := onPack_ok ho
  split at ho
  · cases ho
  · rename_i hst
    cases ho
    obtain ⟨hframe, -⟩ := s.lowerPackRefs_eq k.charges
    rw [hframe]
    have hcharges : PackSideKept b { s with charges := (s.lowerPackRefs k.charges).charges } := h.congr rfl
    exact hcharges.next (fun hs => hs.retire hk (by tauto)) rfl

theorem packNumberSet : OwnerKeeps (PackSideKept b) packNumberSet := by
  intro p s a t h ho
  unfold Machine.packNumberSet at ho
  split at ho
  · cases ho
  · dsimp only at ho
    split at ho
    · cases ho
    · rename_i hn
      cases ho
      rw [badPackNumber_iff] at hn
      exact h.next (fun hs => hs.renumber (by omega)) rfl

/-! ## Labels (R152 to R154, R163, R164) -/

theorem labelReprint : OwnerKeeps (PackSideKept b) labelReprint := by
  intro p s a t h ho
  obtain ⟨i, k, hk, ho⟩ := onPack_ok ho
  split at ho
  · cases ho
  · rename_i hst
    cases ho
    exact h.queueTail hk (.inr (not_not.mp hst))

theorem labelPortSet : OwnerKeeps (PackSideKept b) labelPortSet := by
  intro p s a t h ho
  unfold Machine.labelPortSet at ho
  split at ho
  · cases ho
  · dsimp only at ho
    split at ho
    · cases ho
    · cases ho
      exact h.next (fun hs => hs.portSet (by omega)) rfl

theorem labelPortClear : OwnerKeeps (PackSideKept b) labelPortClear := by
  intro p s a t h ho
  unfold Machine.labelPortClear at ho
  split at ho
  · cases ho
  · split at ho
    · cases ho
    · cases ho
      exact h.next (fun hs => hs.portClear ‹_›) rfl

theorem templateLoad : OwnerKeeps (PackSideKept b) templateLoad := by
  intro p s a t h ho
  unfold Machine.templateLoad at ho
  split at ho
  · cases ho
  · split at ho
    · unfold templateHeader at ho
      split at ho
      · cases ho
      · dsimp only at ho
        split at ho
        · cases ho
        · rename_i hrange
          simp only [not_or, Nat.not_lt] at hrange
          obtain ⟨hindex, hzero, hcount⟩ := hrange
          cases ho
          exact ⟨fun hb => (h.side hb).template rfl rfl, fun hb => (h.templates hb).begin hindex hzero hcount⟩
    · split at ho
      · unfold templatePlacement at ho
        split at ho
        · cases ho
        · rename_i hlen
          dsimp only at ho
          split at ho
          · cases ho
          · split at ho
            · cases ho
            · rename_i pl hpl
              split at ho
              · cases ho
              · rename_i load hload
                split at ho
                · cases ho
                · cases ho
                  refine ⟨fun hb => (h.side hb).template ?_ (Labels.length_appendPlacement _ _ _), fun hb =>
                    (h.templates hb).append hload (readPlacement_ok (by omega) hpl)⟩
                  unfold Labels.appendPlacement
                  dsimp only
                  split <;> rfl
      · cases ho

theorem composition (h : PackSideKept b s) : PackSideKept b s.composition :=
  h.next PackSideOk.composition s.composition_card

theorem startPass (h : PackSideKept b s) : PackSideKept b s.startPass := h.next PackSideOk.startPass s.startPass_card

theorem clockRows (h : PackSideKept b s) (n : Nat) : PackSideKept b (s.clockRows n) := h.next (fun hs => hs.clockRows n) rfl

theorem endPass (h : PackSideKept b s) : PackSideKept b s.endPass := h.next PackSideOk.endPass s.endPass_card

theorem expirePass (h : PackSideKept b s) : PackSideKept b s.expirePass := h.next PackSideOk.expirePass s.expirePass_card

/-! ## Transfers (R176, R179) -/

theorem answered (h : PackSideKept b s) (l : List Byte) (n : Nat) (a : Answer) : PackSideKept b (s.answered l n a) := h.congr rfl

theorem skipTransfer (h : PackSideKept b s) (n : Nat) : PackSideKept b (s.skipTransfer n) := by
  unfold State.skipTransfer
  split <;> exact h.congr rfl

/-- A request keeps what its owner keeps. -/
theorem request (h : PackSideKept b s) {owner : List Byte → State → Reply} (ho : OwnerKeeps (PackSideKept b) owner)
    (code d : Byte) (bs : List Byte) : PackSideKept b (s.request code owner d bs) := by
  unfold State.request
  split
  · exact h.skipTransfer _
  · split
    · exact h.answered _ _ _
    · split
      · exact h.answered _ _ _
      · dsimp only
        unfold State.conclude
        split
        · rename_i a t ht
          exact answered (congr (ho _ _ _ _ h ht) rfl) _ _ _
        · exact h.answered _ _ _

theorem aside {owner : List Byte → State → Reply} (ho : Aside owner) : OwnerKeeps (PackSideKept b) owner :=
  fun p s a t h hx => h.congr (ho p s a t hx)

theorem settle (h : PackSideKept b s) : PackSideKept b s.settle := h.congr s.settle_packSide

theorem fieldEvent (h : PackSideKept b s) {f : State → State} (hf : PackSideKept b s → PackSideKept b (f s)) :
    PackSideKept b (s.fieldEvent f) := by
  unfold State.fieldEvent
  split
  · exact h
  · exact hf h

/-- After power-on and in reset the records agree, whatever they were (R1). -/
theorem reset (b : State) : PackSideKept b .reset :=
  ⟨fun _ => packSideOk_iff.mp ⟨packsOk_reset, labelsOk_reset⟩, fun _ => templatesOk_reset⟩

/-! ## Commands -/

/-- What a command leaves, command by command. -/
theorem exec {t : State} {c : Instr} (h : PackSideKept b s) (hx : exec c s = .next t) : PackSideKept b t := by
  cases c <;> simp only [Machine.exec] at hx <;> cases Outcome.next_inj hx
  case powerOn => exact (reset b).congr rfl
  case resetNAssert => exact (reset b).congr rfl
  case resetNRelease =>
    split
    · exact h.congr rfl
    · exact h
  case readAnswer =>
    split
    · exact h.skipTransfer _
    · exact h.congr rfl
  case brokenRequestTransfer =>
    split
    · exact h.skipTransfer _
    · exact h.answered _ _ _
  case emptyTransfer =>
    split
    · exact h.skipTransfer _
    · exact h.congr rfl
  case unknownRequest =>
    split
    · exact h.answered _ _ _
    · refine h.request (fun _ _ _ _ _ ho => ?_) _ _ _
      cases ho
  case partIdent => exact h.request (aside aside_partIdent) _ _ _
  case chargeCreate => exact h.request (aside aside_chargeCreate) _ _ _
  case chargeRead => exact h.request (aside aside_chargeRead) _ _ _
  case chargeList => exact h.request (aside aside_chargeList) _ _ _
  case chargeLimits => exact h.request (aside aside_chargeLimits) _ _ _
  case chargeRelease => exact h.request (aside aside_chargeRelease) _ _ _
  case chargeFeedEnd => exact h.request (aside aside_chargeFeedEnd) _ _ _
  case chargeRetire => exact h.request (aside aside_chargeRetire) _ _ _
  case speciesSet => exact h.request (aside aside_speciesSet) _ _ _
  case speciesRead => exact h.request (aside aside_speciesRead) _ _ _
  case mcTest => exact h.request (aside aside_mcTest) _ _ _
  case schedDefine => exact h.request (aside aside_schedDefine) _ _ _
  case schedAmend => exact h.request (aside aside_schedAmend) _ _ _
  case schedRead => exact h.request (aside aside_schedRead) _ _ _
  case schedDelete => exact h.request (aside aside_schedDelete) _ _ _
  case chamberLoad => exact h.settle.request (aside aside_chamberLoad) _ _ _
  case chamberStart => exact h.settle.request (aside aside_chamberStart) _ _ _
  case chamberHold => exact h.settle.request (aside aside_chamberHold) _ _ _
  case chamberResume => exact h.settle.request (aside aside_chamberResume) _ _ _
  case chamberSkip => exact h.settle.request (aside aside_chamberSkip) _ _ _
  case chamberReload => exact h.settle.request (aside aside_chamberReload) _ _ _
  case chamberAbort => exact h.settle.request (aside aside_chamberAbort) _ _ _
  case chamberUnload => exact h.settle.request (aside aside_chamberUnload) _ _ _
  case chamberRead => exact h.settle.request (aside aside_chamberRead) _ _ _
  case kilnPortSet => exact h.settle.request (aside aside_kilnPortSet) _ _ _
  case kilnPortRead => exact h.settle.request (aside aside_kilnPortRead) _ _ _
  case lineSet => exact h.request lineSet _ _ _
  case dimensionSet => exact h.request dimensionSet _ _ _
  case transitRead => exact h.request (aside aside_transitRead) _ _ _
  case lineRestart => exact h.request lineRestart _ _ _
  case planLoadHeader => exact h.request planLoad _ _ _
  case planLoadRules => exact h.request planLoad _ _ _
  case planSwitch => exact h.request planSwitch _ _ _
  case planRead => exact h.request (aside aside_planRead) _ _ _
  case packRead => exact h.request (aside aside_packRead) _ _ _
  case packList => exact h.request (aside aside_packList) _ _ _
  case packClose => exact h.request packClose _ _ _
  case packRelease => exact h.request packRelease _ _ _
  case packReject => exact h.request packReject _ _ _
  case packRetire => exact h.request packRetire _ _ _
  case packNumberSet => exact h.request packNumberSet _ _ _
  case templateLoadHeader => exact h.request templateLoad _ _ _
  case templateLoadPlacement => exact h.request templateLoad _ _ _
  case templateRead => exact h.request (aside aside_templateRead) _ _ _
  case labelReprint => exact h.request labelReprint _ _ _
  case labelRead => exact h.request (aside aside_labelRead) _ _ _
  case labelPortSet => exact h.request labelPortSet _ _ _
  case labelPortClear => exact h.request labelPortClear _ _ _
  case attnRead => exact h.request (aside aside_attnRead) _ _ _
  case attnAck => exact h.request (aside aside_attnAck) _ _ _
  case attnMask => exact h.request (aside aside_attnMask) _ _ _
  case minuteTick => exact h.fieldEvent fun h => h.settle.congr rfl
  case workingLimitReached => exact h.fieldEvent fun h => h.congr (State.limitAction_packSide _ _)
  case roundTimerExpiry => exact h.fieldEvent fun h => h.settle.congr (State.timerExpiry_packSide _)
  case deferredRoundStart => exact h.fieldEvent fun h => h.congr (State.startDeferred_packSide _)
  case transaction => exact h.fieldEvent fun h => h.settle.congr (State.beginTransaction_packSide _)
  case setpointSent => exact h.fieldEvent fun h => h.congr (State.openWindow_packSide _)
  case scanReply => exact h.fieldEvent fun h => h.settle.congr (State.receiveReply_packSide _ _)
  case replyWindowClose => exact h.fieldEvent fun h => h.settle.congr (State.closeWindow_packSide _ _)
  case encPulse => exact h.fieldEvent encPulse
  case edge => exact h.fieldEvent takeEdge
  case expiry => exact h.fieldEvent expiry
  case boardMessage => exact h.fieldEvent fun h => h.boardChars _
  case openEvent => exact h.fieldEvent fun h => h.chainEvent _ _
  case closeEvent => exact h.fieldEvent fun h => h.chainEvent _ _
  case composition => exact h.fieldEvent composition
  case lblStart => exact h.fieldEvent startPass
  case rowRead => exact h.fieldEvent fun h => h.clockRows _
  case lblEnd => exact h.fieldEvent endPass
  case passTimeoutExpiry => exact h.fieldEvent expirePass
  case startCharacter => exact h.fieldEvent fun h => h.boardChar _

/-- Every step keeps the agreement and the order of the templates. -/
theorem step {t : State} (hx : step s = .next t) : PackSideKept s t := by
  unfold Machine.step at hx
  split at hx
  · cases hx
    exact refl s
  · refine exec ?_ hx
    exact (refl s).congr rfl

end PackSideKept

/-- Settles O59: the records are kept in agreement by every operation of a command, command by command. -/
theorem everyStepKeepsPacksAndLabelsInAgreement : Obligations.EveryStepKeepsPacksAndLabelsInAgreement := by
  unfold Obligations.EveryStepKeepsPacksAndLabelsInAgreement
  intro s t hx
  obtain ⟨hside, htemplates⟩ := PackSideKept.step hx
  exact ⟨fun h => packSideOk_iff.mpr (hside (packSideOk_iff.mp h)), htemplates⟩

end Sys2Proof.Machine
end

section
/-! Composition: the cells that a text writes in its window, and the label of the head pack (R156, R158). -/

namespace Sys2Proof.Machine

/-! ## Places in a window -/

namespace Placement

/-- The columns of a window. -/
def width (pl : Placement) : Nat := pl.colEnd + 1 - pl.colStart

/-- The cells of a window. -/
def size (pl : Placement) : Nat := (pl.rowEnd + 1 - pl.rowStart) * pl.width

/-- The place of a cell among those of a window, row by row. -/
def place (pl : Placement) (row col : Nat) : Nat := (row - pl.rowStart) * pl.width + (col - pl.colStart)

/-- A cell lies in a window. -/
@[reducible] def Covers (pl : Placement) (row col : Nat) : Prop :=
  pl.rowStart ≤ row ∧ row ≤ pl.rowEnd ∧ pl.colStart ≤ col ∧ col ≤ pl.colEnd

/-- Where the cursor goes from a cell (R156). -/
def next (pl : Placement) (row col : Nat) : Nat × Nat := if col = pl.colEnd then (row + 1, pl.colStart) else (row, col + 1)

/-- The cursor of a text that is being written: it never leaves the columns of the window (R156). -/
def CursorOk (pl : Placement) (row col : Nat) : Prop := pl.rowStart ≤ row ∧ pl.colStart ≤ col ∧ col ≤ pl.colEnd

section Window
variable {pl : Placement} {row col r c : Nat}

theorem place_lt_of_row_lt (h : pl.CursorOk row col) (hlt : row < r) : pl.place row col < pl.place r c := by
  obtain ⟨hrow, hcol, hend⟩ := h
  calc pl.place row col < (row - pl.rowStart + 1) * pl.width := by rw [place, Nat.succ_mul, width]; omega
    _ ≤ (r - pl.rowStart) * pl.width := Nat.mul_le_mul_right _ (by omega)
    _ ≤ pl.place r c := Nat.le_add_right _ _

theorem place_inj (h : pl.CursorOk row col) (h' : pl.CursorOk r c) (he : pl.place r c = pl.place row col) :
    r = row ∧ c = col := by
  obtain rfl : r = row := by
    rcases Nat.lt_trichotomy r row with hlt | heq | hlt
    · exact absurd he (place_lt_of_row_lt h' hlt).ne
    · exact heq
    · exact absurd he (place_lt_of_row_lt h hlt).ne'
  obtain ⟨-, hcol, -⟩ := h
  obtain ⟨-, hc, -⟩ := h'
  unfold place at he
  omega

theorem place_next (h : pl.CursorOk row col) : pl.place (pl.next row col).1 (pl.next row col).2 = pl.place row col + 1 := by
  obtain ⟨hrow, hcol, hend⟩ := h
  unfold next place
  split
  · have hstep : row + 1 - pl.rowStart = row - pl.rowStart + 1 := by omega
    dsimp only
    rw [hstep, Nat.succ_mul, width]
    omega
  · dsimp only
    omega

theorem cursorOk_next (h : pl.CursorOk row col) : pl.CursorOk (pl.next row col).1 (pl.next row col).2 := by
  obtain ⟨hrow, hcol, hend⟩ := h
  unfold next
  split
  · exact ⟨Nat.le_succ_of_le hrow, Nat.le_refl _, hcol.trans hend⟩
  · exact ⟨hrow, Nat.le_succ_of_le hcol, by dsimp only; omega⟩

theorem place_start (pl : Placement) : pl.place pl.rowStart pl.colStart = 0 := by
  simp [place]

/-- A cursor above the row end has a place in the window, and one below it has none (R156). -/
theorem place_lt_size (h : pl.CursorOk row col) : pl.place row col < pl.size ↔ row ≤ pl.rowEnd := by
  have hsize : pl.size = pl.place (pl.rowEnd + 1) pl.colStart := by simp [size, place]
  constructor
  · intro hlt
    by_contra hend
    have hrows : pl.size ≤ (row - pl.rowStart) * pl.width := Nat.mul_le_mul_right _ (by omega)
    exact absurd (hlt.trans_le hrows) (Nat.not_lt.mpr (Nat.le_add_right _ _))
  · intro hend
    rw [hsize]
    exact place_lt_of_row_lt h (Nat.lt_succ_of_le hend)

/-! ## What a text writes from a place on -/

/-- The character that a text written from a place on brings to a cell, if it brings one. -/
def written (pl : Placement) (text : List Byte) (k row col : Nat) : Option Byte :=
  if pl.Covers row col ∧ k ≤ pl.place row col then text[pl.place row col - k]? else none

theorem written_nil (pl : Placement) (k row col : Nat) : pl.written [] k row col = none := by
  simp [written]

theorem written_zero (pl : Placement) (text : List Byte) (row col : Nat) :
    pl.written text 0 row col = pl.cellAt text row col := by
  simp only [written, Nat.zero_le, and_true]
  rfl

/-- The first character comes to the cursor's cell, and the others to the places after it. -/
theorem written_cons (h : pl.CursorOk row col) (hend : row ≤ pl.rowEnd) (ch : Byte) (rest : List Byte) :
    pl.written (ch :: rest) (pl.place row col) r c =
      if r = row ∧ c = col then some ch else pl.written rest (pl.place row col + 1) r c := by
  split
  · rename_i heq
    obtain ⟨rfl, rfl⟩ := heq
    obtain ⟨hrow, hcols⟩ := h
    rw [written, if_pos ⟨⟨hrow, hend, hcols⟩, Nat.le_refl _⟩, Nat.sub_self, List.getElem?_cons_zero]
  · rename_i hne
    unfold written
    by_cases hcov : pl.Covers r c
    · obtain ⟨hrow, -, hcols⟩ := id hcov
      have hplace : pl.place r c ≠ pl.place row col := fun he => hne (place_inj h ⟨hrow, hcols⟩ he)
      by_cases hle : pl.place row col + 1 ≤ pl.place r c
      · have hshift : pl.place r c - pl.place row col = pl.place r c - (pl.place row col + 1) + 1 := by omega
        rw [if_pos ⟨hcov, by omega⟩, if_pos ⟨hcov, hle⟩, hshift, List.getElem?_cons_succ]
      · rw [if_neg fun hc => by omega, if_neg fun hc => hle hc.2]
    · rw [if_neg fun hc => hcov hc.1, if_neg fun hc => hcov hc.1]

/-- A text that would be written below the row end reaches no cell (R156). -/
theorem written_of_past (hend : pl.rowEnd < row) (text : List Byte) :
    pl.written text (pl.place row col) r c = none := by
  refine if_neg ?_
  rintro ⟨⟨hr, hre, hcols⟩, hle⟩
  exact absurd hle (Nat.not_le.mpr (place_lt_of_row_lt ⟨hr, hcols⟩ (by omega)))

end Window
end Placement

/-! ## The cells of a frame (R151) -/

/-- The cell of a frame at a row and column. -/
def cardCell (cells : List (List Byte)) (row col : Nat) : Option Byte := (cells[row]?).bind (·[col]?)

theorem cardCell_blank {row col : Nat} (hr : row < 12) (hc : col < 40) : cardCell Frame.blank row col = some 32 := by
  simp [cardCell, Frame.blank, hr, hc]

/-- A row of a card and its cells. -/
theorem CardShape.exists_row {cells : List (List Byte)} (h : CardShape cells) {row : Nat} (hr : row < 12) :
    ∃ content, cells[row]? = some content ∧ content.length = 40 ∧ ∀ col, content[col]? = cardCell cells row col := by
  obtain ⟨hlen, hrows⟩ := h
  have hlt : row < cells.length := hr.trans_eq hlen.symm
  have hget : cells[row]? = some cells[row] := List.getElem?_eq_getElem hlt
  exact ⟨cells[row], hget, hrows _ (List.getElem_mem hlt), fun col => by rw [cardCell, hget, Option.bind_some]⟩

/-- A cell written is the only one that changes. -/
theorem CardShape.cardCell_writeCell {cells : List (List Byte)} (h : CardShape cells) {row col : Nat} (hr : row < 12)
    (hc : col < 40) (ch : Byte) (r c : Nat) :
    cardCell (Machine.writeCell cells row col ch) r c = if r = row ∧ c = col then some ch else cardCell cells r c := by
  obtain ⟨content, hget, hlen, -⟩ := h.exists_row hr
  unfold cardCell Machine.writeCell
  rw [List.getElem?_modify]
  by_cases hrow : row = r
  · subst hrow
    by_cases hcol : c = col
    · subst hcol
      simp [hget, hlen, hc]
    · simp [hget, hcol, List.getElem?_set_ne (Ne.symm hcol)]
  · simp [hrow, Ne.symm hrow]

/-! ## A text in its window (R156) -/

section Text
variable {pl : Placement} {row col : Nat}

theorem writeText_cons (pl : Placement) (ch : Byte) (rest : List Byte) (row col : Nat) (cells : List (List Byte)) :
    writeText pl (ch :: rest) row col cells =
      if pl.rowEnd < row then (cells, true)
      else writeText pl rest (pl.next row col).1 (pl.next row col).2 (writeCell cells row col ch) := by
  rw [writeText, Placement.next]
  split
  · rfl
  · split <;> rfl

/-- Characters are dropped when the window ends before the text. -/
theorem writeText_drops (h : pl.CursorOk row col) (hle : pl.place row col ≤ pl.size) (text : List Byte)
    (cells : List (List Byte)) :
    (writeText pl text row col cells).2 = decide (pl.size < pl.place row col + text.length) := by
  induction text generalizing row col cells with
  | nil => simpa [writeText] using hle
  | cons ch rest ih =>
    have hroom := Placement.place_lt_size h
    rw [writeText_cons, List.length_cons]
    split
    · have : ¬pl.place row col < pl.size := hroom.not.mpr (by omega)
      exact (decide_eq_true (by omega)).symm
    · have hlt : pl.place row col < pl.size := hroom.mpr (by omega)
      have hnext := Placement.place_next h
      rw [ih (Placement.cursorOk_next h) (by omega), hnext]
      exact congrArg (fun n => decide (pl.size < n)) (by omega)

/-- Each cell takes the character that the text brings to it, or keeps its own. -/
theorem cardCell_writeText (hon : pl.OnCard) (h : pl.CursorOk row col) (text : List Byte) {cells : List (List Byte)}
    (hc : CardShape cells) (r c : Nat) :
    cardCell (writeText pl text row col cells).1 r c =
      (pl.written text (pl.place row col) r c).or (cardCell cells r c) := by
  induction text generalizing row col cells with
  | nil => rw [Placement.written_nil, Option.none_or, writeText]
  | cons ch rest ih =>
    rw [writeText_cons]
    split
    · rw [Placement.written_of_past ‹_›, Option.none_or]
    · have hend : row ≤ pl.rowEnd := by omega
      obtain ⟨-, hcolEnd, -, hrowEnd⟩ := hon
      obtain ⟨-, -, hcol⟩ := id h
      rw [ih (Placement.cursorOk_next h) (hc.writeCell row col ch), Placement.place_next h, Placement.written_cons h hend,
        hc.cardCell_writeCell (by omega) (by omega)]
      split
      · rename_i heq
        obtain ⟨rfl, rfl⟩ := heq
        rw [Placement.written, if_neg fun hk => by omega]
        rfl
      · rfl

end Text

/-! ## The placements of a template in order (R156) -/

section Layout
variable (s : State) (p : Pack)

/-- A placement's text does not fit its window. -/
def State.overflows (pl : Placement) : Bool := decide (pl.size < (s.fieldText p pl).length)

/-- A frame and the drop flag after one more placement. -/
def State.writePlacement (acc : List (List Byte) × Bool) (pl : Placement) : List (List Byte) × Bool :=
  let r := writeText pl (s.fieldText p pl) pl.rowStart pl.colStart acc.1
  (r.1, acc.2 || r.2)

theorem State.layout_append (l : List Placement) (pl : Placement) :
    s.layout p (l ++ [pl]) = s.writePlacement p (s.layout p l) pl :=
  List.foldl_concat ..

theorem State.layout_drops {l : List Placement} (h : ∀ pl ∈ l, pl.OnCard) : (s.layout p l).2 = l.any (s.overflows p) := by
  induction l using List.reverseRecOn with
  | nil => rfl
  | append_singleton l pl ih =>
    obtain ⟨hl, hpl⟩ := List.forall_mem_append.mp h
    obtain ⟨hcols, -⟩ := hpl pl (List.mem_singleton_self pl)
    have hstart : pl.CursorOk pl.rowStart pl.colStart := ⟨Nat.le_refl _, Nat.le_refl _, hcols⟩
    rw [State.layout_append, State.writePlacement, List.any_append, List.any_cons, List.any_nil, Bool.or_false]
    dsimp only
    rw [ih hl, writeText_drops hstart (by rw [pl.place_start]; exact Nat.zero_le _), pl.place_start, Nat.zero_add]
    rfl

/-- Each cell holds what the last placement to write there wrote, or a space. -/
theorem State.cardCell_layout {l : List Placement} (h : ∀ pl ∈ l, pl.OnCard) {row col : Nat} (hr : row < 12)
    (hc : col < 40) :
    cardCell (s.layout p l).1 row col =
      some ((l.reverse.findSome? (fun pl => pl.cellAt (s.fieldText p pl) row col)).getD 32) := by
  induction l using List.reverseRecOn with
  | nil => exact cardCell_blank hr hc
  | append_singleton l pl ih =>
    obtain ⟨hl, hpl⟩ := List.forall_mem_append.mp h
    have hon := hpl pl (List.mem_singleton_self pl)
    obtain ⟨hcols, -⟩ := id hon
    rw [State.layout_append, State.writePlacement,
      cardCell_writeText hon ⟨Nat.le_refl _, Nat.le_refl _, hcols⟩ _ (cardShape_layout s p l), pl.place_start,
      Placement.written_zero, ih hl, List.reverse_append, List.reverse_singleton, List.singleton_append, List.findSome?_cons]
    split <;> simp [*]

end Layout

/-! ## The composition taken (R158) -/

theorem Labels.freeFrame_eq_some {l : Labels} {f : Nat} : l.freeFrame = some f ↔
    (f = 0 ∧ l.frame0.state = .free) ∨ (f = 1 ∧ l.frame0.state ≠ .free ∧ l.frame1.state = .free) := by
  unfold Labels.freeFrame
  split_ifs <;> simp [*, @eq_comm _ f]

theorem Labels.freeFrame_eq_none {l : Labels} : l.freeFrame = none ↔ l.frame0.state ≠ .free ∧ l.frame1.state ≠ .free := by
  unfold Labels.freeFrame
  split_ifs <;> simp [*]

/-- Nothing is composed without a FREE frame and a pack that waits (R158). -/
theorem State.composition_idle {s : State} (h : s.labels.freeFrame = none ∨ s.labels.queue = []) : s.composition = s := by
  unfold State.composition
  rcases h with h | h
  · rw [h]
  · rw [h]
    cases s.labels.freeFrame <;> rfl

/-- The frame, the queue and the pack that a composition leaves (R156). -/
theorem State.compose_eq {s : State} {slot : Nat} {p : Pack} (hp : s.pack? slot = some p) (f : Nat) : s.compose slot p f =
    let r := s.layout p ((s.labels.templates[p.template]?).getD [])
    { s.withPack slot { p with state := .labelReady, truncated := r.2 } with
      labels := { s.labels.setFrame f ⟨.ready, some slot, r.1⟩ with
        queue := s.labels.queue.drop 1, ready := s.labels.ready ++ [f] } } := by
  rw [State.compose, State.modifyPack_eq_withPack hp]
  simp only [Labels.setFrame_eq]
  rfl

/-- The head pack is composed into the FREE frame (R158). -/
theorem State.composition_eq {s : State} {f slot : Nat} {rest : List Nat} {p : Pack} (hf : s.labels.freeFrame = some f)
    (hq : s.labels.queue = slot :: rest) (hp : s.pack? slot = some p) : s.composition = s.compose slot p f := by
  simp only [State.composition, hf, hq, hp]

theorem exec_composition {s : State} (hs : s.resetAsserted = false) : exec .composition s = .next s.composition :=
  congrArg Host.Outcome.next (State.fieldEvent_released hs State.composition)

/-- Settles O50: the composition as the layout of the template, whose cells and drop flag are those of its texts. -/
theorem compositionWritesTheLabel : Obligations.CompositionWritesTheLabel := by
  unfold Obligations.CompositionWritesTheLabel
  intro s hs
  rw [exec_composition hs]
  refine ⟨fun f slot rest p hq hp hf => ?_, fun h => ?_⟩
  · intro template hon
    have hshape := cardShape_layout s p template
    obtain ⟨hlength, -⟩ := id hshape
    refine ⟨(s.layout p template).1, ?_, hlength, fun row hrow => ?_⟩
    · rw [State.composition_eq (Labels.freeFrame_eq_some.mpr hf) hq hp, State.compose_eq hp, hq]
      dsimp only
      rw [State.layout_drops s p hon]
      rfl
    · obtain ⟨content, hget, hlen, hcell⟩ := hshape.exists_row hrow
      exact ⟨content, hget, hlen, fun col hcol => (hcell col).trans (s.cardCell_layout p hon hrow hcol)⟩
  · rw [State.composition_idle (h.symm.imp_left Labels.freeFrame_eq_none.mpr)]

end Sys2Proof.Machine
end

section
/-! The texts of the field kinds (R155): numbers in decimal, lists in order, and names without repeats. -/

namespace Sys2Proof.Machine

/-! ## Numbers -/

theorem ofNat_digitChar {d : Nat} (h : d < 10) : BitVec.ofNat 8 d.digitChar.toNat = BitVec.ofNat 8 (48 + d) := by
  interval_cases d <;> rfl

theorem decimalCodes_of_lt {n : Nat} (h : n < 10) : decimalCodes n = [BitVec.ofNat 8 (48 + n % 10)] := by
  rw [decimalCodes, Nat.toDigits_of_lt_base h, List.map_singleton, ofNat_digitChar h, Nat.mod_eq_of_lt h]

theorem decimalCodes_of_le {n : Nat} (h : 10 ≤ n) :
    decimalCodes n = decimalCodes (n / 10) ++ [BitVec.ofNat 8 (48 + n % 10)] := by
  have hdigit : n % 10 < 10 := Nat.mod_lt _ (by decide)
  rw [decimalCodes, Nat.toDigits_of_base_le (by decide) h, List.map_append, List.map_singleton, ofNat_digitChar hdigit]
  rfl

theorem digitsBefore_eq {fuel n : Nat} (h : n < fuel) (acc : List Byte) :
    digitsBefore fuel n acc = decimalCodes n ++ acc := by
  induction fuel generalizing n acc with
  | zero => exact absurd h (Nat.not_lt_zero n)
  | succ k ih =>
    rw [digitsBefore]
    split
    · rw [decimalCodes_of_lt ‹_›, List.singleton_append]
    · have hle : 10 ≤ n := Nat.le_of_not_lt ‹_›
      rw [ih (by omega), decimalCodes_of_le hle, List.append_assoc, List.singleton_append]

theorem decimal_eq (n : Nat) : decimal n = decimalCodes n := by
  rw [decimal, digitsBefore_eq (Nat.lt_succ_self n), List.append_nil]

theorem paddedDecimal_eq (width n : Nat) :
    paddedDecimal width n = List.replicate (width - (decimalCodes n).length) 48 ++ decimalCodes n := by
  rw [paddedDecimal, decimal_eq]

theorem tenthsText_eq (m : Nat) : tenthsText m = decimalCodes (m / 10) ++ [46] ++ decimalCodes (m % 10) := by
  rw [tenthsText, decimal_eq, decimal_eq]

theorem decimal_eq_decimalCodes : decimal = decimalCodes := funext decimal_eq

/-! ## Lists -/

theorem spaced_eq (l : List (List Byte)) : spaced l = List.intercalate [32] l := rfl

/-- Numbers in order are the sorted ones. -/
theorem sortBy_id_eq {numbers l : List Nat} (hperm : numbers.Perm l) (hsorted : numbers.Pairwise (· ≤ ·)) :
    sortBy id l = numbers :=
  ((perm_sortBy id l).trans hperm.symm).eq_of_pairwise (fun _ _ _ _ => Nat.le_antisymm) (sorted_sortBy id l) hsorted

/-! ## Volume, dimensions and charges -/

theorem volumeText_eq (volume : Nat) : volumeText volume =
    let litres := (volume + 5000) / 10000
    decimalCodes (litres / 1000) ++ [46] ++
      (List.replicate (3 - (decimalCodes (litres % 1000)).length) 48 ++ decimalCodes (litres % 1000)) := by
  rw [volumeText, decimal_eq, paddedDecimal_eq]

theorem dimensionsText_of_single {dims : Dimensions} {p : Pack} (hm : p.mixedDim = false) {t w : Nat}
    (h : p.dimension = some (t, w)) : dimensionsText dims p =
      decimalCodes ((dims.thickness[t]?).getD 0) ++ textCodes "x" ++ decimalCodes ((dims.width[w]?).getD 0) := by
  rw [dimensionsText, hm, h, decimal_eq_decimalCodes]
  rfl

theorem tallyText_eq (dims : Dimensions) (p : Pack) : tallyText dims p = List.intercalate [32] (p.tally.map (fun x =>
    decimalCodes ((dims.length[x.1]?).getD 0) ++ textCodes ":" ++ decimalCodes x.2)) := by
  rw [tallyText, decimal_eq_decimalCodes]
  rfl

theorem spaced_decimal (l : List Nat) : spaced (l.map decimal) = List.intercalate [32] (l.map decimalCodes) := by
  rw [decimal_eq_decimalCodes, spaced_eq]

theorem State.chargesText_of_sorted {s : State} {p : Pack} {numbers : List Nat}
    (hperm : numbers.Perm ((p.charges.filterMap s.charge?).map (·.number))) (hsorted : numbers.Pairwise (· ≤ ·)) :
    s.chargesText p = List.intercalate [32] (numbers.map decimalCodes) := by
  rw [State.chargesText, State.packCharges, sortBy_id_eq hperm hsorted, spaced_decimal]

/-! ## Names -/

theorem trimName_eq (l : List Byte) : trimName l = l.rdropWhile (· = 32) := rfl

theorem addName_eq (names : List (List Byte)) (n : List Byte) :
    addName names n = if n = [] ∨ n ∈ names then names else names ++ [n] := by
  simp [addName]

/-- Names written one after the other: the first of each, and no empty one. -/
theorem foldl_addName (l : List (List Byte)) :
    l.foldl addName [] = (l.filter (fun n => !n.isEmpty)).reverse.dedup.reverse := by
  induction l using List.reverseRecOn with
  | nil => rfl
  | append_singleton l n ih =>
    rw [List.foldl_concat, addName_eq, List.filter_append, List.reverse_append]
    rcases eq_or_ne n [] with rfl | hne
    · exact (if_pos (.inl rfl)).trans ih
    · have hkept : ([n].filter (fun n => !n.isEmpty)).reverse = [n] := by simp [hne]
      simp only [hkept, List.singleton_append, or_iff_right hne, ih, List.mem_reverse (as := List.dedup _), List.mem_dedup]
      split
      · rw [List.dedup_cons_of_mem ‹_›]
      · rw [List.dedup_cons_of_notMem ‹_›, List.reverse_cons]

theorem State.speciesEntry_name (s : State) (k : Nat) :
    (s.speciesEntry k).name = (s.species[k]?).elim (List.replicate 8 32) (·.name) := by
  rw [State.speciesEntry]
  cases s.species[k]? <;> rfl

/-- The codes of the species of a pack's charges, ascending (R155). -/
def State.packSpecies (s : State) (p : Pack) : List Nat :=
  (List.range 16).filter (fun k => (s.packCharges p).any (fun c => c.species = k))

theorem State.mem_packSpecies {s : State} {p : Pack} {k : Nat} :
    k ∈ s.packSpecies p ↔ k < 16 ∧ ∃ c ∈ p.charges.filterMap s.charge?, c.species = k := by
  rw [State.packSpecies, List.mem_filter, List.mem_range, List.any_eq_true]
  simp only [decide_eq_true_eq, State.packCharges]

theorem State.packSpecies_sorted (s : State) (p : Pack) : (s.packSpecies p).Pairwise (· < ·) :=
  List.pairwise_lt_range.filter _

theorem State.speciesText_eq (s : State) (p : Pack) : s.speciesText p =
    let names := (s.packSpecies p).map (fun k =>
      ((s.species[k]?).elim (List.replicate 8 32) (·.name)).rdropWhile (· = 32))
    List.intercalate [32] (names.filter (fun n => !n.isEmpty)).reverse.dedup.reverse := by
  rw [State.speciesText, spaced_eq, foldl_addName]
  simp only [trimName_eq, State.speciesEntry_name]
  rfl

/-! ## Moisture and marks -/

theorem meanText_eq (p : Pack) : meanText p = if p.measured = 0 then textCodes "--"
    else
      let m := (2 * p.mcSum + p.measured) / (2 * p.measured)
      decimalCodes (m / 10) ++ [46] ++ decimalCodes (m % 10) := by
  rw [meanText, roundedMean]
  by_cases h : p.measured = 0
  · rw [if_pos h, if_pos h]
    rfl
  · rw [if_neg h, if_neg h]
    exact tenthsText_eq _

theorem rangeText_measured {p : Pack} (h : p.measured ≠ 0) {a b : Nat} (ha : p.lowest = some a) (hb : p.highest = some b) :
    rangeText p = (decimalCodes (a / 10) ++ [46] ++ decimalCodes (a % 10)) ++ textCodes "-" ++
      (decimalCodes (b / 10) ++ [46] ++ decimalCodes (b % 10)) := by
  rw [rangeText, if_neg h, ha, hb, Option.getD_some, Option.getD_some, tenthsText_eq, tenthsText_eq]
  rfl

theorem marksText_eq (p : Pack) : marksText p = textCodes (
    if p.quarantine || p.quarantineMix then (if p.mixedDim then "QUARANTINE MIXED DIM" else "QUARANTINE")
    else if p.mixedDim then "MIXED DIM" else "") := by
  rw [marksText]
  cases p.quarantine || p.quarantineMix <;> cases p.mixedDim <;> rfl

/-- Settles O51, kind by kind. -/
theorem labelTextsFollowTheRecord : Obligations.LabelTextsFollowTheRecord := by
  unfold Obligations.LabelTextsFollowTheRecord
  intro s p pl text tenths dims padded charges
  have kind {k : FieldKind} (h : pl.kind = k) : text = s.fieldText p { pl with kind := k } := by
    subst h
    rfl
  refine ⟨kind, fun h => (kind h).trans (paddedDecimal_eq 6 p.number), fun h => (kind h).trans (decimal_eq p.pieces),
    fun h => (kind h).trans (volumeText_eq p.volume), fun h hm => (kind h).trans (if_pos hm),
    fun h hm t w hd => (kind h).trans (dimensionsText_of_single hm hd), fun h => (kind h).trans (tallyText_eq _ p),
    fun h => (kind h).trans (spaced_decimal p.grades),
    fun h numbers hperm hsorted => (kind h).trans (State.chargesText_of_sorted hperm hsorted),
    fun h => ⟨s.packSpecies p, s.packSpecies_sorted p, fun k => State.mem_packSpecies, (kind h).trans (s.speciesText_eq p)⟩,
    fun h => (kind h).trans (meanText_eq p), fun h h0 => (kind h).trans (if_pos h0),
    fun h h0 a b ha hb => (kind h).trans (rangeText_measured h0 ha hb), fun h => (kind h).trans (marksText_eq p)⟩

end Sys2Proof.Machine
end

section
/-! The label port: a pass begun, its rows clocked out, and its end (R160 to R162, R185). -/

namespace Sys2Proof.Machine

/-! ## Events of the port -/

theorem State.lblReady_iff (s : State) : s.lblReady = true ↔ s.labels.ready ≠ [] ∧ s.labels.port ≠ .fault := by
  simp [State.lblReady]

/-! ## The start of a pass (R160) -/

theorem State.startPass_ignored {s : State}
    (h : s.labels.port = .printing ∨ s.labels.port = .fault ∨ s.labels.ready = []) : s.startPass = s := by
  unfold State.startPass
  split <;> simp_all

/-- A pass begun on the first READY frame and its pack. -/
theorem State.startPass_eq {s : State} {f slot : Nat} {rest : List Nat} {p : Pack}
    (hport : s.labels.port = .idle ∨ s.labels.port = .done) (hready : s.labels.ready = f :: rest)
    (hpack : (s.labels.frame f).pack = some slot) (hp : s.pack? slot = some p) : s.startPass =
      { s.withPack slot { p with state := .printing } with
        labels := { s.labels.setFrame f { s.labels.frame f with state := .printing } with
          ready := rest, port := .printing, cursor := 0, bitCount := 0
          passTimeout := some s.labels.timeout } } := by
  have hstart : s.startPass =
      { s.modifyPack slot (fun p => { p with state := .printing }) with
        labels := { s.labels.setFrame f { s.labels.frame f with state := .printing } with
          ready := rest, port := .printing, cursor := 0, bitCount := 0
          passTimeout := some s.labels.timeout } } := by
    rcases hport with hport | hport <;>
      simp only [State.startPass, hport, hready, hpack, Labels.setFrame_eq, State.modifyPack_labels]
  rw [hstart, State.modifyPack_eq_withPack hp]

/-! ## The frame that prints (R159) -/

theorem State.Printing.printingFrame {s : State} {f slot : Nat} {p : Pack} (h : s.Printing f slot p) :
    s.labels.printingFrame = some f := by
  obtain ⟨hf, hstate, hfirst, -⟩ := h
  unfold Labels.printingFrame
  interval_cases f
  · exact if_pos hstate
  · exact (if_neg (hfirst rfl)).trans (if_pos hstate)

theorem State.Printing.printingPack {s : State} {f slot : Nat} {p : Pack} (h : s.Printing f slot p) :
    s.labels.printingPack = some slot := by
  obtain ⟨-, -, -, hpack, -⟩ := id h
  rw [Labels.printingPack, h.printingFrame, Option.bind_some, hpack]

/-! ## The rows clocked out (R161, R185) -/

theorem Labels.servingRow_blank {l : Labels} (h : l.port ≠ .printing ∨ 12 ≤ l.cursor) :
    l.servingRow = List.replicate 40 32 := by
  unfold Labels.servingRow
  split
  · rename_i hport _
    exact if_neg (Nat.not_lt.mpr (h.resolve_left (not_not_intro hport)))
  · rfl

theorem Labels.servingRow_of_printing {l : Labels} {f : Nat} {content : List Byte} (hport : l.port = .printing)
    (hf : l.printingFrame = some f) (hc : l.cursor < 12) (hrow : (l.frame f).cells[l.cursor]? = some content) :
    l.servingRow = content := by
  simp only [Labels.servingRow, hport, hf, hrow, Option.getD_some]
  exact if_pos hc

/-- The row that the last whole row of some clocks serves: the cursor stands where the rows before left it. -/
def Labels.atRow (l : Labels) (rows : Nat) : Labels :=
  { l with cursor := if l.port = .printing then l.cursor + (rows - 1) else l.cursor }

theorem Labels.servingRow_atRow_blank {l : Labels} {rows : Nat} (h : l.port ≠ .printing ∨ 12 ≤ l.cursor + (rows - 1)) :
    (l.atRow rows).servingRow = List.replicate 40 32 := by
  by_cases hport : l.port = .printing
  · have hcursor : (l.atRow rows).cursor = l.cursor + (rows - 1) := if_pos hport
    exact Labels.servingRow_blank (.inr (hcursor ▸ h.resolve_left (not_not_intro hport)))
  · exact Labels.servingRow_blank (.inl hport)

theorem Labels.servingRow_atRow_of_printing {l : Labels} {f rows : Nat} {content : List Byte} (hport : l.port = .printing)
    (hf : l.printingFrame = some f) (hc : l.cursor + (rows - 1) < 12)
    (hrow : (l.frame f).cells[l.cursor + (rows - 1)]? = some content) : (l.atRow rows).servingRow = content := by
  have hcursor : (l.atRow rows).cursor = l.cursor + (rows - 1) := if_pos hport
  exact Labels.servingRow_of_printing hport hf (hcursor ▸ hc) (hcursor ▸ hrow)

theorem State.clockRows_eq (s : State) (clocks : Nat) : s.clockRows clocks =
    let total := s.labels.bitCount + clocks
    { s with labels := { s.labels with
        bitCount := total % 320
        cursor := if s.labels.port = .printing then min 12 (s.labels.cursor + total / 320) else s.labels.cursor
        servedRow := if total / 320 = 0 then s.labels.servedRow else (s.labels.atRow (total / 320)).servingRow } } := rfl

/-! ## LBL_DATA (R185) -/

theorem State.lblData_of_cell {s : State} {content : List Byte} {cell : Byte} (hrow : s.labels.servingRow = content)
    (hcell : content[s.labels.bitCount / 8]? = some cell) : s.lblData = cell.getLsbD (7 - s.labels.bitCount % 8) := by
  simp only [State.lblData, hrow, hcell, Option.getD_some]

/-- The bits of a space: the third from the top alone is set. -/
theorem getLsbD_space {k : Nat} (h : k < 8) : (32 : Byte).getLsbD (7 - k) = decide (k = 2) := by
  interval_cases k <;> rfl

theorem State.lblData_blank {s : State} (hrow : s.labels.servingRow = List.replicate 40 32) :
    s.lblData = decide (s.labels.bitCount % 8 = 2) := by
  have hcell : ((List.replicate 40 (32 : Byte))[s.labels.bitCount / 8]?).getD 32 = 32 := by
    rw [List.getElem?_replicate]
    split <;> rfl
  rw [State.lblData, hrow, hcell, getLsbD_space (Nat.mod_lt _ (by decide))]

/-! ## The end of a pass (R162) -/

section End
variable {s : State} {f slot : Nat} {p : Pack}

theorem State.Printing.endPass (h : s.Printing f slot p) (hport : s.labels.port = .printing) : s.endPass =
    { s.withPack slot { p with state := .labelled } with
      labels := { s.labels.setFrame f { s.labels.frame f with state := .free, pack := none } with
        port := .done, passTimeout := none, bitCount := 0 } } := by
  obtain ⟨-, -, -, -, hp⟩ := id h
  have hlive : ({ s with labels := s.labels.endPass .done } : State).pack? slot = some p := hp
  rw [State.endPass, if_pos hport, h.printingPack]
  dsimp only
  rw [State.modifyPack_eq_withPack hlive, Labels.endPass_eq h.printingFrame]
  rfl

theorem State.Printing.expirePass (h : s.Printing f slot p) (hport : s.labels.port = .printing) : s.expirePass =
    ({ s.withPack slot { p with state := .labelQueued } with
      labels := { s.labels.setFrame f { s.labels.frame f with state := .free, pack := none } with
        port := .fault, passTimeout := none, bitCount := 0
        queue := slot :: s.labels.queue } } : State).raise .label (.pack p.number) := by
  obtain ⟨-, -, -, -, hp⟩ := id h
  have hlive : ({ s with labels := s.labels.endPass .fault } : State).pack? slot = some p := hp
  rw [State.expirePass, if_pos hport, h.printingPack]
  dsimp only
  rw [hlive]
  dsimp only
  rw [State.queueHead, State.modifyPack_eq_withPack hlive, Labels.endPass_eq h.printingFrame]
  simp only [Labels.setFrame_eq]
  rfl

end End

/-- Settles O52, event by event: the start, the clocks, the bit on LBL_DATA and the two ends. -/
theorem printPassServesTheOldestFrame : Obligations.PrintPassServesTheOldestFrame := by
  unfold Obligations.PrintPassServesTheOldestFrame
  intro s hs
  have event (f : State → State) : Host.Outcome.next (s.fieldEvent f) = (.next (f s) : Host.Outcome State Fault Refusal) :=
    congrArg _ (State.fieldEvent_released hs f)
  have hstart : exec .lblStart s = .next s.startPass := event _
  have hclock (n : Nat) : exec (.rowRead n) s = .next (s.clockRows n) := event _
  have hend : exec .lblEnd s = .next s.endPass := event _
  have hexpire : exec .passTimeoutExpiry s = .next s.expirePass := event _
  rw [hstart, hend, hexpire]
  refine ⟨s.lblReady_iff, fun f rest slot p hport hready hpack hp => ?_, fun h => ?_, fun clocks hbits hcursor => ?_,
    fun f slot p content cell hport hprint hc hrow hcell => ?_, fun h => ?_, fun f slot p hport hprint => ?_, fun h => ?_⟩
  · rw [State.startPass_eq hport hready hpack hp]
  · rw [State.startPass_ignored h]
  · intro total
    rw [hclock, State.clockRows_eq]
    have hrows {row : List Byte} (hle : 320 ≤ total) (h : (s.labels.atRow (total / 320)).servingRow = row) :
        (if total / 320 = 0 then s.labels.servedRow else (s.labels.atRow (total / 320)).servingRow) = row :=
      (if_neg (Nat.div_pos hle (by decide)).ne').trans h
    exact ⟨_, rfl, fun hlt => if_pos (Nat.div_eq_of_lt hlt), fun hle h => hrows hle (Labels.servingRow_atRow_blank h),
      fun f slot p content hport hprint hle hc hlt =>
        hrows hle (Labels.servingRow_atRow_of_printing hport hprint.printingFrame hlt hc)⟩
  · exact State.lblData_of_cell (Labels.servingRow_of_printing hport hprint.printingFrame hc hrow) hcell
  · exact State.lblData_blank (Labels.servingRow_blank h)
  · exact ⟨congrArg _ (hprint.endPass hport), congrArg _ (hprint.expirePass hport)⟩
  · rw [State.endPass, if_neg h, State.expirePass, if_neg h]
    exact ⟨rfl, rfl⟩

end Sys2Proof.Machine
end

section
/-! The requests LABEL_REPRINT, LABEL_READ, LABEL_PORT_SET and LABEL_PORT_CLEAR. -/

namespace Sys2Proof.Machine

section Requests
variable {s : State} {index start : Nat}

/-! ## LABEL_REPRINT and LABEL_READ (R164, R165) -/

theorem labelReprint_bytes {n slot : Nat} {p : Pack} (h1 : 1 ≤ n) (h2 : n ≤ 999999) (hp : s.OnlyPack n slot p) :
    labelReprint (bytes 3 n) s = if p.state ≠ .labelled then .refuse .wrongState
      else .ok (bytes 1 s.labels.queue.length) (s.queueTail slot) := onPack_only h1 h2 hp _

/-- The two bytes that LABEL_READ and TEMPLATE_READ carry. -/
theorem two_fields (hi : index ≤ 255) (hs : start ≤ 255) :
    field (bytes 1 index ++ bytes 1 start) 0 1 = index ∧ field (bytes 1 index ++ bytes 1 start) 1 1 = start := by
  simp
  omega

/-- LABEL_READ on the values that its payload carries. -/
theorem labelRead_bytes (hi : index ≤ 255) (hs : start ≤ 255) : labelRead (bytes 1 index ++ bytes 1 start) s =
    if 1 < index ∨ 11 < start then .refuse .badField
    else
      let f := s.labels.frame index
      let shown := (f.cells.drop start).take 6
      .ok (bytes 1 index ++ bytes 1 f.state.code ++ optBytes 3 0 ((f.pack.bind s.pack?).map (·.number)) ++
        bytes 1 s.labels.port.code ++ bytes 1 s.labels.timeout ++ bytes 1 s.labels.queue.length ++
        bytes 1 start ++ bytes 1 shown.length ++ shown.flatten) s := by
  obtain ⟨h0, h1⟩ := two_fields hi hs
  rw [labelRead, if_neg (by simp), h0, h1]

theorem optBytes_packNumber (o : Option Pack) :
    optBytes 3 0 (o.map (·.number)) = bytes 3 (match o with | none => 0 | some p => p.number) := by
  cases o <;> rfl

/-! ## LABEL_PORT_SET (R163) -/

theorem labelPortSet_bytes {t : Nat} (ht : t ≤ 255) : labelPortSet (bytes 1 t) s =
    if t < 1 ∨ 60 < t then .refuse .badField else .ok [] { s with labels := { s.labels with timeout := t } } := by
  have hfield : field (bytes 1 t) 0 1 = t := by
    simp
    omega
  rw [labelPortSet, if_neg (by simp), hfield]

end Requests

/-- Settles O49: what each owner answers on the values of its payload. -/
theorem labelRequests : Obligations.LabelRequests := by
  unfold Obligations.LabelRequests
  intro s hr portCode
  have hreprint : Reaches .labelReprint 146 labelReprint s := fun _ _ => rfl
  have hread : Reaches .labelRead 147 labelRead s := fun _ _ => rfl
  have hset : Reaches .labelPortSet 148 labelPortSet s := fun _ _ => rfl
  have hclear : Reaches .labelPortClear 149 labelPortClear s := fun _ _ => rfl
  refine ⟨fun n slot p h1 h2 hp => ⟨fun hst => ?_, fun hst => ?_⟩, fun n start hn hst => ⟨fun hbad => ?_, fun h1 h11 => ?_⟩,
    fun t ht => ⟨fun h1 h60 => ?_, fun hbad => ?_⟩, fun hport => ?_, fun hport => ?_⟩
  · obtain ⟨hslot, -⟩ := id hp
    refine hreprint.answers hr (by simp) ((labelReprint_bytes h1 h2 hp).trans ?_)
    rw [if_neg (not_not_intro hst), State.queueTail_eq hslot]
  · exact hreprint.refused hr (by simp) ((labelReprint_bytes h1 h2 hp).trans (if_pos hst))
  · exact hread.refused hr (by simp) ((labelRead_bytes hn hst).trans (if_pos hbad))
  · refine hread.answers hr (by simp) ((labelRead_bytes hn hst).trans ((if_neg (by omega)).trans ?_))
    dsimp only
    rw [optBytes_packNumber]
    rfl
  · exact hset.answers hr (by simp) ((labelPortSet_bytes ht).trans (if_neg (by omega)))
  · exact hset.refused hr (by simp) ((labelPortSet_bytes ht).trans (if_pos (by omega)))
  · exact hclear.answers hr (by simp) ((if_neg (by simp)).trans (if_neg hport))
  · exact hclear.refused hr (by simp) ((if_neg (by simp)).trans (if_pos hport))

end Sys2Proof.Machine
end

section
/-! TEMPLATE_LOAD part by part, and TEMPLATE_READ. -/

namespace Sys2Proof.Machine

section Templates
variable {s : State} {index start : Nat}

/-! ## The kinds of a placement (R152) -/

theorem FieldKind.ofCode_eq_some {n : Nat} {k : FieldKind} : FieldKind.ofCode n = some k ↔ k.code = n := by
  constructor
  · intro h
    unfold FieldKind.ofCode at h
    split at h <;> cases h <;> rfl
  · rintro rfl
    cases k <;> rfl

theorem FieldKind.code_inj {k k' : FieldKind} (h : k.code = k'.code) : k = k' :=
  Option.some.inj ((FieldKind.ofCode_eq_some.mpr rfl).symm.trans (FieldKind.ofCode_eq_some.mpr h.symm))

theorem FieldKind.code_bounds (k : FieldKind) : 1 ≤ k.code ∧ k.code ≤ 12 := by
  cases k <;> decide

theorem FieldKind.code_eq_one {k : FieldKind} : k.code = 1 ↔ k = .text := by
  cases k <;> decide

theorem FieldKind.exists_ofCode {n : Nat} (h1 : 1 ≤ n) (h12 : n ≤ 12) : ∃ k, FieldKind.ofCode n = some k := by
  interval_cases n <;> exact ⟨_, rfl⟩

/-! ## The header part (R152) -/

/-- The payload of a header part. -/
def templateHeaderPart (index count : Nat) : List Byte := bytes 1 0 ++ bytes 1 index ++ bytes 1 count

theorem templateLoad_headerPart {count : Nat} (hi : index ≤ 255) (hc : count ≤ 255) :
    templateLoad (templateHeaderPart index count) s =
      if 3 < index ∨ count = 0 ∨ 16 < count then .refuse .badField
      else .ok (bytes 1 index ++ bytes 1 count)
        { s with labels := { s.labels with load := some ⟨index, count, []⟩ } } := by
  have hpart : templateLoad (templateHeaderPart index count) s = templateHeader (templateHeaderPart index count) s := rfl
  have hfields : field (templateHeaderPart index count) 1 1 = index ∧
      field (templateHeaderPart index count) 2 1 = count := by
    simp [templateHeaderPart]
    omega
  obtain ⟨h1, h2⟩ := hfields
  rw [hpart, templateHeader, if_neg (by simp [templateHeaderPart]), h1, h2]
  rfl

/-! ## The placement part (R153) -/

/-- The payload of a placement part: kind and length as sent, the rest from the placement. -/
def placementPart (index i k n : Nat) (pl : Placement) : List Byte :=
  bytes 1 1 ++ bytes 1 index ++ bytes 1 i ++ bytes 1 k ++ bytes 1 pl.colStart ++ bytes 1 pl.colEnd ++
    bytes 1 pl.rowStart ++ bytes 1 pl.rowEnd ++ bytes 1 n ++ pl.literal

/-- The values of a placement part fit a byte each. -/
structure PlacementSent (index i k n : Nat) (pl : Placement) : Prop where
  index_le : index ≤ 255
  place_le : i ≤ 255
  kind_le : k ≤ 255
  length_le : n ≤ 255
  window_le : pl.colStart ≤ 255 ∧ pl.colEnd ≤ 255 ∧ pl.rowStart ≤ 255 ∧ pl.rowEnd ≤ 255

/-- The ranges of R153 on the kind that is sent and the placement. -/
def Placement.InRange (pl : Placement) (k : Nat) : Prop :=
  1 ≤ k ∧ k ≤ 12 ∧ pl.OnCard ∧ (∀ b ∈ pl.literal, 32 ≤ b.toNat ∧ b.toNat ≤ 126) ∧ (k ≠ 1 → pl.literal = [])

section Part
variable {i k n : Nat} {pl : Placement}

theorem length_placementPart : (placementPart index i k n pl).length = 9 + pl.literal.length := by
  simp [placementPart]
  omega

theorem drop_placementPart : (placementPart index i k n pl).drop 9 = pl.literal :=
  List.drop_left' (by simp)

theorem templateLoad_placementPart : templateLoad (placementPart index i k n pl) s =
    templatePlacement (placementPart index i k n pl) s := rfl

theorem PlacementSent.head_fields (h : PlacementSent index i k n pl) :
    field (placementPart index i k n pl) 1 1 = index ∧ field (placementPart index i k n pl) 2 1 = i ∧
      field (placementPart index i k n pl) 3 1 = k ∧ field (placementPart index i k n pl) 8 1 = n := by
  obtain ⟨hindex, hi, hk, hn, -⟩ := h
  simp [placementPart]
  omega

theorem PlacementSent.window_fields (h : PlacementSent index i k n pl) :
    field (placementPart index i k n pl) 4 1 = pl.colStart ∧ field (placementPart index i k n pl) 5 1 = pl.colEnd ∧
      field (placementPart index i k n pl) 6 1 = pl.rowStart ∧ field (placementPart index i k n pl) 7 1 = pl.rowEnd := by
  obtain ⟨-, -, -, -, hwindow⟩ := h
  simp [placementPart]
  omega

/-- The checks of `readPlacement` on a placement of the kind that is sent are those of R153. -/
theorem placement_bad_iff {kind : FieldKind} (hkind : kind.code = k) :
    (39 < pl.colEnd ∨ 11 < pl.rowEnd ∨ pl.colEnd < pl.colStart ∨ pl.rowEnd < pl.rowStart ∨
      (!pl.literal.all printable) = true ∨ (kind ≠ .text ∧ pl.literal ≠ [])) ↔ ¬pl.InRange k := by
  have hprint : (!pl.literal.all printable) = true ↔ ¬∀ b ∈ pl.literal, 32 ≤ b.toNat ∧ b.toNat ≤ 126 := by
    simp only [Bool.not_eq_true', ← Bool.not_eq_true, List.all_eq_true, printable, Bool.and_eq_true, decide_eq_true_eq]
  have htext : kind ≠ .text ∧ pl.literal ≠ [] ↔ ¬(k ≠ 1 → pl.literal = []) := by
    rw [← hkind, Classical.not_imp, ne_eq kind.code, FieldKind.code_eq_one]
  have hwindow : ¬pl.OnCard ↔ 39 < pl.colEnd ∨ 11 < pl.rowEnd ∨ pl.colEnd < pl.colStart ∨ pl.rowEnd < pl.rowStart := by
    unfold Placement.OnCard
    omega
  obtain ⟨h1, h12⟩ : 1 ≤ k ∧ k ≤ 12 := hkind ▸ kind.code_bounds
  rw [hprint, htext, Placement.InRange, and_iff_right h1, and_iff_right h12, not_and_or, not_and_or, hwindow]
  simp only [or_assoc]

section Sent
variable (h : PlacementSent index i k n pl)
include h

/-- The placement that a part carries, or none outside the ranges (R153). -/
theorem PlacementSent.readPlacement :
    (pl.InRange k → ∃ kind : FieldKind, kind.code = k ∧
      readPlacement (placementPart index i k n pl) = some { pl with kind := kind }) ∧
    (¬pl.InRange k → readPlacement (placementPart index i k n pl) = none) := by
  obtain ⟨-, -, h3, -⟩ := h.head_fields
  obtain ⟨h4, h5, h6, h7⟩ := h.window_fields
  rw [Machine.readPlacement, h3, h4, h5, h6, h7, drop_placementPart]
  rcases hcode : FieldKind.ofCode k with _ | kind
  · refine ⟨fun hin => ?_, fun _ => rfl⟩
    obtain ⟨h1, h12, -⟩ := hin
    obtain ⟨kind, hsome⟩ := FieldKind.exists_ofCode h1 h12
    cases hcode.symm.trans hsome
  · have hkind := FieldKind.ofCode_eq_some.mp hcode
    have hbad := placement_bad_iff (pl := pl) hkind
    exact ⟨fun hin => ⟨kind, hkind, if_neg (hbad.not.mpr (not_not_intro hin))⟩, fun hout => if_pos (hbad.mpr hout)⟩

theorem PlacementSent.missized (hsize : ¬(n = pl.literal.length ∧ n ≤ 40)) :
    templateLoad (placementPart index i k n pl) s = .refuse .badLength := by
  obtain ⟨-, -, -, h8⟩ := h.head_fields
  rw [templateLoad_placementPart, templatePlacement, length_placementPart, h8]
  exact if_pos (by omega)

variable (hsize : n = pl.literal.length ∧ n ≤ 40)
include hsize

/-- What a placement part of the right length meets (R153). -/
theorem PlacementSent.sized : templateLoad (placementPart index i k n pl) s =
    if 3 < index then .refuse .badField
    else match Machine.readPlacement (placementPart index i k n pl) with
      | none => .refuse .badField
      | some read => match s.labels.load with
        | none => .refuse .wrongState
        | some t =>
          if index ≠ t.index ∨ i ≠ t.received.length then .refuse .wrongState
          else .ok (templateAnswer index (t.count - (t.received.length + 1)))
            { s with labels := s.labels.appendPlacement t read } := by
  obtain ⟨h1, h2, -, h8⟩ := h.head_fields
  rw [templateLoad_placementPart, templatePlacement, length_placementPart, h8, if_neg (by omega), h1, h2] <;> rfl

theorem PlacementSent.outOfRange (hbad : ¬(index ≤ 3 ∧ pl.InRange k)) :
    templateLoad (placementPart index i k n pl) s = .refuse .badField := by
  obtain ⟨-, hnone⟩ := h.readPlacement
  rw [h.sized hsize]
  by_cases h3 : 3 < index
  · exact if_pos h3
  · rw [if_neg h3, hnone fun hin => hbad ⟨Nat.le_of_not_lt h3, hin⟩]

variable (hok : index ≤ 3 ∧ pl.InRange k)
include hok

theorem PlacementSent.unloaded (hload : s.labels.load = none) :
    templateLoad (placementPart index i k n pl) s = .refuse .wrongState := by
  obtain ⟨h3, hrange⟩ := hok
  obtain ⟨hsome, -⟩ := h.readPlacement
  obtain ⟨kind, -, hread⟩ := hsome hrange
  rw [h.sized hsize, if_neg (Nat.not_lt.mpr h3), hread, hload]

theorem PlacementSent.loading {t : TemplateLoad} (hload : s.labels.load = some t) :
    ∃ kind : FieldKind, kind.code = k ∧ templateLoad (placementPart index i k n pl) s =
      if index ≠ t.index ∨ i ≠ t.received.length then .refuse .wrongState
      else .ok (templateAnswer index (t.count - (t.received.length + 1)))
        { s with labels := s.labels.appendPlacement t { pl with kind := kind } } := by
  obtain ⟨h3, hrange⟩ := hok
  obtain ⟨hsome, -⟩ := h.readPlacement
  obtain ⟨kind, hkind, hread⟩ := hsome hrange
  exact ⟨kind, hkind, by rw [h.sized hsize, if_neg (Nat.not_lt.mpr h3), hread, hload]⟩

end Sent

/-- A load that takes the placement it expects (R153). -/
theorem Labels.appendPlacement_eq {l : Labels} {t : TemplateLoad} (hindex : t.index = index) (hi : t.received.length = i) :
    l.appendPlacement t pl =
      if i + 1 < t.count then { l with load := some { t with received := t.received ++ [pl] } }
      else { l with load := none, templates := l.templates.set index (t.received ++ [pl]) } := by
  subst hindex hi
  rw [Labels.appendPlacement]
  simp only [List.length_append, List.length_singleton]

end Part

/-! ## TEMPLATE_READ (R154) -/

theorem templateRead_bytes (hi : index ≤ 255) (hs : start ≤ 255) : templateRead (bytes 1 index ++ bytes 1 start) s =
    if 3 < index ∨ 15 < start then .refuse .badField
    else
      let l := s.labels.templateOf index
      let shown := (l.drop start).take 4
      .ok (bytes 1 index ++ bytes 1 l.length ++ bytes 1 start ++ bytes 1 shown.length ++ placementBytes start shown) s := by
  obtain ⟨h0, h1⟩ := two_fields hi hs
  rw [templateRead, if_neg (by simp), h0, h1]

theorem placementBytes_add (l : List Placement) (start j : Nat) :
    placementBytes (start + j) l = (l.zipIdx j).flatMap (fun x => x.1.bytes (start + x.2)) := by
  induction l generalizing j with
  | nil => rfl
  | cons pl l ih => rw [List.zipIdx_cons, List.flatMap_cons, ← ih, placementBytes, Nat.add_assoc]

theorem placementBytes_eq (l : List Placement) (start : Nat) :
    placementBytes start l = l.zipIdx.flatMap (fun x => x.1.bytes (start + x.2)) := placementBytes_add l start 0

end Templates

/-- Settles O48: the header part, the placement part in the order of its checks, and the report. -/
theorem templatesLoadAndRead : Obligations.TemplatesLoadAndRead := by
  unfold Obligations.TemplatesLoadAndRead
  intro s hr code
  have hread : Reaches .templateRead 145 templateRead s := fun _ _ => rfl
  refine ⟨fun index count hindex hcount => ?_, fun index i k n pl hindex hi hk hn hcs hce hrs hre hlit => ?_,
    fun index start hindex hstart => ⟨fun hbad => ?_, fun h3 h15 l hl => ?_⟩⟩
  · intro payload
    have hx : Reaches .templateLoadHeader 144 templateLoad s := fun _ _ => rfl
    have hown : templateLoad payload s = _ := templateLoad_headerPart hindex hcount
    exact ⟨fun h3 h1 h16 => hx.answers hr (by simp [payload]) (hown.trans (if_neg (by omega))),
      fun hbad => hx.refused hr (by simp [payload]) (hown.trans (if_pos hbad))⟩
  · intro payload sized inRange
    have hx : Reaches .templateLoadPlacement 144 templateLoad s := fun _ _ => rfl
    have hpayload : payload = placementPart index i k n pl := rfl
    clear_value payload
    subst hpayload
    have hsent : PlacementSent index i k n pl := ⟨hindex, hi, hk, hn, hcs, hce, hrs, hre⟩
    have hlen : (placementPart index i k n pl).length ≤ 250 := length_placementPart.trans_le (by omega)
    refine ⟨fun hsize => hx.refused hr hlen (hsent.missized hsize),
      fun hsize hbad => hx.refused hr hlen (hsent.outOfRange hsize hbad),
      fun hsize hok => ⟨fun hload => hx.refused hr hlen (hsent.unloaded hsize hok hload), fun t hload => ?_⟩⟩
    obtain ⟨kind, hkind, hown⟩ := hsent.loading hsize hok hload
    refine ⟨fun horder => hx.refused hr hlen (hown.trans (if_pos (horder.imp Ne.symm Ne.symm))),
      fun hti htr hcode => hx.answers hr hlen (hown.trans ((if_neg (by simp [hti, htr])).trans ?_))⟩
    obtain rfl : kind = pl.kind := FieldKind.code_inj (hkind.trans hcode.symm)
    rw [Labels.appendPlacement_eq hti htr, htr]
    rfl
  · exact hread.refused hr (by simp) ((templateRead_bytes hindex hstart).trans (if_pos hbad))
  · refine hread.answers hr (by simp) ((templateRead_bytes hindex hstart).trans ((if_neg (by omega)).trans ?_))
    have htemplate : s.labels.templateOf index = l := congrArg (·.getD []) hl
    dsimp only
    rw [htemplate, placementBytes_eq]
    rfl

end Sys2Proof.Machine
end

section
/-! The attention classes through the operations of the packs, of the kiln side and of the line: each class takes
an object of its own kind, in every place where an occurrence is raised. -/

namespace Sys2Proof.Machine

/-! ## The class records (R166, R167) -/

theorem AttnClass.mem_all (c : AttnClass) : c ∈ AttnClass.all := by cases c <;> decide

/-- An occurrence with an object of the class's kind leaves its record in order (R167). -/
theorem AttnRecord.Ok.occur {c : AttnClass} {r : AttnRecord} (h : r.Ok c) {o : AttnObject} (ho : c.carries o = true) :
    (r.occur o).Ok c := by
  obtain ⟨hclear, hpending⟩ := h
  unfold AttnRecord.occur
  split
  · rename_i hp
    exact ⟨fun hn => (nomatch hp.symm.trans hn), fun _ => hpending hp⟩
  · exact ⟨nofun, fun _ => ho⟩

theorem AttnRecord.ok_cleared (c : AttnClass) (r : AttnRecord) : r.cleared.Ok c := ⟨fun _ => ⟨rfl, rfl⟩, nofun⟩

theorem AttnRecord.Ok.masked {c : AttnClass} {r : AttnRecord} (h : r.Ok c) (set clear : Bool) :
    (r.masked set clear).Ok c := h

/-! ## Operations that raise nothing -/

@[simp] theorem State.modifyChargeOf_attention (s : State) (i : Option Nat) (f : Charge → Charge) :
    (s.modifyChargeOf i f).attention = s.attention := by cases i <;> rfl

@[simp] theorem State.modifyRefCount_attention (s : State) (n : Nat) (f : Nat → Nat) :
    (s.modifyRefCount n f).attention = s.attention := by
  unfold State.modifyRefCount
  split <;> rfl

@[simp] theorem State.withdrawFrame_attention (s : State) (i : Nat) : (s.withdrawFrame i).attention = s.attention := by
  unfold State.withdrawFrame
  dsimp only
  split
  · rfl
  · split <;> rfl

theorem State.lowerPackRefs_attention (s : State) (l : List Nat) : (s.lowerPackRefs l).attention = s.attention :=
  List.foldlRecOn (motive := fun t : State => t.attention = s.attention) _ _ rfl fun _ ht _ _ => ht

theorem State.startDeferred_attention (s : State) : s.startDeferred.attention = s.attention := by
  unfold State.startDeferred
  split <;> rfl

theorem State.timerExpiry_attention (s : State) : s.timerExpiry.attention = s.attention := by
  unfold State.timerExpiry
  split
  · rfl
  · dsimp only
    split <;> rfl

theorem State.beginTransaction_attention (s : State) : s.beginTransaction.attention = s.attention := by
  unfold State.beginTransaction
  split
  · split
    · rfl
    · split
      · rfl
      · split <;> rfl
  · rfl

theorem State.openWindow_attention (s : State) : s.openWindow.attention = s.attention := by
  unfold State.openWindow
  split
  · split <;> rfl
  · rfl

theorem State.composition_attention (s : State) : s.composition.attention = s.attention := by
  unfold State.composition
  split
  · split <;> rfl
  · rfl

theorem State.startPass_attention (s : State) : s.startPass.attention = s.attention := by
  unfold State.startPass
  split
  · dsimp only
    split <;> rfl
  · dsimp only
    split <;> rfl
  · rfl

theorem State.endPass_attention (s : State) : s.endPass.attention = s.attention := by
  unfold State.endPass
  split
  · dsimp only
    split <;> rfl
  · rfl

namespace AttentionOk
variable {s t : State}

/-- An operation that leaves the class records alone. -/
theorem congr (h : AttentionOk s) (ht : t.attention = s.attention) : AttentionOk t := by
  unfold AttentionOk
  rw [ht]
  exact h

/-- An occurrence keeps the class records in order when its object is of the kind of its class (R166). -/
theorem raise (h : AttentionOk s) {k : AttnClass} {o : AttnObject} (hk : k.carries o = true) :
    AttentionOk (s.raise k o) := by
  intro c hc
  rw [State.get_raise]
  split
  · rename_i he
    exact (h c hc).occur (he ▸ hk)
  · exact h c hc

/-! ## Packs (R134 to R140) -/

theorem holdPack {i n : Nat} (h : AttentionOk s) : AttentionOk (s.holdPack i n) :=
  raise (h.congr rfl) rfl

theorem closePack {i : Nat} (h : AttentionOk s) : AttentionOk (s.closePack i) := by
  unfold State.closePack
  split
  · exact h
  · split
    · exact h.congr rfl
    · split
      · exact h.holdPack
      · exact h.congr rfl

theorem closeRequest {i : Nat} {why : CloseReason} (h : AttentionOk s) : AttentionOk (s.closeRequest i why) := by
  unfold State.closeRequest
  split
  · exact h
  · dsimp only
    split
    · exact closePack (h.congr rfl)
    · exact h.congr rfl

theorem withdrawPack {charge i : Nat} (h : AttentionOk s) : AttentionOk (s.withdrawPack charge i) := by
  unfold State.withdrawPack
  split
  · exact h
  · split
    · dsimp only
      split
      · exact holdPack (h.congr rfl)
      · exact holdPack (h.congr (by simp))
      · exact h.congr rfl
    · exact h

/-- A charge's entry into quarantine, with the packs that it holds (R18, R140). -/
theorem enterQuarantine {i n : Nat} (h : AttentionOk s) : AttentionOk (s.enterQuarantine i n) :=
  List.foldlRecOn (motive := AttentionOk) _ _ (raise (h.congr rfl) rfl)
    fun _ ht _ _ => ht.withdrawPack

theorem bindPack {i : Nat} (h : AttentionOk s) : AttentionOk (s.bindPack i) := by
  unfold State.bindPack
  dsimp only
  split
  · exact h.congr rfl
  · split
    · exact closeRequest (h.congr rfl)
    · exact h.congr rfl

theorem bindBoard {bin : Nat} {plan : Plan} (h : AttentionOk s) : AttentionOk (s.bindBoard bin plan).1 := by
  unfold State.bindBoard
  split
  · exact h.bindPack
  · split
    · exact bindPack (h.congr rfl)
    · exact h

/-- A board that finds no free record raises TRANSIT (R134). -/
theorem stageFive {q bin : Nat} {why : Reason} {plan : Plan} (h : AttentionOk s) :
    AttentionOk (s.stageFive q bin why plan).1 := by
  have hbind := h.bindBoard (bin := bin) (plan := plan)
  unfold State.stageFive
  split
  · split
    · rename_i hb
      rwa [hb] at hbind
    · rename_i hb
      rw [hb] at hbind
      exact raise hbind rfl
  · exact h

theorem deliver {i : Nat} {d : Decision} (h : AttentionOk s) : AttentionOk (s.deliver i d) := by
  unfold State.deliver
  split
  · exact h
  · dsimp only
    split
    · exact closePack (h.congr (by simp))
    · exact h.congr (by simp)

theorem unbindPack {i : Nat} (h : AttentionOk s) : AttentionOk (s.unbindPack i) := by
  unfold State.unbindPack
  split
  · exact h
  · dsimp only
    split
    · split
      · exact closePack (h.congr rfl)
      · split <;> exact h.congr rfl
    · exact h.congr rfl

/-! ## The kiln side (R58, R60 to R66) -/

theorem raiseFault {newly : Bool} {n : Nat} (h : AttentionOk s) : AttentionOk (s.raiseFault newly n) := by
  unfold State.raiseFault
  split
  · exact h.raise rfl
  · exact h

/-- A step advance raises STEP or KILN_DONE with the chamber (R66). -/
theorem advanceStep {n : Nat} {c : Chamber} {how : LastAdvance} (h : AttentionOk s) :
    AttentionOk (s.advanceStep n c how) := by
  unfold State.advanceStep
  split
  · exact h
  · dsimp only
    split
    · exact raise (h.congr rfl) rfl
    · exact raise (h.congr (by simp)) rfl

theorem limitAction {n : Nat} (h : AttentionOk s) : AttentionOk (s.limitAction n) := by
  unfold State.limitAction
  split
  · exact h
  · split
    · dsimp only
      split
      · split
        · exact advanceStep (h.congr rfl)
        · exact advanceStep (h.congr rfl)
        · exact raiseFault (h.congr rfl)
      · exact h.congr rfl
    · exact h

theorem fieldEvent (h : AttentionOk s) {f : State → State} (hf : AttentionOk s → AttentionOk (f s)) :
    AttentionOk (s.fieldEvent f) := by
  unfold State.fieldEvent
  split
  · exact h
  · exact hf h

theorem settle (h : AttentionOk s) : AttentionOk s.settle :=
  h.fieldEvent fun h =>
    have hticks : AttentionOk s.settleTicks :=
      List.foldlRecOn (motive := AttentionOk) _ _ h fun _ ht _ _ => ht.limitAction
    hticks.congr (State.startDeferred_attention _)

theorem testMoisture {n : Nat} {c : Chamber} (h : AttentionOk s) : AttentionOk (s.testMoisture n c) := by
  unfold State.testMoisture
  split
  · split
    · exact h.advanceStep
    · exact h
  · exact h

theorem acceptScan {n : Nat} {sc : ScanReadings} (h : AttentionOk s) : AttentionOk (s.acceptScan n sc) := by
  unfold State.acceptScan
  split
  · exact h
  · split
    · exact h
    · exact testMoisture (raiseFault (h.congr rfl))

theorem takeMiss {n count limit : Nat} (h : AttentionOk s) : AttentionOk (s.takeMiss n count limit) := by
  unfold State.takeMiss
  split
  · exact h
  · split
    · exact h
    · split
      · exact raiseFault (h.congr rfl)
      · exact h

theorem endTransaction {x : Transaction} {o : ReplyOutcome} {chars : List RxChar} (h : AttentionOk s) :
    AttentionOk (s.endTransaction x o chars) := by
  have turn {u : State} (hu : AttentionOk u) : AttentionOk (match u.port.turn with
      | some k => { u with port := u.port.nextTurn k }
      | none => u) := by
    split
    · exact hu.congr rfl
    · exact hu
  unfold State.endTransaction
  refine turn ?_
  split
  · exact acceptScan (h.congr rfl)
  · exact takeMiss (h.congr rfl)

theorem receiveReply {chars : List RxChar} (h : AttentionOk s) : AttentionOk (s.receiveReply chars) := by
  unfold State.receiveReply
  split
  · split
    · dsimp only
      split
      · exact h.endTransaction
      · exact h.congr rfl
    · exact h
  · exact h

theorem closeWindow {chars : List RxChar} (h : AttentionOk s) : AttentionOk (s.closeWindow chars) := by
  unfold State.closeWindow
  split
  · split
    · exact h.endTransaction
    · exact h
  · exact h

/-! ## The events of an entry (R101, R102, R106, R124) -/

/-- A plan slot that has drained raises PLAN with its number (R124). -/
theorem drainCheck {n : Nat} (h : AttentionOk s) : AttentionOk (s.drainCheck n) := by
  unfold State.drainCheck
  dsimp only
  split
  · exact raise (h.congr rfl) rfl
  · exact h.congr rfl

theorem decideNoData {e : Entry} (h : AttentionOk s) : AttentionOk (s.decideNoData e) :=
  raise (h.congr rfl) rfl

theorem closeEntry {q : Nat} {d : Decision} (h : AttentionOk s) : AttentionOk (s.closeEntry q d) := by
  have gone {u : State} (hu : AttentionOk u) :
      AttentionOk ((u.modifyChargeOf d.chargeSlot (fun c => { c with transitRef := c.transitRef - 1 })).removeEntry q) :=
    hu.congr (by simp)
  have hgate : AttentionOk (s.modifyGate d.bin (· - 1)) := h.congr rfl
  unfold State.closeEntry
  dsimp only
  refine drainCheck (gone ?_)
  split
  · exact hgate.deliver
  · exact hgate

theorem takeDue {q : Nat} (h : AttentionOk s) : AttentionOk (s.takeDue q) := by
  unfold State.takeDue
  split
  · split
    · exact h.decideNoData
    · exact h.congr rfl
    · exact h.closeEntry
    · exact h
  · exact h

theorem takeReached {k q : Nat} (h : AttentionOk s) : AttentionOk (s.takeReached k q) := by
  induction k generalizing s with
  | zero => exact h
  | succ k ih =>
    unfold State.takeReached
    split
    · exact ih h.takeDue
    · exact h

theorem chainEvent {due : Due} {q : Nat} (h : AttentionOk s) : AttentionOk (s.chainEvent due q) := by
  unfold State.chainEvent
  split
  · exact h.takeReached
  · exact h

theorem settleChain (h : AttentionOk s) : AttentionOk s.settleChain :=
  List.foldlRecOn (motive := AttentionOk) _ _ h fun _ ht _ _ => ht.takeReached

theorem expiry (h : AttentionOk s) : AttentionOk (match s.oldestAwaiting with
    | some e => s.chainEvent .expiry e.sequence
    | none => s) := by
  split
  · exact h.chainEvent
  · exact h

theorem takeEdge (h : AttentionOk s) : AttentionOk s.takeEdge := by
  have lost {u : State} {q : Nat} {why : TransitReason} (hu : AttentionOk u) : AttentionOk (u.loseEdge q why) :=
    raise (k := .transit) (hu.congr rfl) rfl
  unfold State.takeEdge
  dsimp only
  split
  · exact lost (h.congr rfl)
  · split
    · exact lost (h.congr rfl)
    · exact takeReached (h.congr rfl)

/-! ## A board arrives (R98 to R105) -/

theorem arriveUnknown {e : Entry} {m : BoardMessage} (h : AttentionOk s) : AttentionOk (s.arriveUnknown e m) :=
  have hcounted : AttentionOk (s.countDecision s.sorter.activeSlot) := h.congr rfl
  (hcounted.raise (k := .transit) (o := .transit e.sequence .unknownCharge) rfl).congr rfl

theorem measureBoard {m : BoardMessage} {i : Nat} {c : Charge} (h : AttentionOk s) :
    AttentionOk (s.measureBoard m i c).1 := by
  unfold State.measureBoard
  dsimp only
  generalize c.addBoard _ _ = c'
  have hcounted : AttentionOk (s.modifyCharge i fun _ => c') := h.congr rfl
  split
  · dsimp only
    exact hcounted.enterQuarantine
  · exact hcounted

theorem arriveFound {e : Entry} {m : BoardMessage} {i : Nat} {c : Charge} (h : AttentionOk s) :
    AttentionOk (s.arriveFound e m i c) := by
  have hmeasured := h.measureBoard (m := m) (i := i) (c := c)
  unfold State.arriveFound
  dsimp only
  generalize s.measureBoard m i c = x at *
  obtain ⟨u, b⟩ := x
  have hfive (bin : Nat) (why : Reason) (plan : Plan) :
      AttentionOk ((u.countDecision u.sorter.activeSlot).stageFive e.sequence bin why plan).1 :=
    stageFive (hmeasured.congr rfl)
  exact (hfive _ _ _).congr rfl

theorem arrive {e : Entry} {m : BoardMessage} (h : AttentionOk s) : AttentionOk (s.arrive e m) := by
  unfold State.arrive
  refine takeReached ?_
  split
  · exact h.arriveUnknown
  · exact h.arriveFound

theorem orphan {q : Nat} (h : AttentionOk s) : AttentionOk (s.orphan q) :=
  raise (h.congr rfl) rfl

theorem skipEntries {l : List Entry} (h : AttentionOk s) : AttentionOk (s.skipEntries l) :=
  List.foldlRecOn (motive := AttentionOk) _ _ h fun _ ht _ _ => ht.decideNoData.takeReached

theorem pairOrOrphan {m : BoardMessage} (h : AttentionOk s) : AttentionOk (s.pairOrOrphan m) := by
  unfold State.pairOrOrphan
  split
  · exact h.arrive
  · exact h.orphan

theorem pair {m : BoardMessage} (h : AttentionOk s) : AttentionOk (s.pair m) := by
  unfold State.pair
  split
  · exact h.orphan
  · dsimp only
    split
    · exact h.arrive
    · split
      · exact h.skipEntries.pairOrOrphan
      · exact h.orphan

theorem boardChar {c : RxChar} (h : AttentionOk s) : AttentionOk (s.boardChar c) := by
  have finished {u : State} {l : List RxChar} (hu : AttentionOk u) : AttentionOk (u.finishMessage l) := by
    unfold State.finishMessage
    split
    · exact hu.congr rfl
    · split
      · exact hu.pair
      · exact hu.congr rfl
  unfold State.boardChar
  split
  · split
    · exact h.congr rfl
    · exact h
  · split
    · exact h.congr rfl
    · split
      · exact h.congr rfl
      · exact finished (h.congr rfl)

theorem boardChars {l : List RxChar} (h : AttentionOk s) : AttentionOk (l.foldl State.boardChar s) :=
  List.foldlRecOn (motive := AttentionOk) _ _ h fun _ ht _ _ => ht.boardChar

/-! ## The label port (R162) -/

/-- A pass that its timeout ends raises LABEL with the pack's number (R162). -/
theorem expirePass (h : AttentionOk s) : AttentionOk s.expirePass := by
  unfold State.expirePass
  split
  · dsimp only
    split
    · split
      · exact raise (h.congr rfl) rfl
      · exact h.congr rfl
    · exact h.congr rfl
  · exact h

end AttentionOk
end Sys2Proof.Machine
end

section
/-! The attention classes through the requests, and through every command (O60). -/

namespace Sys2Proof.Machine

/-! ## Requests that raise nothing -/

/-- Whatever the owner of a request answers OK, the class records are as they were. -/
def Silent (owner : List Byte → State → Reply) : Prop := ∀ p s a t, owner p s = .ok a t → t.attention = s.attention

/-! ### Reports -/

theorem silent_partIdent : Silent partIdent := by intro p s a t h; grind [partIdent]

theorem silent_chargeRead : Silent chargeRead := by intro p s a t h; grind [chargeRead, onCharge]

theorem silent_chargeList : Silent chargeList := by intro p s a t h; grind [chargeList]

theorem silent_speciesRead : Silent speciesRead := by intro p s a t h; grind [speciesRead]

theorem silent_mcTest : Silent mcTest := by intro p s a t h; grind [mcTest]

theorem silent_schedRead : Silent schedRead := by intro p s a t h; grind [schedRead, onSchedule]

theorem silent_chamberRead : Silent chamberRead := by intro p s a t h; grind [chamberRead, onChamber]

theorem silent_kilnPortRead : Silent kilnPortRead := by intro p s a t h; grind [kilnPortRead]

theorem silent_transitRead : Silent transitRead := by intro p s a t h; grind [transitRead]

theorem silent_planRead : Silent planRead := by intro p s a t h; grind [planRead]

theorem silent_packRead : Silent packRead := by intro p s a t h; grind [packRead, onPack]

theorem silent_packList : Silent packList := by intro p s a t h; grind [packList]

theorem silent_templateRead : Silent templateRead := by intro p s a t h; grind [templateRead]

theorem silent_labelRead : Silent labelRead := by intro p s a t h; grind [labelRead]

theorem silent_attnRead : Silent attnRead := by intro p s a t h; grind [attnRead]

/-! ### Charges, species, schedules, chambers, plans, packs and labels -/

theorem silent_chargeCreate : Silent chargeCreate := by intro p s a t h; grind [chargeCreate]

theorem silent_chargeLimits : Silent chargeLimits := by
  intro p s a t h
  grind [chargeLimits, State.modifyCharge_attention]

theorem silent_chargeRelease : Silent chargeRelease := by
  intro p s a t h
  grind [chargeRelease, State.modifyCharge_attention]

theorem silent_chargeFeedEnd : Silent chargeFeedEnd := by
  intro p s a t h
  grind [chargeFeedEnd, onCharge, State.modifyCharge_attention]

theorem silent_chargeRetire : Silent chargeRetire := by intro p s a t h; grind [chargeRetire, onCharge]

theorem silent_speciesSet : Silent speciesSet := by intro p s a t h; grind [speciesSet]

theorem silent_schedDefine : Silent schedDefine := by intro p s a t h; grind [schedDefine, State.setSchedule_attention]

theorem silent_schedAmend : Silent schedAmend := by intro p s a t h; grind [schedAmend, State.setSchedule_attention]

theorem silent_schedDelete : Silent schedDelete := by
  intro p s a t h
  grind [schedDelete, onSchedule, State.setSchedule_attention]

theorem silent_chamberLoad : Silent chamberLoad := by
  intro p s a t h
  grind [chamberLoad, State.setChamber_attention, State.modifyRefCount_attention, State.modifyCharge_attention]

theorem silent_chamberStart : Silent chamberStart := by
  intro p s a t h
  grind [chamberStart, onChamber, State.setChamber_attention]

theorem silent_chamberHold : Silent chamberHold := by
  intro p s a t h
  grind [chamberHold, onChamber, State.setChamber_attention]

theorem silent_chamberResume : Silent chamberResume := by
  intro p s a t h
  grind [chamberResume, onChamber, State.setChamber_attention]

theorem silent_chamberReload : Silent chamberReload := by
  intro p s a t h
  grind [chamberReload, onChamber, State.setChamber_attention]

theorem silent_chamberAbort : Silent chamberAbort := by
  intro p s a t h
  grind [chamberAbort, onChamber, State.setChamber_attention]

theorem silent_chamberUnload : Silent chamberUnload := by
  intro p s a t h
  grind [chamberUnload, onChamber, State.setChamber_attention, State.modifyRefCount_attention, State.modifyChargeOf_attention]

theorem silent_kilnPortSet : Silent kilnPortSet := by intro p s a t h; grind [kilnPortSet]

theorem silent_lineSet : Silent lineSet := by intro p s a t h; grind [lineSet]

theorem silent_dimensionSet : Silent dimensionSet := by intro p s a t h; grind [dimensionSet]

theorem silent_packRelease : Silent packRelease := by
  intro p s a t h
  grind [packRelease, onPack, State.queueTail_attention]

theorem silent_packReject : Silent packReject := by
  intro p s a t h
  grind [packReject, onPack, State.modifyPack_attention]

theorem silent_packRetire : Silent packRetire := by
  intro p s a t h
  grind [packRetire, onPack, State.freePack_attention, State.lowerPackRefs_attention]

theorem silent_packNumberSet : Silent packNumberSet := by intro p s a t h; grind [packNumberSet]

theorem silent_labelReprint : Silent labelReprint := by
  intro p s a t h
  grind [labelReprint, onPack, State.queueTail_attention]

theorem silent_labelPortSet : Silent labelPortSet := by intro p s a t h; grind [labelPortSet]

theorem silent_labelPortClear : Silent labelPortClear := by intro p s a t h; grind [labelPortClear]

theorem silent_planLoad : Silent planLoad := by
  intro p s a t h
  unfold planLoad at h
  split at h
  · cases h
  · split at h
    · grind [planHeader, State.setPlanSlot_attention]
    · split at h
      · grind [planRules, State.setPlanSlot_attention]
      · cases h

theorem silent_templateLoad : Silent templateLoad := by
  intro p s a t h
  unfold templateLoad at h
  split at h
  · cases h
  · split at h
    · grind [templateHeader]
    · split at h
      · grind [templatePlacement]
      · cases h

namespace AttentionOk
variable {s t : State}

/-! ## Requests that may raise or change a class -/

theorem silent {owner : List Byte → State → Reply} (ho : Silent owner) : OwnerKeeps AttentionOk owner :=
  fun p s a t h hx => h.congr (ho p s a t hx)

theorem chamberSkip : OwnerKeeps AttentionOk chamberSkip := by
  intro p s a t h ho
  obtain ⟨n, c, -, ho⟩ := onChamber_ok ho
  split at ho
  · cases ho
  · cases ho
    exact advanceStep (h.congr rfl)

theorem lineRestart : OwnerKeeps AttentionOk lineRestart := by
  have unbound {u : State} (hu : AttentionOk u) (e : Entry) : AttentionOk (u.unbindEntry e) := by
    rw [State.unbindEntry_packSlot]
    refine congr ?_ (State.modifyChargeOf_attention _ _ _)
    split
    · exact hu.unbindPack
    · exact hu
  intro p s a t h ho
  unfold Machine.lineRestart at ho
  split at ho
  · cases ho
  · cases ho
    have hall : AttentionOk (s.tracker.queue.foldl State.unbindEntry s) :=
      List.foldlRecOn (motive := AttentionOk) _ _ h fun _ ht e _ => unbound ht e
    exact hall.congr rfl

theorem closeForPlan {acc : State × Nat} {bin : Nat} (h : AttentionOk acc.1) : AttentionOk (closeForPlan acc bin).1 := by
  unfold Machine.closeForPlan
  split
  · exact h
  · exact h.closeRequest

theorem planSwitch : OwnerKeeps AttentionOk planSwitch := by
  intro p s a t h ho
  unfold Machine.planSwitch at ho
  split at ho
  · cases ho
  · split at ho
    · cases ho
    · dsimp only at ho
      split at ho
      · cases ho
      · cases ho
      · cases ho
        exact List.foldlRecOn (motive := fun acc : State × Nat => AttentionOk acc.1) _ _ (h.congr rfl)
          fun _ ht _ _ => ht.closeForPlan

theorem packClose : OwnerKeeps AttentionOk packClose := by
  intro p s a t h ho
  obtain ⟨i, k, -, ho⟩ := onPack_ok ho
  split at ho
  · cases ho
  · cases ho
    exact h.closeRequest

/-- A class record changed class by class keeps every class in order. -/
theorem setEach (h : AttentionOk s) {f : AttnClass → AttnRecord → AttnRecord} (hf : ∀ c r, r.Ok c → (f c r).Ok c)
    (l : List AttnClass) :
    AttentionOk { s with attention := l.foldl (fun a c => a.set c (f c (a.get c))) s.attention } := by
  refine List.foldlRecOn (motive := fun a => AttentionOk { s with attention := a }) _ _ h fun a ha c _ k hk => ?_
  dsimp only
  rw [Attention.get_set]
  split
  · rename_i he
    exact he ▸ hf c _ (ha c c.mem_all)
  · exact ha k hk

theorem attnAck : OwnerKeeps AttentionOk attnAck := by
  intro p s a t h ho
  unfold Machine.attnAck at ho
  split at ho
  · cases ho
  · cases ho
    exact h.setEach (fun c r _ => r.ok_cleared c) _

theorem attnMask : OwnerKeeps AttentionOk attnMask := by
  intro p s a t h ho
  unfold Machine.attnMask at ho
  split at ho
  · cases ho
  · dsimp only at ho
    split at ho
    · cases ho
    · cases ho
      exact h.setEach (fun _ _ hr => hr.masked _ _) _

/-! ## Transfers (R175 to R179) -/

theorem skipTransfer {n : Nat} (h : AttentionOk s) : AttentionOk (s.skipTransfer n) := by
  rw [State.skipTransfer_records]
  exact h.congr rfl

/-- A request keeps what its owner keeps. -/
theorem request {owner : List Byte → State → Reply} {code d : Byte} {bs : List Byte} (h : AttentionOk s)
    (ho : OwnerKeeps AttentionOk owner) : AttentionOk (s.request code owner d bs) := by
  unfold State.request
  split
  · exact h.skipTransfer
  · split
    · exact h.congr rfl
    · split
      · exact h.congr rfl
      · dsimp only
        unfold State.conclude
        split
        · rename_i a t ht
          exact congr (ho _ _ _ _ h ht) rfl
        · exact h.congr rfl

/-! ## Commands -/

/-- What a command leaves, command by command. -/
theorem exec {c : Instr} (h : AttentionOk s) (hx : exec c s = .next t) : AttentionOk t := by
  cases c <;> simp only [Machine.exec] at hx <;> cases Outcome.next_inj hx
  case powerOn => exact attentionOk_reset.congr rfl
  case resetNAssert => exact attentionOk_reset.congr rfl
  case resetNRelease =>
    split
    · exact h.congr rfl
    · exact h
  case readAnswer =>
    split
    · exact h.skipTransfer
    · exact h.congr rfl
  case brokenRequestTransfer =>
    split
    · exact h.skipTransfer
    · exact h.congr rfl
  case emptyTransfer =>
    split
    · exact h.skipTransfer
    · exact h.congr rfl
  case unknownRequest =>
    split
    · exact h.congr rfl
    · exact h.request fun _ _ _ _ _ ho => nomatch ho
  case partIdent => exact h.request (silent silent_partIdent)
  case chargeCreate => exact h.request (silent silent_chargeCreate)
  case chargeRead => exact h.request (silent silent_chargeRead)
  case chargeList => exact h.request (silent silent_chargeList)
  case chargeLimits => exact h.request (silent silent_chargeLimits)
  case chargeRelease => exact h.request (silent silent_chargeRelease)
  case chargeFeedEnd => exact h.request (silent silent_chargeFeedEnd)
  case chargeRetire => exact h.request (silent silent_chargeRetire)
  case speciesSet => exact h.request (silent silent_speciesSet)
  case speciesRead => exact h.request (silent silent_speciesRead)
  case mcTest => exact h.request (silent silent_mcTest)
  case schedDefine => exact h.request (silent silent_schedDefine)
  case schedAmend => exact h.request (silent silent_schedAmend)
  case schedRead => exact h.request (silent silent_schedRead)
  case schedDelete => exact h.request (silent silent_schedDelete)
  case chamberLoad => exact h.settle.request (silent silent_chamberLoad)
  case chamberStart => exact h.settle.request (silent silent_chamberStart)
  case chamberHold => exact h.settle.request (silent silent_chamberHold)
  case chamberResume => exact h.settle.request (silent silent_chamberResume)
  case chamberSkip => exact h.settle.request chamberSkip
  case chamberReload => exact h.settle.request (silent silent_chamberReload)
  case chamberAbort => exact h.settle.request (silent silent_chamberAbort)
  case chamberUnload => exact h.settle.request (silent silent_chamberUnload)
  case chamberRead => exact h.settle.request (silent silent_chamberRead)
  case kilnPortSet => exact h.settle.request (silent silent_kilnPortSet)
  case kilnPortRead => exact h.settle.request (silent silent_kilnPortRead)
  case lineSet => exact h.request (silent silent_lineSet)
  case dimensionSet => exact h.request (silent silent_dimensionSet)
  case transitRead => exact h.request (silent silent_transitRead)
  case lineRestart => exact h.request lineRestart
  case planLoadHeader => exact h.request (silent silent_planLoad)
  case planLoadRules => exact h.request (silent silent_planLoad)
  case planSwitch => exact h.request planSwitch
  case planRead => exact h.request (silent silent_planRead)
  case packRead => exact h.request (silent silent_packRead)
  case packList => exact h.request (silent silent_packList)
  case packClose => exact h.request packClose
  case packRelease => exact h.request (silent silent_packRelease)
  case packReject => exact h.request (silent silent_packReject)
  case packRetire => exact h.request (silent silent_packRetire)
  case packNumberSet => exact h.request (silent silent_packNumberSet)
  case templateLoadHeader => exact h.request (silent silent_templateLoad)
  case templateLoadPlacement => exact h.request (silent silent_templateLoad)
  case templateRead => exact h.request (silent silent_templateRead)
  case labelReprint => exact h.request (silent silent_labelReprint)
  case labelRead => exact h.request (silent silent_labelRead)
  case labelPortSet => exact h.request (silent silent_labelPortSet)
  case labelPortClear => exact h.request (silent silent_labelPortClear)
  case attnRead => exact h.request (silent silent_attnRead)
  case attnAck => exact h.request attnAck
  case attnMask => exact h.request attnMask
  case minuteTick => exact h.fieldEvent fun h => h.settle.congr rfl
  case workingLimitReached => exact h.fieldEvent limitAction
  case roundTimerExpiry => exact h.fieldEvent fun h => h.settle.congr (State.timerExpiry_attention _)
  case deferredRoundStart => exact h.fieldEvent fun h => h.congr (State.startDeferred_attention _)
  case transaction => exact h.fieldEvent fun h => h.settle.congr (State.beginTransaction_attention _)
  case setpointSent => exact h.fieldEvent fun h => h.congr (State.openWindow_attention _)
  case scanReply => exact h.fieldEvent fun h => h.settle.receiveReply
  case replyWindowClose => exact h.fieldEvent fun h => h.settle.closeWindow
  case encPulse => exact h.fieldEvent fun h => h.settleChain.congr rfl
  case edge => exact h.fieldEvent takeEdge
  case expiry => exact h.fieldEvent expiry
  case boardMessage => exact h.fieldEvent boardChars
  case openEvent => exact h.fieldEvent chainEvent
  case closeEvent => exact h.fieldEvent chainEvent
  case composition => exact h.fieldEvent fun h => h.congr (State.composition_attention _)
  case lblStart => exact h.fieldEvent fun h => h.congr (State.startPass_attention _)
  case rowRead => exact h.fieldEvent fun h => h.congr rfl
  case lblEnd => exact h.fieldEvent fun h => h.congr (State.endPass_attention _)
  case passTimeoutExpiry => exact h.fieldEvent expirePass
  case startCharacter => exact h.fieldEvent boardChar

/-- Every step keeps the class records in order. -/
theorem step (h : AttentionOk s) (hx : step s = .next t) : AttentionOk t := by
  unfold Machine.step at hx
  split at hx
  · cases hx
    exact h
  · refine exec ?_ hx
    exact h.congr rfl

end AttentionOk

/-- Settles O60: every occurrence is raised with an object of the kind of its class, and ATTN_ACK clears a class
whole. -/
theorem everyStepKeepsAttentionObjects : Obligations.EveryStepKeepsAttentionObjects := by
  unfold Obligations.EveryStepKeepsAttentionObjects
  exact fun _ _ h hx => h.step hx

end Sys2Proof.Machine
end

section
/-! Attention occurrences, ATTN_N, and the requests ATTN_READ, ATTN_ACK and ATTN_MASK. -/

namespace Sys2Proof.Machine

/-! ## Sets of classes (R166) -/

/-- Each class code is a power of two, so a set holds the class when the sum has its bit. -/
theorem hasCode_attnCode (set : Nat) (c : AttnClass) : hasCode set c.code = c.inSet set := by
  cases c <;> simp only [AttnClass.inSet, ← hasCode_two_pow] <;> rfl

theorem foldl_attnCode_filter (q : AttnClass → Bool) (l : List AttnClass) (n : Nat) :
    (l.filter q).foldl (fun acc c => acc + c.code) n = n + (l.map fun c => if q c then c.code else 0).sum := by
  induction l generalizing n with
  | nil => rfl
  | cons c l ih => cases hq : q c <;> simp [hq, ih, Nat.add_assoc]

/-- The classes that satisfy `q`, in code order, have their codes summed (R166). -/
theorem foldl_attnCode_all (q : AttnClass → Bool) :
    (AttnClass.all.filter q).foldl (fun acc c => acc + c.code) 0 = classSet q :=
  (foldl_attnCode_filter q _ 0).trans (Nat.zero_add _)

theorem Attention.sumWhere_eq (a : Attention) (q : AttnRecord → Bool) :
    a.sumWhere q = classSet fun k => q (a.get k) :=
  foldl_attnCode_all _

/-! ## The class records (R167 to R169) -/

theorem State.attnLow_iff (s : State) :
    s.attnLow = true ↔ ∃ k, (s.attention.get k).pending = true ∧ (s.attention.get k).mask = false := by
  simp [State.attnLow, AttnClass.mem_all]

/-- A class in an answer, more before the three object bytes (R169). -/
theorem AttnRecord.report_eq (r : AttnRecord) : r.report = r.shown := by
  obtain ⟨pending, first, more, mask⟩ := r
  unfold AttnRecord.report AttnRecord.shown
  cases pending with
  | false => rfl
  | true =>
    rcases first with _ | _ | _ | _ | ⟨q, why⟩ | _
    case some.transit => cases why <;> simp [flagByte, objectBytes, bytes_one, TransitReason.code]
    all_goals rfl

/-- Class records changed one after the other, each class once: the named ones change and the others stay. -/
theorem Attention.get_foldl_set (f : AttnClass → AttnRecord → AttnRecord) {l : List AttnClass} (hl : l.Nodup)
    (a : Attention) (k : AttnClass) :
    (l.foldl (fun a c => a.set c (f c (a.get c))) a).get k = if k ∈ l then f k (a.get k) else a.get k := by
  induction l generalizing a with
  | nil => simp
  | cons c l ih =>
    obtain ⟨hc, hl⟩ := List.nodup_cons.mp hl
    rw [List.foldl_cons, ih hl, Attention.get_set]
    by_cases hk : c = k
    · subst hk
      simp [hc]
    · simp [hk, Ne.symm hk]

theorem AttnClass.nodup_all : AttnClass.all.Nodup := by decide

/-! ## The requests (R169 to R171) -/

section Requests
variable {s : State} {set clear : Nat}

theorem attnRead_nil : attnRead [] s = .ok
    (bytes 1 (classSet fun k => (s.attention.get k).pending) ++ bytes 1 (classSet fun k => (s.attention.get k).mask) ++
      bytes 1 (if s.attnLow then 1 else 0) ++ AttnClass.all.flatMap fun k => (s.attention.get k).shown) s := by
  simp only [attnRead, State.attnReport, Attention.sumWhere_eq, flagByte_eq, AttnRecord.report_eq]
  rfl

/-- The classes that ATTN_ACK clears: the pending ones that its set names (R170). -/
def Attention.clearedBy (a : Attention) (set : Nat) (k : AttnClass) : Bool := k.inSet set && (a.get k).pending

theorem Attention.toClear_eq (a : Attention) (set : Nat) : a.toClear set = AttnClass.all.filter (a.clearedBy set) := by
  simp only [Attention.toClear, hasCode_attnCode]
  rfl

/-- The class records after ATTN_ACK (R170). -/
def Attention.acked (a : Attention) (set : Nat) : Attention :=
  (a.toClear set).foldl (fun a c => a.set c (a.get c).cleared) a

theorem Attention.get_acked (a : Attention) (set : Nat) (k : AttnClass) :
    (a.acked set).get k = if a.clearedBy set k then ⟨false, none, false, (a.get k).mask⟩ else a.get k := by
  rw [Attention.acked, Attention.toClear_eq,
    Attention.get_foldl_set (fun _ r => r.cleared) (AttnClass.nodup_all.filter _)]
  simp only [List.mem_filter, k.mem_all, true_and]
  rfl

theorem attnAck_bytes (hset : set ≤ 255) : attnAck (bytes 1 set) s = .ok
    (bytes 1 (classSet (s.attention.clearedBy set)) ++
      (AttnClass.all.filter (s.attention.clearedBy set)).flatMap fun k => (s.attention.get k).shown)
    { s with attention := s.attention.acked set } := by
  have hfield : field (bytes 1 set) 0 1 = set := by
    simp
    omega
  rw [attnAck, if_neg (by simp), hfield]
  simp only [AttnRecord.report_eq, Attention.acked, Attention.toClear_eq, foldl_attnCode_all]

theorem AttnClass.any_inBoth : AttnClass.all.any (fun k => k.inSet set && k.inSet clear) = true ↔
    ∃ k : AttnClass, k.inSet set = true ∧ k.inSet clear = true := by
  simp [AttnClass.mem_all]

theorem Attention.get_remask (a : Attention) (set clear : Nat) (k : AttnClass) : (a.remask set clear).get k =
    { a.get k with mask := k.inSet set || ((a.get k).mask && !k.inSet clear) } := by
  rw [Attention.remask, Attention.get_foldl_set (fun c r => r.masked (hasCode set c.code) (hasCode clear c.code))
    AttnClass.nodup_all, if_pos k.mem_all, hasCode_attnCode, hasCode_attnCode, AttnRecord.masked]
  cases k.inSet set <;> cases k.inSet clear <;> simp

theorem attnMask_bytes (hset : set ≤ 255) (hclear : clear ≤ 255) : attnMask (bytes 1 set ++ bytes 1 clear) s =
    if AttnClass.all.any (fun k => k.inSet set && k.inSet clear) then .refuse .badField
    else .ok (bytes 1 (classSet fun k => ((s.attention.remask set clear).get k).mask))
      { s with attention := s.attention.remask set clear } := by
  obtain ⟨h0, h1⟩ := two_fields hset hclear
  rw [attnMask, if_neg (by simp), h0, h1]
  simp only [hasCode_attnCode, Attention.sumWhere_eq]

end Requests

/-- Settles O53: what an occurrence does to each class record, when ATTN_N is low, and what each owner answers on
the values of its payload. -/
theorem attentionOccurrencesAndRequests : Obligations.AttentionOccurrencesAndRequests := by
  unfold Obligations.AttentionOccurrencesAndRequests
  refine ⟨fun s k o => ⟨rfl, fun j hj => ?_, fun hp => ?_, fun hp => ?_⟩, State.attnLow_iff, fun s hr => ?_⟩
  · rw [State.get_raise, if_neg hj.symm]
  · rw [State.get_raise, if_pos rfl, AttnRecord.occur, if_neg (by simp [hp])]
  · rw [State.get_raise, if_pos rfl, AttnRecord.occur, if_pos hp]
  · intro all
    have hread : Reaches .attnRead 160 attnRead s := fun _ _ => rfl
    have hack : Reaches .attnAck 161 attnAck s := fun _ _ => rfl
    have hmask : Reaches .attnMask 162 attnMask s := fun _ _ => rfl
    refine ⟨hread.answers hr (by simp) attnRead_nil, fun set hset => ?_,
      fun set clear hset hclear => ⟨fun hboth => ?_, fun hapart => ?_⟩⟩
    · exact ⟨s.attention.acked set, s.attention.get_acked set, hack.answers hr (by simp) (attnAck_bytes hset)⟩
    · exact hmask.refused hr (by simp) ((attnMask_bytes hset hclear).trans (if_pos (AttnClass.any_inBoth.mpr hboth)))
    · have hnone := AttnClass.any_inBoth.not.mpr (not_exists.mpr hapart)
      exact ⟨s.attention.remask set clear, s.attention.get_remask set clear,
        hmask.answers hr (by simp) ((attnMask_bytes hset hclear).trans (if_neg hnone))⟩

end Sys2Proof.Machine
end

section
/-! The bytes of a transfer and the command that they stand for. -/

namespace Sys2Proof.Machine

/-! ## The bytes of a link command (R173 to R177, R182) -/

/-- What the law of each command says, of every command. -/
theorem requestCode_statement (c : Instr) : Laws.RequestCode.Statement c := by
  cases c with
  | unknownRequest code d bs => exact Laws.RequestCode.unknownRequest code d bs
  | planLoadHeader d bs => exact Laws.RequestCode.planLoadHeader d bs
  | planLoadRules d bs => exact Laws.RequestCode.planLoadRules d bs
  | templateLoadHeader d bs => exact Laws.RequestCode.templateLoadHeader d bs
  | templateLoadPlacement d bs => exact Laws.RequestCode.templateLoadPlacement d bs
  | partIdent | chargeCreate | chargeRead | chargeList | chargeLimits | chargeRelease | chargeFeedEnd | chargeRetire
  | speciesSet | speciesRead | mcTest | schedDefine | schedAmend | schedRead | schedDelete | chamberLoad | chamberStart
  | chamberHold | chamberResume | chamberSkip | chamberReload | chamberAbort | chamberUnload | chamberRead | kilnPortSet
  | kilnPortRead | lineSet | dimensionSet | transitRead | lineRestart | planSwitch | planRead | packRead | packList
  | packClose | packRelease | packReject | packRetire | packNumberSet | templateRead | labelReprint | labelRead
  | labelPortSet | labelPortClear | attnRead | attnAck | attnMask =>
    exact Laws.RequestCode.of_code rfl rfl rfl (by decide) id
  | powerOn | resetNAssert | resetNRelease | readAnswer | brokenRequestTransfer | emptyTransfer | minuteTick
  | workingLimitReached | roundTimerExpiry | deferredRoundStart | transaction | setpointSent | scanReply
  | replyWindowClose | encPulse | edge | expiry | boardMessage | openEvent | closeEvent | composition | lblStart | rowRead
  | lblEnd | passTimeoutExpiry | startCharacter =>
    exact Laws.RequestCode.of_no_code rfl rfl

section Request
variable {c : Instr} {code d : Byte} {bs : List Byte}

theorem encodeTransfer_of_request (hc : requestCode c = some code) (hb : requestBody c = some (d, bs)) :
    encodeTransfer c = some (code :: d :: bs) :=
  ((requestCode_statement c).2 code d bs hc hb).1

/-- The transfer of a well-formed request is taken for no answer transfer and is not broken (R175, R177). -/
theorem request_of_wellFormed (hw : c.wellFormed = true) (hc : requestCode c = some code)
    (hb : requestBody c = some (d, bs)) : code ≠ 0 ∧ isBroken d bs = false :=
  ((requestCode_statement c).2 code d bs hc hb).2 hw

end Request

/-! ## The request row of a code (R182) -/

/-- A code that the table does not list is an unknown request. -/
theorem decodeRequest_unknown {code : Byte} (h : code.toNat ∉ knownCodes) (d : Byte) (bs : List Byte) :
    decodeRequest code d bs = .unknownRequest code d bs := by
  unfold decodeRequest
  split
  case h_50 => rfl
  all_goals
    rename_i hcode
    rw [hcode] at h
    exact absurd (by decide) h

/-- A well-formed request is the row of its code, the two parts of a load told apart by their first byte. -/
theorem decodeRequest_of_wellFormed {c : Instr} {code d : Byte} {bs : List Byte} (hw : c.wellFormed = true)
    (hc : requestCode c = some code) (hb : requestBody c = some (d, bs)) : decodeRequest code d bs = c := by
  cases c with
  | unknownRequest =>
    cases hc
    cases hb
    simp only [Instr.wellFormed, Bool.and_eq_true, Bool.not_eq_true', List.contains_eq_mem, decide_eq_false_iff_not] at hw
    exact decodeRequest_unknown hw.2 d bs
  | planLoadHeader | templateLoadHeader =>
    cases hc
    cases hb
    simp only [Instr.wellFormed, Bool.and_eq_true, Bool.not_eq_true'] at hw
    exact if_neg (by simp [hw.2])
  | planLoadRules | templateLoadPlacement =>
    cases hc
    cases hb
    simp only [Instr.wellFormed, Bool.and_eq_true] at hw
    exact if_pos hw.2
  | powerOn | resetNAssert | resetNRelease | readAnswer | brokenRequestTransfer | emptyTransfer | minuteTick
  | workingLimitReached | roundTimerExpiry | deferredRoundStart | transaction | setpointSent | scanReply
  | replyWindowClose | encPulse | edge | expiry | boardMessage | openEvent | closeEvent | composition | lblStart | rowRead
  | lblEnd | passTimeoutExpiry | startCharacter =>
    cases hc
  | _ =>
    cases hc
    cases hb
    rfl

/-- The command is a row of the code with the bytes after it, and is well formed when its transfer is a whole
request (R174, R175). -/
def IsRowOf (code d : Byte) (bs : List Byte) (c : Instr) : Prop :=
  requestCode c = some code ∧ requestBody c = some (d, bs) ∧
    (code ≠ 0 → isBroken d bs = false → c.wellFormed = true)

theorem isRowOf_of_toNat {code d : Byte} {bs : List Byte} {c : Instr} {n : Nat} (hn : code.toNat = n)
    (hc : requestCode c = some (BitVec.ofNat 8 n)) (hb : requestBody c = some (d, bs))
    (hw : isBroken d bs = false → c.wellFormed = true) : IsRowOf code d bs c := by
  subst hn
  rw [BitVec.ofNat_toNat, BitVec.setWidth_eq] at hc
  exact ⟨hc, hb, fun _ => hw⟩

/-- The row of a code, of the 49 codes that the table lists and of any other. -/
theorem isRowOf_decodeRequest (code d : Byte) (bs : List Byte) : IsRowOf code d bs (decodeRequest code d bs) := by
  by_cases hknown : code.toNat ∈ knownCodes
  · unfold decodeRequest
    split
    case h_50 => simp_all [knownCodes]
    case' h_31 | h_41 => split
    all_goals
      refine isRowOf_of_toNat ‹_› rfl rfl fun hok => ?_
      simp only [Instr.wellFormed, requestOk, Bool.not_false, Bool.true_and, *]
  · rw [decodeRequest_unknown hknown]
    refine ⟨rfl, rfl, fun hz hok => ?_⟩
    simpa [Instr.wellFormed, requestOk, hok, hknown] using hz

/-! ## Transfers decoded and encoded (R173 to R177) -/

theorem decodeTransfer_request {code d : Byte} {bs : List Byte} (hz : code ≠ 0) (hok : isBroken d bs = false) :
    decodeTransfer (code :: d :: bs) = decodeRequest code d bs := by
  simp only [decodeTransfer, hz, hok, Bool.false_eq_true, if_false]

theorem decodeTransfer_readAnswer (mosi : List Byte) : decodeTransfer (0 :: mosi) = .readAnswer mosi := by
  cases mosi <;> rfl

theorem decodeTransfer_broken {l : List Byte} (h : brokenOk l = true) : decodeTransfer l = .brokenRequestTransfer l := by
  match l with
  | [] => cases h
  | [c] =>
    have hz : c ≠ 0 := by simpa [brokenOk] using h
    exact if_neg hz
  | c :: d :: bs =>
    have hz : c ≠ 0 ∧ isBroken d bs = true := by simpa [brokenOk] using h
    simp only [decodeTransfer, hz.1, hz.2, if_true, if_false]

/-- A transfer is empty, an answer transfer, a broken one or a request (R173 to R177). -/
theorem encodeTransfer_some {c : Instr} {l : List Byte} (he : encodeTransfer c = some l) :
    (c = .emptyTransfer ∧ l = []) ∨ (∃ mosi, c = .readAnswer mosi ∧ l = 0 :: mosi) ∨ c = .brokenRequestTransfer l ∨
      ∃ code d bs, requestCode c = some code ∧ requestBody c = some (d, bs) ∧ l = code :: d :: bs := by
  unfold encodeTransfer at he
  split at he
  · exact .inl ⟨rfl, (Option.some.inj he).symm⟩
  · exact .inr (.inl ⟨_, rfl, (Option.some.inj he).symm⟩)
  · exact .inr (.inr (.inl (congrArg _ (Option.some.inj he))))
  · split at he
    · exact .inr (.inr (.inr ⟨_, _, _, ‹_›, ‹_›, (Option.some.inj he).symm⟩))
    · cases he

/-- Settles O10: a well-formed link command by what its transfer is, and a transfer by its first two bytes. -/
theorem transfersDecodeToTheCommandsTheyEncode : Obligations.TransfersDecodeToTheCommandsTheyEncode := by
  unfold Obligations.TransfersDecodeToTheCommandsTheyEncode
  refine ⟨fun c l hw he => ?_, fun l => ?_⟩
  · rcases encodeTransfer_some he with ⟨rfl, rfl⟩ | ⟨mosi, rfl, rfl⟩ | rfl | ⟨code, d, bs, hc, hb, rfl⟩
    · rfl
    · exact decodeTransfer_readAnswer mosi
    · exact decodeTransfer_broken hw
    · obtain ⟨hz, hok⟩ := request_of_wellFormed hw hc hb
      rw [decodeTransfer_request hz hok, decodeRequest_of_wellFormed hw hc hb]
  · by_cases hbroken : brokenOk l = true
    · rw [decodeTransfer_broken hbroken]
      exact ⟨rfl, hbroken⟩
    · match l with
      | [] => exact ⟨rfl, rfl⟩
      | [c] =>
        obtain rfl : c = 0 := by simpa [brokenOk] using hbroken
        exact ⟨rfl, rfl⟩
      | c :: d :: bs =>
        by_cases hz : c = 0
        · subst hz
          exact ⟨rfl, rfl⟩
        · have hok : c ≠ 0 → isBroken d bs = false := by simpa [brokenOk] using hbroken
          obtain ⟨hcode, hbody, hwell⟩ := isRowOf_decodeRequest c d bs
          rw [decodeTransfer_request hz (hok hz)]
          exact ⟨encodeTransfer_of_request hcode hbody, hwell hz (hok hz)⟩

end Sys2Proof.Machine
end

section
/-! READ_ANSWER and PART_IDENT: the bytes that an answer transfer drives, and the fixed identification. -/

namespace Sys2Proof.Machine

/-! ## The bytes of an answer (R177) -/

/-- The status, the answer length and the payload, as an answer transfer drives them. -/
def Answer.bytes (a : Answer) : List Byte :=
  BitVec.ofNat 8 a.status.code :: BitVec.ofNat 8 a.payload.length :: a.payload

theorem Answer.stream_eq (a : Answer) (n : Nat) :
    a.stream n = a.bytes.take n ++ List.replicate (n - a.bytes.length) 0 := by
  simp [Answer.stream, Answer.bytes, bytes_one]

theorem Answer.length_stream (a : Answer) (n : Nat) : (a.stream n).length = n := by
  rw [Answer.stream_eq, List.length_append, List.length_take, List.length_replicate]
  omega

/-- The answer's bytes are driven one by one, and then 0. -/
theorem Answer.getElem?_stream (a : Answer) {n i : Nat} (hi : i < n) :
    (a.stream n)[i]? = some ((a.bytes[i]?).getD 0) := by
  rw [Answer.stream_eq]
  by_cases hlen : i < a.bytes.length
  · rw [List.getElem?_append_left (by simp; omega), List.getElem?_take_of_lt hi, List.getElem?_eq_getElem hlen,
      Option.getD_some]
  · rw [List.getElem?_append_right (by simp; omega), List.getElem?_eq_none (Nat.le_of_not_lt hlen), Option.getD_none,
      List.getElem?_replicate_of_lt (by simp; omega)]

/-- Settles O5: the bytes driven after the first are the answer's stream, read place by place. -/
theorem readAnswerStreamsTheAnswerBuffer : Obligations.ReadAnswerStreamsTheAnswerBuffer := by
  unfold Obligations.ReadAnswerStreamsTheAnswerBuffer
  intro s mosi hr
  refine ⟨s.link.answer.stream mosi.length, Answer.length_stream _ _, fun i hi => ?_, ?_⟩
  · rw [Answer.getElem?_stream _ hi]
    match i with
    | 0 =>
      generalize s.link.answer = a
      obtain ⟨status, payload⟩ := a
      cases status <;> rfl
    | 1 => rfl
    | k + 2 => rfl
  · simp only [exec, execReadAnswer, hr, Bool.not_true, Bool.false_eq_true, if_false]

/-! ## PART_IDENT (R180) -/

theorem reaches_partIdent (s : State) : Reaches .partIdent 1 partIdent s := fun _ _ => rfl

/-- Settles O9: the owner answers the identification without a payload and refuses any other. -/
theorem partIdentReportsTheFixedCapacities : Obligations.PartIdentReportsTheFixedCapacities := by
  unfold Obligations.PartIdentReportsTheFixedCapacities
  refine fun s hr => ⟨(reaches_partIdent s).answers hr (by simp) rfl, fun p hne hp => ?_⟩
  exact (reaches_partIdent s).refused hr hp (if_pos (by simpa using hne))

end Sys2Proof.Machine
end

section
/-! What the owners of the reports answer, and what a request transfer leaves when its owner refuses it, when it
reports, and when it reaches no owner at all. -/

namespace Sys2Proof.Machine

/-! ## What a reply ends in -/

/-- An owner's reply is a refusal, or OK with a state that has the property. -/
def Reply.Ends (P : State → Prop) : Reply → Prop
  | .ok _ t => P t
  | .refuse _ => True

namespace Reply.Ends
variable {P : State → Prop} {p : List Byte} {s t : State}

theorem refuse {st : Status} : (Reply.refuse st).Ends P := trivial

theorem ok {a : List Byte} (h : P t) : (Reply.ok a t).Ends P := h

theorem of_ok {r : Reply} {a : List Byte} (h : r.Ends P) (hr : r = .ok a t) : P t := by
  subst hr
  exact h

theorem mono {Q : State → Prop} {r : Reply} (h : r.Ends P) (hpq : ∀ t, P t → Q t) : r.Ends Q := by
  cases r with
  | ok a t => exact hpq t h
  | refuse st => exact refuse

theorem branch {q : Prop} [Decidable q] {r r' : Reply} (h : r.Ends P) (h' : r'.Ends P) : (if q then r else r').Ends P := by
  split
  · exact h
  · exact h'

/-- A check of the request that refuses it. -/
theorem check {q : Prop} [Decidable q] {st : Status} {r : Reply} (h : r.Ends P) :
    (if q then .refuse st else r).Ends P := branch refuse h

theorem ofCharge {f : Nat → Charge → Reply} (h : ∀ i c, (f i c).Ends P) : (onCharge p s f).Ends P := by
  refine check ?_
  split
  · exact refuse
  · exact h _ _

theorem ofSchedule {f : Nat → Schedule → Reply} (h : ∀ n sc, (f n sc).Ends P) : (onSchedule p s f).Ends P := by
  refine check (check ?_)
  split
  · exact refuse
  · exact h _ _

theorem ofChamber {f : Nat → Chamber → Reply} (h : ∀ n c, (f n c).Ends P) : (onChamber p s f).Ends P :=
  check (check (h _ _))

theorem ofPack {f : Nat → Pack → Reply} (h : ∀ i k, (f i k).Ends P) : (onPack p s f).Ends P := by
  refine check (check ?_)
  split
  · exact refuse
  · exact h _ _

end Reply.Ends

/-! ## Reports (R179) -/

/-- The owner answers from the records and changes none of them. -/
def Reports (owner : List Byte → State → Reply) : Prop := ∀ p s, (owner p s).Ends (· = s)

section Reports
open Reply.Ends

theorem reports_partIdent : Reports partIdent := fun _ _ => check (ok rfl)

theorem reports_chargeRead : Reports chargeRead := fun _ _ => ofCharge fun _ _ => ok rfl

theorem reports_chargeList : Reports chargeList := fun _ _ => check (check (ok rfl))

theorem reports_speciesRead : Reports speciesRead := fun _ _ => check (check (ok rfl))

theorem reports_mcTest : Reports mcTest := fun _ _ => check (check (ok rfl))

theorem reports_schedRead : Reports schedRead := fun _ _ => ofSchedule fun _ _ => ok rfl

theorem reports_chamberRead : Reports chamberRead := fun _ _ => ofChamber fun _ _ => ok rfl

theorem reports_kilnPortRead : Reports kilnPortRead := fun _ _ => check (ok rfl)

theorem reports_transitRead : Reports transitRead := fun _ _ => check (check (ok rfl))

theorem reports_planRead : Reports planRead := by
  refine fun p s => check (check ?_)
  split
  · exact refuse
  · exact check (ok rfl)

theorem reports_packRead : Reports packRead := fun _ _ => ofPack fun _ _ => ok rfl

theorem reports_packList : Reports packList := fun _ _ => check (check (ok rfl))

theorem reports_templateRead : Reports templateRead := fun _ _ => check (check (ok rfl))

theorem reports_labelRead : Reports labelRead := fun _ _ => check (check (ok rfl))

theorem reports_attnRead : Reports attnRead := fun _ _ => check (ok rfl)

end Reports

/-! ## The owner of a request (R174, R182) -/

/-- Sent while nothing is outstanding, the command is a request that the link hands to the owner. -/
def IsRequestTo (c : Instr) (owner : List Byte → State → Reply) : Prop :=
  ∃ code d bs, requestCode c = some code ∧ requestBody c = some (d, bs) ∧
    ∀ s : State, s.Settled → exec c s = .next (s.request code owner d bs)

theorem isRequestTo_of_exec {c : Instr} {code d : Byte} {bs : List Byte} {owner : List Byte → State → Reply}
    (hc : requestCode c = some code) (hb : requestBody c = some (d, bs))
    (hx : ∀ s, exec c s = .next (s.request code owner d bs)) : IsRequestTo c owner :=
  ⟨code, d, bs, hc, hb, fun s _ => hx s⟩

/-- A request on a chamber or on the kiln port, which first takes what is outstanding (assumption 2). -/
theorem isRequestTo_of_settle {c : Instr} {code d : Byte} {bs : List Byte} {owner : List Byte → State → Reply}
    (hc : requestCode c = some code) (hb : requestBody c = some (d, bs))
    (hx : ∀ s, exec c s = .next (s.settle.request code owner d bs)) : IsRequestTo c owner :=
  ⟨code, d, bs, hc, hb, fun s hs => by rw [hx, State.settle_of_settled hs]⟩

/-- Every request but the unknown one has an owner, and the owner of a report changes nothing. -/
theorem request_owner {c : Instr} (h : (requestBody c).isSome = true) :
    (∃ code d bs, c = .unknownRequest code d bs) ∨ ∃ owner, IsRequestTo c owner ∧ (isReport c = true → Reports owner) := by
  cases c with
  | unknownRequest code d bs => exact .inl ⟨code, d, bs, rfl⟩
  | partIdent => exact .inr ⟨_, isRequestTo_of_exec rfl rfl fun _ => rfl, fun _ => reports_partIdent⟩
  | chargeRead => exact .inr ⟨_, isRequestTo_of_exec rfl rfl fun _ => rfl, fun _ => reports_chargeRead⟩
  | chargeList => exact .inr ⟨_, isRequestTo_of_exec rfl rfl fun _ => rfl, fun _ => reports_chargeList⟩
  | speciesRead => exact .inr ⟨_, isRequestTo_of_exec rfl rfl fun _ => rfl, fun _ => reports_speciesRead⟩
  | mcTest => exact .inr ⟨_, isRequestTo_of_exec rfl rfl fun _ => rfl, fun _ => reports_mcTest⟩
  | schedRead => exact .inr ⟨_, isRequestTo_of_exec rfl rfl fun _ => rfl, fun _ => reports_schedRead⟩
  | chamberRead => exact .inr ⟨_, isRequestTo_of_settle rfl rfl fun _ => rfl, fun _ => reports_chamberRead⟩
  | kilnPortRead => exact .inr ⟨_, isRequestTo_of_settle rfl rfl fun _ => rfl, fun _ => reports_kilnPortRead⟩
  | transitRead => exact .inr ⟨_, isRequestTo_of_exec rfl rfl fun _ => rfl, fun _ => reports_transitRead⟩
  | planRead => exact .inr ⟨_, isRequestTo_of_exec rfl rfl fun _ => rfl, fun _ => reports_planRead⟩
  | packRead => exact .inr ⟨_, isRequestTo_of_exec rfl rfl fun _ => rfl, fun _ => reports_packRead⟩
  | packList => exact .inr ⟨_, isRequestTo_of_exec rfl rfl fun _ => rfl, fun _ => reports_packList⟩
  | templateRead => exact .inr ⟨_, isRequestTo_of_exec rfl rfl fun _ => rfl, fun _ => reports_templateRead⟩
  | labelRead => exact .inr ⟨_, isRequestTo_of_exec rfl rfl fun _ => rfl, fun _ => reports_labelRead⟩
  | attnRead => exact .inr ⟨_, isRequestTo_of_exec rfl rfl fun _ => rfl, fun _ => reports_attnRead⟩
  | chargeCreate | chargeLimits | chargeRelease | chargeFeedEnd | chargeRetire | speciesSet | schedDefine | schedAmend
  | schedDelete | lineSet | dimensionSet | lineRestart | planLoadHeader | planLoadRules | planSwitch | packClose
  | packRelease | packReject | packRetire | packNumberSet | templateLoadHeader | templateLoadPlacement | labelReprint
  | labelPortSet | labelPortClear | attnAck | attnMask =>
    exact .inr ⟨_, isRequestTo_of_exec rfl rfl fun _ => rfl, nofun⟩
  | chamberLoad | chamberStart | chamberHold | chamberResume | chamberSkip | chamberReload | chamberAbort
  | chamberUnload | kilnPortSet =>
    exact .inr ⟨_, isRequestTo_of_settle rfl rfl fun _ => rfl, nofun⟩
  | powerOn | resetNAssert | resetNRelease | readAnswer | brokenRequestTransfer | emptyTransfer | minuteTick
  | workingLimitReached | roundTimerExpiry | deferredRoundStart | transaction | setpointSent | scanReply
  | replyWindowClose | encPulse | edge | expiry | boardMessage | openEvent | closeEvent | composition | lblStart | rowRead
  | lblEnd | passTimeoutExpiry | startCharacter =>
    cases h

/-! ## What a request transfer leaves (R174 to R176, R179) -/

section Transfer
variable {s : State} (hr : s.linkReady = true) {code d : Byte} {owner : List Byte → State → Reply} {bs : List Byte}
include hr

/-- A declared length above 250 is answered before the owner (R174). -/
theorem State.request_overlong (hd : 250 < d.toNat) :
    s.request code owner d bs = s.answered [code, d] (2 + bs.length) ⟨.badLength, []⟩ := by
  rw [State.request, if_neg (by simp [hr]), if_pos hd]

/-- Fewer bytes than declared break the transfer (R175). -/
theorem State.request_short (hd : d.toNat ≤ 250) (hb : bs.length < d.toNat) :
    s.request code owner d bs = s.broken (2 + bs.length) := by
  rw [State.request, if_neg (by simp [hr]), if_neg (Nat.not_lt.mpr hd), if_pos hb]

/-- The owner takes a whole request (R174, R176). -/
theorem State.request_whole (hd : d.toNat ≤ 250) (hb : d.toNat ≤ bs.length) :
    s.request code owner d bs =
      s.conclude (code :: d :: bs.take d.toNat) (2 + bs.length) (owner (bs.take d.toNat) s) := by
  rw [State.request, if_neg (by simp [hr]), if_neg (Nat.not_lt.mpr hd), if_neg (Nat.not_lt.mpr hb)]

/-- A request leaves every record as it was and an answer without a payload, or the records as its owner answers OK. -/
theorem State.request_leaves (t : State) (ht : s.request code owner d bs = t) :
    (t = { s with link := t.link } ∧ t.link.answer.payload = []) ∨
      ∃ p a u, owner p s = .ok a u ∧ t = { u with link := t.link } ∧ t.link.answer.status = .ok := by
  subst ht
  by_cases hd : d.toNat ≤ 250
  · by_cases hb : d.toNat ≤ bs.length
    · rw [State.request_whole hr hd hb]
      cases ho : owner (bs.take d.toNat) s with
      | ok a u => exact .inr ⟨_, a, u, ho, rfl, rfl⟩
      | refuse st => exact .inl ⟨rfl, rfl⟩
    · rw [State.request_short hr hd (Nat.lt_of_not_le hb)]
      exact .inl ⟨rfl, rfl⟩
  · rw [State.request_overlong hr (Nat.lt_of_not_le hd)]
    exact .inl ⟨rfl, rfl⟩

end Transfer

/-! ## Requests that name no owner (R174, R176) -/

section Unknown
variable {s : State} {code d : Byte} {bs : List Byte}

theorem exec_unknownRequest_overlong (hr : s.linkReady = true) (hd : 250 < d.toNat) : exec (.unknownRequest code d bs) s =
    .next (s.answered [code, d] (2 + bs.length) ⟨.unknownRequest, []⟩) := by
  rw [exec, execUnknownRequest, hr, if_pos (by simpa using hd)]

theorem exec_unknownRequest (hd : d.toNat ≤ 250) : exec (.unknownRequest code d bs) s =
    .next (s.request code (fun _ _ => .refuse .unknownRequest) d bs) := by
  rw [exec, execUnknownRequest, if_neg (by simpa using fun _ => hd)]

end Unknown

/-- Settles O7: a request leaves the records of its owner's answer, a refusal leaves those it met, and the owner of a
report answers with those it met. -/
theorem refusalsAndReportsChangeNoRecord : Obligations.RefusalsAndReportsChangeNoRecord := by
  unfold Obligations.RefusalsAndReportsChangeNoRecord
  intro s c t hr hs hreq hx
  rcases request_owner hreq with ⟨code, d, bs, rfl⟩ | ⟨owner, ⟨code, d, bs, -, -, howner⟩, hreport⟩
  · refine ⟨fun _ => ?_, nofun⟩
    by_cases hd : d.toNat ≤ 250
    · rw [exec_unknownRequest hd] at hx
      rcases State.request_leaves hr t (Outcome.next_inj hx) with hleft | ⟨_, _, _, ho, -⟩
      · exact hleft
      · cases ho
    · rw [exec_unknownRequest_overlong hr (Nat.lt_of_not_le hd)] at hx
      cases hx
      exact ⟨rfl, rfl⟩
  · rw [howner s hs] at hx
    rcases State.request_leaves hr t (Outcome.next_inj hx) with hleft | ⟨p, a, u, ho, hrecords, hok⟩
    · exact ⟨fun _ => hleft, fun _ => hleft.1⟩
    · refine ⟨fun hne => absurd hok hne, fun hrep => ?_⟩
      obtain rfl : u = s := (hreport hrep p s).of_ok ho
      exact hrecords

/-- Settles O6: the transfers that the link itself ends, and the two lengths at which it answers before an owner. -/
theorem transfersThatReachNoOwner : Obligations.TransfersThatReachNoOwner := by
  unfold Obligations.TransfersThatReachNoOwner
  have hbroken (s : State) (received : List Byte) (hr : s.linkReady = true) :
      exec (.brokenRequestTransfer received) s = .next (s.broken received.length) := by
    rw [exec, execBrokenRequestTransfer, if_neg (by simp [hr])]
  refine ⟨⟨hbroken, fun s hr => ?_, fun s c code d bs hr hs hc hb hd hshort => ?_⟩, fun s code d bs hr hwhole => ?_,
    fun s c code d bs hr hs hc hne hb hd => ?_⟩
  · rw [exec, execEmptyTransfer, if_neg (by simp [hr])]
  · have hlen : (code :: d :: bs).length = 2 + bs.length := Nat.add_comm _ 2
    rw [hbroken s _ hr, hlen]
    rcases request_owner (by rw [hb]; rfl) with ⟨code', d', bs', rfl⟩ | ⟨owner, ⟨code', d', bs', hc', hb', howner⟩, -⟩
    · cases hc
      cases hb
      rw [exec_unknownRequest hd, State.request_short hr hd hshort]
    · cases hc.symm.trans hc'
      cases hb.symm.trans hb'
      rw [howner s hs, State.request_short hr hd hshort]
  · by_cases hd : d.toNat ≤ 250
    · have hb : d.toNat ≤ bs.length := Nat.le_of_not_lt fun h => hwhole ⟨hd, h⟩
      rw [exec_unknownRequest hd, State.request_whole hr hd hb, if_pos hd]
      rfl
    · rw [exec_unknownRequest_overlong hr (Nat.lt_of_not_le hd), if_neg hd]
      rfl
  · rcases request_owner (by rw [hb]; rfl) with ⟨code', d', bs', rfl⟩ | ⟨owner, ⟨code', d', bs', hc', hb', howner⟩, -⟩
    · exact absurd rfl (hne code' d' bs')
    · cases hc.symm.trans hc'
      cases hb.symm.trans hb'
      rw [howner s hs, State.request_overlong hr hd]
      rfl

end Sys2Proof.Machine
end

section
/-! The waiting commands through every operation of packs, kiln side, outfeed and labels: none of them is taken,
added or moved. -/

namespace Sys2Proof.Machine

section Operations
variable (s : State)

/-! ## Packs (R134 to R140, R149) -/

/-- Operations that change packs, labels and attention alone. -/
theorem State.pending_of_apart {s t : State} (h : s.apartFromPacks = t.apartFromPacks) : s.pending = t.pending := by
  rw [State.eq_of_apart h]

@[simp] theorem State.closePack_pending (i : Nat) : (s.closePack i).pending = s.pending :=
  State.pending_of_apart (s.closePack_apart i)

@[simp] theorem State.closeRequest_pending (i : Nat) (why : CloseReason) : (s.closeRequest i why).pending = s.pending :=
  State.pending_of_apart (s.closeRequest_apart i why)

@[simp] theorem State.stageFive_pending (q bin : Nat) (why : Reason) (plan : Plan) :
    (s.stageFive q bin why plan).1.pending = s.pending :=
  State.pending_of_apart (s.stageFive_apart q bin why plan)

@[simp] theorem State.withdrawPacks_pending (charge : Nat) : (s.withdrawPacks charge).pending = s.pending :=
  State.pending_of_apart (s.withdrawPacks_apart charge)

@[simp] theorem State.enterQuarantine_pending (i n : Nat) : (s.enterQuarantine i n).pending = s.pending := by
  simp [State.enterQuarantine]

@[simp] theorem State.modifyChargeOf_pending (i : Option Nat) (f : Charge → Charge) :
    (s.modifyChargeOf i f).pending = s.pending := by cases i <;> rfl

@[simp] theorem State.deliver_pending (i : Nat) (d : Decision) : (s.deliver i d).pending = s.pending := by
  unfold State.deliver
  split
  · rfl
  · dsimp only
    split <;> simp

@[simp] theorem State.unbindPack_pending (i : Nat) : (s.unbindPack i).pending = s.pending := by
  unfold State.unbindPack
  split
  · rfl
  · dsimp only
    split
    · split
      · simp
      · split <;> rfl
    · rfl

@[simp] theorem State.lowerPackRefs_pending (l : List Nat) : (s.lowerPackRefs l).pending = s.pending :=
  List.foldlRecOn (motive := fun t : State => t.pending = s.pending) _ _ rfl fun _ ht _ _ => ht

/-! ## The kiln side (R50, R58 to R66, R80 to R87) -/

@[simp] theorem State.modifyRefCount_pending (n : Nat) (f : Nat → Nat) : (s.modifyRefCount n f).pending = s.pending := by
  unfold State.modifyRefCount
  split <;> rfl

@[simp] theorem State.raiseFault_pending (newly : Bool) (n : Nat) : (s.raiseFault newly n).pending = s.pending := by
  unfold State.raiseFault
  split <;> rfl

@[simp] theorem State.advanceStep_pending (n : Nat) (c : Chamber) (how : LastAdvance) :
    (s.advanceStep n c how).pending = s.pending := by
  unfold State.advanceStep
  split
  · rfl
  · dsimp only
    split
    · rfl
    · simp [State.completeChamber]

@[simp] theorem State.limitAction_pending (n : Nat) : (s.limitAction n).pending = s.pending := by
  unfold State.limitAction
  split
  · rfl
  · split
    · dsimp only
      split
      · split <;> simp
      · rfl
    · rfl

@[simp] theorem State.settleTicks_pending : s.settleTicks.pending = s.pending :=
  List.foldlRecOn (motive := fun t : State => t.pending = s.pending) _ (fun s k => s.limitAction (k + 1)) rfl
    fun t ht k _ => (t.limitAction_pending (k + 1)).trans ht

@[simp] theorem State.startDeferred_pending : s.startDeferred.pending = s.pending := by
  unfold State.startDeferred
  split <;> rfl

theorem State.fieldEvent_pending {f : State → State} (hf : ∀ s, (f s).pending = s.pending) :
    (s.fieldEvent f).pending = s.pending := by
  unfold State.fieldEvent
  split
  · rfl
  · exact hf s

@[simp] theorem State.settle_pending : s.settle.pending = s.pending :=
  s.fieldEvent_pending fun s => by simp

@[simp] theorem State.timerExpiry_pending : s.timerExpiry.pending = s.pending := by
  unfold State.timerExpiry
  split
  · rfl
  · dsimp only
    split <;> rfl

@[simp] theorem State.beginTransaction_pending : s.beginTransaction.pending = s.pending := by
  unfold State.beginTransaction
  split
  · split
    · rfl
    · split
      · rfl
      · split <;> rfl
  · rfl

theorem State.openWindow_pending : s.openWindow.pending = s.pending := by
  unfold State.openWindow
  split
  · split <;> rfl
  · rfl

@[simp] theorem State.acceptScan_pending (n : Nat) (sc : ScanReadings) : (s.acceptScan n sc).pending = s.pending := by
  have htest (u : State) (c : Chamber) : (u.testMoisture n c).pending = u.pending := by
    unfold State.testMoisture
    split
    · split
      · exact u.advanceStep_pending n c .moisture
      · rfl
    · rfl
  unfold State.acceptScan
  split
  · rfl
  · split
    · rfl
    · simp [htest]

@[simp] theorem State.takeMiss_pending (n count limit : Nat) : (s.takeMiss n count limit).pending = s.pending := by
  unfold State.takeMiss
  split
  · rfl
  · split
    · rfl
    · split
      · simp
      · rfl

@[simp] theorem State.endTransaction_pending (t : Transaction) (o : ReplyOutcome) (chars : List RxChar) :
    (s.endTransaction t o chars).pending = s.pending := by
  unfold State.endTransaction
  dsimp only
  split
  · dsimp only
    split <;> simp
  · split <;> simp

@[simp] theorem State.receiveReply_pending (chars : List RxChar) : (s.receiveReply chars).pending = s.pending := by
  unfold State.receiveReply
  split
  · split
    · dsimp only
      split
      · simp
      · rfl
    · rfl
  · rfl

@[simp] theorem State.closeWindow_pending (chars : List RxChar) : (s.closeWindow chars).pending = s.pending := by
  unfold State.closeWindow
  split
  · split
    · simp
    · rfl
  · rfl

/-! ## The events of an entry (R95, R101, R102, R106, R124) -/

@[simp] theorem State.drainCheck_pending (n : Nat) : (s.drainCheck n).pending = s.pending := by
  unfold State.drainCheck
  dsimp only
  split <;> rfl

@[simp] theorem State.decideNoData_pending (e : Entry) : (s.decideNoData e).pending = s.pending := rfl

@[simp] theorem State.closeEntry_pending (q : Nat) (d : Decision) : (s.closeEntry q d).pending = s.pending := by
  unfold State.closeEntry
  dsimp only
  split <;> simp

@[simp] theorem State.takeDue_pending (q : Nat) : (s.takeDue q).pending = s.pending := by
  unfold State.takeDue
  split
  · split
    · rfl
    · rfl
    · simp
    · rfl
  · rfl

@[simp] theorem State.takeReached_pending (k q : Nat) : (s.takeReached k q).pending = s.pending := by
  induction k generalizing s with
  | zero => rfl
  | succ k ih =>
    unfold State.takeReached
    split
    · rw [ih, State.takeDue_pending]
    · rfl

@[simp] theorem State.chainEvent_pending (due : Due) (q : Nat) : (s.chainEvent due q).pending = s.pending := by
  unfold State.chainEvent
  split
  · simp
  · rfl

@[simp] theorem State.settleChain_pending : s.settleChain.pending = s.pending :=
  List.foldlRecOn (motive := fun t : State => t.pending = s.pending) _ (fun s q => s.takeReached 3 q) rfl
    fun t ht q _ => (t.takeReached_pending 3 q).trans ht

theorem State.takeEdge_pending : s.takeEdge.pending = s.pending := by
  unfold State.takeEdge
  dsimp only
  split
  · rfl
  · split
    · rfl
    · simp

/-! ## A board arrives (R98 to R105, R184) -/

@[simp] theorem State.arriveFound_pending (e : Entry) (m : BoardMessage) (i : Nat) (c : Charge) :
    (s.arriveFound e m i c).pending = s.pending := by
  have hmeasure : (s.measureBoard m i c).1.pending = s.pending := by
    unfold State.measureBoard
    dsimp only
    split
    · simp
    · rfl
  unfold State.arriveFound
  dsimp only
  generalize s.measureBoard m i c = x at *
  exact (State.stageFive_pending (x.1.countDecision x.1.sorter.activeSlot) _ _ _ _).trans hmeasure

@[simp] theorem State.arrive_pending (e : Entry) (m : BoardMessage) : (s.arrive e m).pending = s.pending := by
  unfold State.arrive
  rw [State.takeReached_pending]
  split
  · rfl
  · simp

@[simp] theorem State.skipEntries_pending (l : List Entry) : (s.skipEntries l).pending = s.pending :=
  List.foldlRecOn (motive := fun t : State => t.pending = s.pending) _ _ rfl
    fun t ht e _ => (State.takeReached_pending (t.decideNoData e) 3 e.sequence).trans ht

@[simp] theorem State.pairOrOrphan_pending (m : BoardMessage) : (s.pairOrOrphan m).pending = s.pending := by
  unfold State.pairOrOrphan
  split
  · simp
  · rfl

@[simp] theorem State.pair_pending (m : BoardMessage) : (s.pair m).pending = s.pending := by
  unfold State.pair
  split
  · rfl
  · dsimp only
    split
    · simp
    · split
      · simp
      · rfl

@[simp] theorem State.finishMessage_pending (l : List RxChar) : (s.finishMessage l).pending = s.pending := by
  unfold State.finishMessage
  split
  · rfl
  · split
    · simp
    · rfl

theorem State.boardChar_pending (c : RxChar) : (s.boardChar c).pending = s.pending := by
  unfold State.boardChar
  split
  · split <;> rfl
  · split
    · rfl
    · split
      · rfl
      · simp

theorem State.boardChars_pending (l : List RxChar) : (l.foldl State.boardChar s).pending = s.pending :=
  List.foldlRecOn (motive := fun t : State => t.pending = s.pending) _ _ rfl
    fun t ht c _ => (t.boardChar_pending c).trans ht

/-! ## LINE_RESTART and PLAN_SWITCH (R112, R123) -/

theorem State.unbindEntry_pending (e : Entry) : (s.unbindEntry e).pending = s.pending := by
  unfold State.unbindEntry
  split
  · rfl
  · dsimp only
    split <;> simp

theorem State.closeStoppedBins_pending (former new : Plan) : (s.closeStoppedBins former new).1.pending = s.pending := by
  refine List.foldlRecOn (motive := fun acc : State × Nat => acc.1.pending = s.pending) _ _ rfl fun acc ht bin _ => ?_
  unfold closeForPlan
  split
  · exact ht
  · simpa using ht

/-! ## Labels (R158 to R162) -/

theorem State.composition_pending : s.composition.pending = s.pending := by
  unfold State.composition
  split
  · split <;> rfl
  · rfl

theorem State.startPass_pending : s.startPass.pending = s.pending := by
  unfold State.startPass
  split
  · dsimp only
    split <;> rfl
  · dsimp only
    split <;> rfl
  · rfl

theorem State.endPass_pending : s.endPass.pending = s.pending := by
  unfold State.endPass
  split
  · dsimp only
    split <;> rfl
  · rfl

theorem State.expirePass_pending : s.expirePass.pending = s.pending := by
  unfold State.expirePass
  split
  · dsimp only
    split
    · split <;> rfl
    · rfl
  · rfl

end Operations
end Sys2Proof.Machine
end

section
/-! The waiting commands through the requests, and through every command (O2). -/

namespace Sys2Proof.Machine

/-! ## The owners of the requests -/

/-- The owner answers with the waiting commands as they were. -/
def KeepsPending (owner : List Byte → State → Reply) : Prop := ∀ p s, (owner p s).Ends (·.pending = s.pending)

theorem Reports.keepsPending {owner : List Byte → State → Reply} (h : Reports owner) : KeepsPending owner :=
  fun p s => (h p s).mono fun _ => congrArg State.pending

section Owners
open Reply.Ends

/-! ### Charges, species and schedules -/

theorem keepsPending_chargeCreate : KeepsPending chargeCreate := by
  refine fun p s => check (check (check ?_))
  split
  · exact refuse
  · exact ok rfl

theorem keepsPending_chargeLimits : KeepsPending chargeLimits := by
  refine fun p s => check (check ?_)
  split
  · exact refuse
  · exact ok rfl

theorem keepsPending_chargeRelease : KeepsPending chargeRelease := by
  refine fun p s => check (check ?_)
  split
  · exact refuse
  · exact check (ok rfl)

theorem keepsPending_chargeFeedEnd : KeepsPending chargeFeedEnd := fun _ _ => ofCharge fun _ _ => branch (ok rfl) refuse

theorem keepsPending_chargeRetire : KeepsPending chargeRetire := fun _ _ => ofCharge fun _ _ => check (check (ok rfl))

theorem keepsPending_speciesSet : KeepsPending speciesSet := fun _ _ => check (check (ok rfl))

theorem keepsPending_schedDefine : KeepsPending schedDefine := by
  refine fun p s => check (check ?_)
  split
  · exact refuse
  · split
    · exact ok rfl
    · exact check (ok rfl)

theorem keepsPending_schedAmend : KeepsPending schedAmend := by
  refine fun p s => check (check ?_)
  split
  · exact refuse
  · split
    · exact refuse
    · exact check (ok rfl)

theorem keepsPending_schedDelete : KeepsPending schedDelete := fun _ _ => ofSchedule fun _ _ => check (ok rfl)

/-! ### Chambers and the kiln port -/

theorem keepsPending_chamberLoad : KeepsPending chamberLoad := by
  refine fun p s => check (check ?_)
  split
  · exact check (ok (by simp))
  · exact refuse

theorem keepsPending_chamberStart : KeepsPending chamberStart := fun _ _ => ofChamber fun _ _ => check (ok rfl)

theorem keepsPending_chamberHold : KeepsPending chamberHold := fun _ _ => ofChamber fun _ _ => check (ok rfl)

theorem keepsPending_chamberResume : KeepsPending chamberResume := fun _ _ => ofChamber fun _ _ => check (ok rfl)

theorem keepsPending_chamberSkip : KeepsPending chamberSkip :=
  fun _ _ => ofChamber fun _ _ => check (ok (State.advanceStep_pending _ _ _ _))

theorem keepsPending_chamberReload : KeepsPending chamberReload := fun _ _ => ofChamber fun _ _ => check (ok rfl)

theorem keepsPending_chamberAbort : KeepsPending chamberAbort :=
  fun _ _ => ofChamber fun _ _ => check (branch (ok rfl) (ok rfl))

theorem keepsPending_chamberUnload : KeepsPending chamberUnload :=
  fun _ _ => ofChamber fun _ _ => check (ok (by simp))

theorem keepsPending_kilnPortSet : KeepsPending kilnPortSet := fun _ _ => check (check (ok rfl))

/-! ### The outfeed and the plans -/

theorem keepsPending_lineSet : KeepsPending lineSet := fun _ _ => check (check (check (ok rfl)))

theorem keepsPending_dimensionSet : KeepsPending dimensionSet := fun _ _ => check (check (check (ok rfl)))

theorem keepsPending_lineRestart : KeepsPending lineRestart := by
  refine fun p s => check (ok ?_)
  exact List.foldlRecOn (motive := fun t : State => t.pending = s.pending) _ _ rfl
    fun t ht e _ => (t.unbindEntry_pending e).trans ht

theorem keepsPending_planLoad : KeepsPending planLoad := by
  have hheader : KeepsPending planHeader := fun _ _ => check (check (check (ok rfl)))
  have hrules : KeepsPending planRules := by
    refine fun p s => check (check ?_)
    dsimp only
    split
    · exact refuse
    · exact check (check (ok rfl))
  intro p s
  unfold planLoad
  split
  · exact refuse
  · exact branch (hheader _ s) (branch (hrules _ s) refuse)

theorem keepsPending_planSwitch : KeepsPending planSwitch := by
  refine fun p s => check (check ?_)
  dsimp only
  split
  · exact refuse
  · exact refuse
  · exact ok (State.closeStoppedBins_pending _ _ _)

/-! ### Packs, labels and attention -/

theorem keepsPending_packClose : KeepsPending packClose :=
  fun _ _ => ofPack fun _ _ => check (ok (State.closeRequest_pending _ _ _))

theorem keepsPending_packRelease : KeepsPending packRelease := fun _ _ => ofPack fun _ _ => check (ok rfl)

theorem keepsPending_packReject : KeepsPending packReject := fun _ _ => ofPack fun _ _ => check (ok rfl)

theorem keepsPending_packRetire : KeepsPending packRetire :=
  fun _ _ => ofPack fun _ _ => check (ok (State.lowerPackRefs_pending _ _))

theorem keepsPending_packNumberSet : KeepsPending packNumberSet := fun _ _ => check (check (ok rfl))

theorem keepsPending_templateLoad : KeepsPending templateLoad := by
  have hheader : KeepsPending templateHeader := fun _ _ => check (check (ok rfl))
  have hplacement : KeepsPending templatePlacement := by
    refine fun p s => check (check ?_)
    split
    · exact refuse
    · split
      · exact refuse
      · exact check (ok rfl)
  intro p s
  unfold templateLoad
  split
  · exact refuse
  · exact branch (hheader _ s) (branch (hplacement _ s) refuse)

theorem keepsPending_labelReprint : KeepsPending labelReprint := fun _ _ => ofPack fun _ _ => check (ok rfl)

theorem keepsPending_labelPortSet : KeepsPending labelPortSet := fun _ _ => check (check (ok rfl))

theorem keepsPending_labelPortClear : KeepsPending labelPortClear := fun _ _ => check (check (ok rfl))

theorem keepsPending_attnAck : KeepsPending attnAck := fun _ _ => check (ok rfl)

theorem keepsPending_attnMask : KeepsPending attnMask := fun _ _ => check (check (ok rfl))

end Owners

/-! ## Commands -/

/-- The command completes, and leaves the waiting commands as they were. -/
def CompletesKeepingPending (c : Instr) : Prop := ∀ s, ∃ t, exec c s = .next t ∧ t.pending = s.pending

section Commands
variable {c : Instr}

/-- The end of a transfer that is taken or passed over (R173 to R178). -/
theorem completes_of_transfer {n : Nat} {f : State → State}
    (hx : ∀ s, exec c s = .next (if !s.linkReady then s.skipTransfer n else f s)) (hf : ∀ s, (f s).pending = s.pending) :
    CompletesKeepingPending c := by
  refine fun s => ⟨_, hx s, ?_⟩
  split
  · rw [State.skipTransfer_records]
  · exact hf s

theorem completes_of_event {f : State → State} (hx : ∀ s, exec c s = .next (s.fieldEvent f))
    (hf : ∀ s, (f s).pending = s.pending) : CompletesKeepingPending c :=
  fun s => ⟨_, hx s, s.fieldEvent_pending hf⟩

variable {code d : Byte} {bs : List Byte} {owner : List Byte → State → Reply}

theorem State.request_pending (ho : KeepsPending owner) (s : State) : (s.request code owner d bs).pending = s.pending := by
  cases hr : s.linkReady with
  | false => rw [State.request_not_ready hr, State.skipTransfer_records]
  | true =>
    rcases State.request_leaves hr _ rfl with ⟨hleft, -⟩ | ⟨p, a, u, hok, hleft, -⟩
    · rw [hleft]
    · have hu : u.pending = s.pending := (ho p s).of_ok hok
      rw [hleft]
      exact hu

theorem completes_of_request (ho : KeepsPending owner) (hx : ∀ s, exec c s = .next (s.request code owner d bs)) :
    CompletesKeepingPending c :=
  fun s => ⟨_, hx s, State.request_pending ho s⟩

theorem completes_of_settledRequest (ho : KeepsPending owner)
    (hx : ∀ s, exec c s = .next (s.settle.request code owner d bs)) : CompletesKeepingPending c :=
  fun s => ⟨_, hx s, (State.request_pending ho s.settle).trans s.settle_pending⟩

end Commands

theorem completes_resetNRelease (selLow : Bool) : CompletesKeepingPending (.resetNRelease selLow) := by
  refine fun s => ⟨_, rfl, ?_⟩
  split <;> rfl

theorem completes_unknownRequest (code d : Byte) (bs : List Byte) :
    CompletesKeepingPending (.unknownRequest code d bs) := by
  refine fun s => ⟨_, rfl, ?_⟩
  split
  · rfl
  · exact State.request_pending (fun _ _ => Reply.Ends.refuse) s

theorem completes_expiry : CompletesKeepingPending .expiry := by
  refine completes_of_event (fun _ => rfl) fun s => ?_
  split
  · simp
  · rfl

/-- Every command, command by command. -/
theorem completesKeepingPending (c : Instr) : CompletesKeepingPending c := by
  cases c with
  | powerOn => exact fun s => ⟨_, rfl, rfl⟩
  | resetNAssert => exact fun s => ⟨_, rfl, rfl⟩
  | resetNRelease selLow => exact completes_resetNRelease selLow
  | readAnswer => exact completes_of_transfer (fun _ => rfl) fun _ => rfl
  | brokenRequestTransfer => exact completes_of_transfer (fun _ => rfl) fun _ => rfl
  | emptyTransfer => exact completes_of_transfer (fun _ => rfl) fun _ => rfl
  | unknownRequest code d bs => exact completes_unknownRequest code d bs
  | partIdent => exact completes_of_request reports_partIdent.keepsPending fun _ => rfl
  | chargeCreate => exact completes_of_request keepsPending_chargeCreate fun _ => rfl
  | chargeRead => exact completes_of_request reports_chargeRead.keepsPending fun _ => rfl
  | chargeList => exact completes_of_request reports_chargeList.keepsPending fun _ => rfl
  | chargeLimits => exact completes_of_request keepsPending_chargeLimits fun _ => rfl
  | chargeRelease => exact completes_of_request keepsPending_chargeRelease fun _ => rfl
  | chargeFeedEnd => exact completes_of_request keepsPending_chargeFeedEnd fun _ => rfl
  | chargeRetire => exact completes_of_request keepsPending_chargeRetire fun _ => rfl
  | speciesSet => exact completes_of_request keepsPending_speciesSet fun _ => rfl
  | speciesRead => exact completes_of_request reports_speciesRead.keepsPending fun _ => rfl
  | mcTest => exact completes_of_request reports_mcTest.keepsPending fun _ => rfl
  | schedDefine => exact completes_of_request keepsPending_schedDefine fun _ => rfl
  | schedAmend => exact completes_of_request keepsPending_schedAmend fun _ => rfl
  | schedRead => exact completes_of_request reports_schedRead.keepsPending fun _ => rfl
  | schedDelete => exact completes_of_request keepsPending_schedDelete fun _ => rfl
  | chamberLoad => exact completes_of_settledRequest keepsPending_chamberLoad fun _ => rfl
  | chamberStart => exact completes_of_settledRequest keepsPending_chamberStart fun _ => rfl
  | chamberHold => exact completes_of_settledRequest keepsPending_chamberHold fun _ => rfl
  | chamberResume => exact completes_of_settledRequest keepsPending_chamberResume fun _ => rfl
  | chamberSkip => exact completes_of_settledRequest keepsPending_chamberSkip fun _ => rfl
  | chamberReload => exact completes_of_settledRequest keepsPending_chamberReload fun _ => rfl
  | chamberAbort => exact completes_of_settledRequest keepsPending_chamberAbort fun _ => rfl
  | chamberUnload => exact completes_of_settledRequest keepsPending_chamberUnload fun _ => rfl
  | chamberRead => exact completes_of_settledRequest reports_chamberRead.keepsPending fun _ => rfl
  | kilnPortSet => exact completes_of_settledRequest keepsPending_kilnPortSet fun _ => rfl
  | kilnPortRead => exact completes_of_settledRequest reports_kilnPortRead.keepsPending fun _ => rfl
  | lineSet => exact completes_of_request keepsPending_lineSet fun _ => rfl
  | dimensionSet => exact completes_of_request keepsPending_dimensionSet fun _ => rfl
  | transitRead => exact completes_of_request reports_transitRead.keepsPending fun _ => rfl
  | lineRestart => exact completes_of_request keepsPending_lineRestart fun _ => rfl
  | planLoadHeader => exact completes_of_request keepsPending_planLoad fun _ => rfl
  | planLoadRules => exact completes_of_request keepsPending_planLoad fun _ => rfl
  | planSwitch => exact completes_of_request keepsPending_planSwitch fun _ => rfl
  | planRead => exact completes_of_request reports_planRead.keepsPending fun _ => rfl
  | packRead => exact completes_of_request reports_packRead.keepsPending fun _ => rfl
  | packList => exact completes_of_request reports_packList.keepsPending fun _ => rfl
  | packClose => exact completes_of_request keepsPending_packClose fun _ => rfl
  | packRelease => exact completes_of_request keepsPending_packRelease fun _ => rfl
  | packReject => exact completes_of_request keepsPending_packReject fun _ => rfl
  | packRetire => exact completes_of_request keepsPending_packRetire fun _ => rfl
  | packNumberSet => exact completes_of_request keepsPending_packNumberSet fun _ => rfl
  | templateLoadHeader => exact completes_of_request keepsPending_templateLoad fun _ => rfl
  | templateLoadPlacement => exact completes_of_request keepsPending_templateLoad fun _ => rfl
  | templateRead => exact completes_of_request reports_templateRead.keepsPending fun _ => rfl
  | labelReprint => exact completes_of_request keepsPending_labelReprint fun _ => rfl
  | labelRead => exact completes_of_request reports_labelRead.keepsPending fun _ => rfl
  | labelPortSet => exact completes_of_request keepsPending_labelPortSet fun _ => rfl
  | labelPortClear => exact completes_of_request keepsPending_labelPortClear fun _ => rfl
  | attnRead => exact completes_of_request reports_attnRead.keepsPending fun _ => rfl
  | attnAck => exact completes_of_request keepsPending_attnAck fun _ => rfl
  | attnMask => exact completes_of_request keepsPending_attnMask fun _ => rfl
  | minuteTick => exact completes_of_event (fun _ => rfl) State.settle_pending
  | workingLimitReached n => exact completes_of_event (fun _ => rfl) fun s => s.limitAction_pending n
  | roundTimerExpiry => exact completes_of_event (fun _ => rfl) fun s => by simp
  | deferredRoundStart => exact completes_of_event (fun _ => rfl) State.startDeferred_pending
  | transaction => exact completes_of_event (fun _ => rfl) fun s => by simp
  | setpointSent => exact completes_of_event (fun _ => rfl) State.openWindow_pending
  | scanReply => exact completes_of_event (fun _ => rfl) fun s => by simp
  | replyWindowClose => exact completes_of_event (fun _ => rfl) fun s => by simp
  | encPulse => exact completes_of_event (fun _ => rfl) State.settleChain_pending
  | edge => exact completes_of_event (fun _ => rfl) State.takeEdge_pending
  | expiry => exact completes_expiry
  | boardMessage frames => exact completes_of_event (fun _ => rfl) fun s => s.boardChars_pending (boardChars frames)
  | openEvent q => exact completes_of_event (fun _ => rfl) fun s => s.chainEvent_pending .openGate q
  | closeEvent q => exact completes_of_event (fun _ => rfl) fun s => s.chainEvent_pending .closeGate q
  | composition => exact completes_of_event (fun _ => rfl) State.composition_pending
  | lblStart => exact completes_of_event (fun _ => rfl) State.startPass_pending
  | rowRead => exact completes_of_event (fun _ => rfl) fun _ => rfl
  | lblEnd => exact completes_of_event (fun _ => rfl) State.endPass_pending
  | passTimeoutExpiry => exact completes_of_event (fun _ => rfl) State.expirePass_pending
  | startCharacter => exact completes_of_event (fun _ => rfl) fun s => s.boardChar_pending ⟨35, false⟩

/-- Settles O2: no meaning ends in a fault or a refusal, and none reaches the waiting commands. -/
theorem everyCommandCompletesAndKeepsTheQueue : Obligations.EveryCommandCompletesAndKeepsTheQueue := by
  unfold Obligations.EveryCommandCompletesAndKeepsTheQueue
  exact completesKeepingPending

end Sys2Proof.Machine
end

section
/-! The step by the queue of waiting commands (assumption 1). -/

namespace Sys2Proof.Machine

theorem step_of_pending_nil {s : State} (h : s.pending = []) : step s = .next s := by
  rw [step, h]

theorem step_of_pending_cons {s : State} {c : Instr} {q : List Instr} (h : s.pending = c :: q) :
    step s = exec c { s with pending := q } := by
  rw [step, h]

/-- Settles O1: the queue is either empty or has a front, and the step looks at nothing else of the state. -/
theorem stepTakesTheFrontCommand : Obligations.StepTakesTheFrontCommand := by
  unfold Obligations.StepTakesTheFrontCommand
  exact fun _ _ _ => ⟨step_of_pending_cons rfl, step_of_pending_nil rfl⟩

end Sys2Proof.Machine
end
